-- ==== Sys2Proof/Word.lean ====
section
/-! DEFINITION. The plain types the WL482 model is built from: bytes, samples, and banks (a fixed number of like
things, looked up by a bounded index), with the plainest arithmetic on them. -/

namespace Sys2Proof

/-- One byte of a frame, a message or a card reply. -/
abbrev Byte := BitVec 8

/-- A sample as a line or a frame carries it: a 24-bit two's complement number (00_scope, "Samples"). -/
abbrev Sample24 := BitVec 24

/-- A fixed number of like things: the three ports, the 64 channels, the 32 outputs, ... -/
abbrev Bank (n : Nat) (α : Type) := Vector α n

namespace Bank

/-- The member at an index. -/
def get {α : Type} {n : Nat} (b : Bank n α) (i : Fin n) : α := b[i.val]

/-- The bank with the member at an index replaced. -/
def put {α : Type} {n : Nat} (b : Bank n α) (i : Fin n) (x : α) : Bank n α := b.set i.val x

/-- The bank with the member at an index changed by a function. -/
def modify {α : Type} {n : Nat} (b : Bank n α) (i : Fin n) (f : α → α) : Bank n α := b.put i (f (b.get i))

/-- The bank all of whose members are the same. -/
def const {α : Type} (n : Nat) (x : α) : Bank n α := Vector.replicate n x

/-- The bank whose member at each index is given by a function. -/
def tabulate {α : Type} {n : Nat} (f : Fin n → α) : Bank n α := Vector.ofFn f

/-- The bank with every member changed by the same function. -/
def each {α β : Type} {n : Nat} (f : α → β) (b : Bank n α) : Bank n β := Vector.map f b

/-- The bank with every member changed by a function of its index. -/
def eachIdx {α β : Type} {n : Nat} (f : Fin n → α → β) (b : Bank n α) : Bank n β := tabulate fun i => f i (b.get i)

/-- The bank read off a list; places the list does not reach hold `d`. -/
def ofList {α : Type} (n : Nat) (d : α) (l : List α) : Bank n α := tabulate fun i => l.getD i.val d

@[simp] theorem get_put_same {α : Type} {n : Nat} (b : Bank n α) (i : Fin n) (x : α) : (b.put i x).get i = x := by
  simp [get, put]

theorem get_put_ne {α : Type} {n : Nat} (b : Bank n α) {i j : Fin n} (x : α) (h : i ≠ j) :
    (b.put i x).get j = b.get j := by
  simp only [get, put]
  exact Vector.getElem_set_ne _ _ (fun e => h (Fin.ext e))

theorem get_put {α : Type} {n : Nat} (b : Bank n α) (i j : Fin n) (x : α) :
    (b.put i x).get j = if i = j then x else b.get j := by
  by_cases h : i = j
  · subst h; simp
  · simp [h, get_put_ne b x h]

@[simp] theorem get_modify_same {α : Type} {n : Nat} (b : Bank n α) (i : Fin n) (f : α → α) :
    (b.modify i f).get i = f (b.get i) := by
  simp [modify]

theorem get_modify_ne {α : Type} {n : Nat} (b : Bank n α) {i j : Fin n} (f : α → α) (h : i ≠ j) :
    (b.modify i f).get j = b.get j :=
  get_put_ne b _ h

theorem get_modify {α : Type} {n : Nat} (b : Bank n α) (i j : Fin n) (f : α → α) :
    (b.modify i f).get j = if i = j then f (b.get i) else b.get j :=
  get_put b i j _

@[simp] theorem get_const {α : Type} {n : Nat} (x : α) (i : Fin n) : (const n x).get i = x := by
  simp [get, const]

@[simp] theorem get_tabulate {α : Type} {n : Nat} (f : Fin n → α) (i : Fin n) : (tabulate f).get i = f i := by
  simp [get, tabulate]

@[simp] theorem get_each {α β : Type} {n : Nat} (f : α → β) (b : Bank n α) (i : Fin n) :
    (b.each f).get i = f (b.get i) := by
  simp [get, each]

@[simp] theorem get_eachIdx {α β : Type} {n : Nat} (f : Fin n → α → β) (b : Bank n α) (i : Fin n) :
    (b.eachIdx f).get i = f i (b.get i) := by
  simp [eachIdx]

@[simp] theorem get_ofList {α : Type} {n : Nat} (d : α) (l : List α) (i : Fin n) :
    (ofList n d l).get i = l.getD i.val d := by
  simp [ofList]

end Bank

/-- The number the manual gives a thing that is numbered from 1 (a port, a lane's channel, a card, an output). -/
def num {n : Nat} (i : Fin n) : Nat := i.val + 1

/-- The thing the manual numbers `k`, numbering from 1, where there is one. -/
def ofNum (n k : Nat) : Option (Fin n) := if h : k - 1 < n ∧ 1 ≤ k then some ⟨k - 1, h.1⟩ else none

/-- All indexes of a bank, in ascending order. -/
def indexes (n : Nat) : List (Fin n) := List.finRange n

end Sys2Proof
end

