-- ==== Sys2Proof/Syntax.lean ====
section
/-! DEFINITION. The commands of the WL482: one constructor for each row of spec/opcode_table.json, with the
operands each takes from outside. The rows of the desks' requests name the port whose request queue they serve: the
request's own fields stand in that queue, where PLAYOUT put them (R44). -/

namespace Sys2Proof

/-- A desk port, 1 to 3 (index 0 is port 1). -/
abbrev Port := Fin 3
/-- A microphone channel, 1 to 64 (index 0 is channel 1). -/
abbrev Chan := Fin 64
/-- A preamp card, 1 to 8 (index 0 is card 1). -/
abbrev Card := Fin 8
/-- A stage output, 1 to 32 (index 0 is output 1). -/
abbrev OutNo := Fin 32

/-- The two lanes of a port. -/
inductive LaneName where
  | A
  | B
  deriving DecidableEq, Repr

/-- The other lane of the port. -/
def LaneName.other : LaneName → LaneName
  | .A => .B
  | .B => .A

/-- A slot condition (R168). -/
inductive Cond where
  | normal
  | silenced
  | concealed
  | clipped
  deriving DecidableEq, Repr

/-- The two hub rates (R112). -/
inductive Rate where
  | single
  | double
  deriving DecidableEq, Repr

/-- What makes a power-on reset: the supplies rising within range, or a release of the reset input (R165). -/
inductive ResetCause where
  | supplies
  | release
  deriving DecidableEq, Repr

/-- How long the reset input is held: at least 1 ms, or a shorter pulse (R165). -/
inductive ResetPulse where
  | full
  | short
  deriving DecidableEq, Repr

/-- The 120 bytes of an upstream frame, byte 1 of R168 at index 0. -/
abbrev UpBytes := Bank 120 Byte

/-- One converter input line in one frame period: the frame's first and second sample. At SINGLE rate the line gives
one sample, the first, and the second has no part (R85). -/
structure MicPair where
  first : Sample24
  second : Sample24
  deriving DecidableEq, Repr

/-- What the hub samples from outside at the end of a frame period: the 64 converter input lines, and the level of
the stage-talk button input (R147). -/
structure FrameInputs where
  mics : Bank 64 MicPair
  buttonPressed : Bool
  deriving DecidableEq, Repr

/-- What a card's poll reply says of one of its channels (R69). -/
structure CardChannel where
  gain : Byte
  pad : Bool
  phantomOn : Bool
  phantomFault : Bool
  deriving DecidableEq, Repr

/-- A card's poll reply (R69). -/
structure PollData where
  status : Byte
  channels : Bank 8 CardChannel
  deriving DecidableEq, Repr

/-- The commands: the rows of spec/opcode_table.json, in the table's order. -/
inductive Instr where
  /-- POWER_ON_RESET (R166). -/
  | powerOnReset (cause : ResetCause)
  /-- RESET_INPUT_ASSERT (R165). -/
  | resetInputAssert (pulse : ResetPulse)
  /-- POWER_LOSS (R164). -/
  | powerLoss
  /-- DOWNSTREAM_FRAME (R1): the start of a frame period. -/
  | downstreamFrame
  /-- LIGHT_LOST (R5). -/
  | lightLost (p : Port) (l : LaneName)
  /-- LIGHT_RETURNED (R5). -/
  | lightReturned (p : Port) (l : LaneName)
  /-- UPSTREAM_FRAME (R3): a frame with good sync completes on a lane. -/
  | upstreamFrame (p : Port) (l : LaneName) (bytes : UpBytes)
  /-- BAD_SYNC (R3). -/
  | badSync (p : Port) (l : LaneName)
  /-- ACQUIRED (R6). -/
  | acquired (p : Port) (l : LaneName)
  /-- SYNC_LOST (R9). -/
  | syncLost (p : Port) (l : LaneName)
  /-- QUALIFIED (R10). -/
  | qualified (p : Port) (l : LaneName)
  /-- LANE_DROP (R11). -/
  | laneDrop (p : Port) (l : LaneName)
  /-- PLAYOUT (R16): the end of a frame period. -/
  | playout (inputs : FrameInputs)
  /-- PLAYOUT_MUTE_END (R21). -/
  | playoutMuteEnd (p : Port)
  /-- ASSEMBLY_TIMEOUT (R40). -/
  | assemblyTimeout (p : Port)
  /-- WORDCLOCK_EDGE (R23). -/
  | wordclockEdge
  /-- WORDCLOCK_MISSING (R23). -/
  | wordclockMissing
  /-- CLOCK_LOCKED (R23). -/
  | clockLocked
  /-- CLOCK_HOLDOVER (R23). -/
  | clockHoldover
  /-- HOLD_EXPIRED (R29). -/
  | holdExpired (p : Port)
  /-- ATTACH (R31, R32). -/
  | attach (p : Port)
  /-- DETACH (R33). -/
  | detach (p : Port)
  /-- READ_PORT (R38). -/
  | readPort (p : Port)
  /-- READ_LANES (R12). -/
  | readLanes (p : Port)
  /-- CLEAR_LANE_COUNTERS (R12). -/
  | clearLaneCounters (p : Port)
  /-- SET_PORT (R20). -/
  | setPort (p : Port)
  /-- READ_HUB (R56). -/
  | readHub (p : Port)
  /-- SET_HUB (R55). -/
  | setHub (p : Port)
  /-- UNKNOWN_REQUEST (R44). -/
  | unknownRequest (p : Port)
  /-- READ_CHANNELS (R68). -/
  | readChannels (p : Port)
  /-- READ_CARDS (R75). -/
  | readCards (p : Port)
  /-- SET_GAIN (R64). -/
  | setGain (p : Port)
  /-- STEP_GAIN (R65). -/
  | stepGain (p : Port)
  /-- SET_PAD (R66). -/
  | setPad (p : Port)
  /-- SET_AUTHORITY (R62). -/
  | setAuthority (p : Port)
  /-- SET_PHANTOM (R99). -/
  | setPhantom (p : Port)
  /-- SET_TRIM (R94). -/
  | setTrim (p : Port)
  /-- SET_TRACKING (R95). -/
  | setTracking (p : Port)
  /-- ARM_NOTICES (R124). -/
  | armNotices (p : Port)
  /-- READ_METERS (R126). -/
  | readMeters (p : Port)
  /-- SET_PLAN (R115). -/
  | setPlan (p : Port)
  /-- READ_PLAN (R116). -/
  | readPlan (p : Port)
  /-- PATCH_OUTPUT (R135). -/
  | patchOutput (p : Port)
  /-- SET_OUTPUT (R136). -/
  | setOutput (p : Port)
  /-- READ_OUTPUTS (R138). -/
  | readOutputs (p : Port)
  /-- TALK_ON (R142). -/
  | talkOn (p : Port)
  /-- TALK_OFF (R143): an immediate request, taken from where PLAYOUT completed it. -/
  | talkOff (p : Port)
  /-- READ_TALK (R151). -/
  | readTalk (p : Port)
  /-- PROPOSE (R153). -/
  | propose (p : Port)
  /-- OBJECT (R156): an immediate request, taken from where PLAYOUT completed it. -/
  | object (p : Port)
  /-- WITHDRAW (R157). -/
  | withdraw (p : Port)
  /-- READ_CONSENT (R158). -/
  | readConsent (p : Port)
  /-- POLL (R71). -/
  | poll
  /-- WRITE (R69). -/
  | write
  /-- PHANTOM_OFF_ALL (R76). -/
  | phantomOffAll
  /-- SET_RATE (R76). -/
  | setRate
  /-- BROADCAST_END (R69). -/
  | broadcastEnd
  /-- POLL_REPLY (R74): a card's reply to a POLL. -/
  | pollReply (k : Card) (data : PollData)
  /-- WRITE_ACK (R72): a card's ACK, naming a channel. -/
  | writeAck (k : Card) (c : Chan)
  /-- TRANSACTION_TIMEOUT (R73). -/
  | transactionTimeout
  /-- APPLICATION_DUE (R60). -/
  | applicationDue (c : Chan)
  /-- COEFFICIENT_RAMP_END (R88). -/
  | coefficientRampEnd (p : Port) (c : Chan)
  /-- RAMPED (R105). -/
  | ramped (c : Chan)
  /-- SETTLED (R105). -/
  | settled (c : Chan)
  /-- DISCHARGED (R105). -/
  | discharged (c : Chan)
  /-- RATE_MUTE_END (R120). -/
  | rateMuteEnd
  /-- DELAY_EXPIRED (R130). -/
  | delayExpired (o : OutNo)
  /-- CROSSFADE_END (R132). -/
  | crossfadeEnd (o : OutNo)
  /-- DIM_RAMP_END (R133). -/
  | dimRampEnd (o : OutNo)
  /-- TALK_TIMED_OUT (R144). -/
  | talkTimedOut
  /-- STAGE_TALK_TAKEN (R147). -/
  | stageTalkTaken
  /-- CONSENT_WINDOW_EXPIRED (R155). -/
  | consentWindowExpired
  /-- QUIET_TIMER_EXPIRED (R163). -/
  | quietTimerExpired
  /-- RETAINED_WRITE_END (R163). -/
  | retainedWriteEnd
  deriving DecidableEq, Repr

end Sys2Proof
end

