-- ==== Sys2Proof/Config.lean ====
section
/-! DEFINITION. What the manual fixes as numbers of the part, and the values the manual leaves open, as constants
without a body. -/

namespace Sys2Proof.Config

/-! ### Free values: nothing in Lean knows what they are -/

/-- Whether a reset pulse shorter than 1 ms is taken whole or not at all: "either outcome may occur" (R165). The
argument is the count of the free values read before it. Assumption 7. -/
opaque shortPulseTaken : Nat → Bool

/-- The sample a slot carries to the consumers of a merge buffer in a frame period whose playout a raised playout
offset holds back (R21): the manual states none. Arguments: the count of free values read before, the slot's index.
Assumption 8. -/
opaque heldSample : Nat → Nat → Sample24

/-- The condition of the same slot. Assumption 8. -/
opaque heldCond : Nat → Nat → Nat

/-- The due frame that GAIN APPLIED carries when a first poll reply posts it (R74, step 3a): no application fell due,
and the manual states no value. Assumption 9. -/
opaque firstReplyDueFrame : Nat → Nat

/-! ### Numbers of the part -/

/-- Sequence numbers and lags are taken modulo this (R2, R4). -/
def seqMod : Nat := 65536
/-- Good frames in a row that take a lane from SEEKING to QUALIFYING (R6). -/
def acquireTarget : Nat := 4
/-- Bad-sync results in a row that take a lane from QUALIFYING to SEEKING (R9). -/
def badSyncTarget : Nat := 4
/-- Misses in a row that drop a lane (R11). -/
def missTarget : Nat := 3
/-- Frame periods of the mute after a change of P (R21). -/
def playoutMute : Nat := 32
/-- Frame periods without a byte that discard an assembly (R40). -/
def assemblyTarget : Nat := 64
/-- Frame periods in a row with no lane UP from which a port hands on silence (R18). -/
def silentAfter : Nat := 3
/-- Word-clock periods that lock the clock (R23). -/
def requalifyTarget : Nat := 48000
/-- Missing word-clock periods in a row that send the clock to HOLDOVER (R23). -/
def clockMissTarget : Nat := 4
/-- Places of a request queue (R42). -/
def requestPlaces : Nat := 8
/-- Requests from which HOLD is signalled (R43). -/
def holdLevel : Nat := 6
/-- Places of a reply queue (R48). -/
def replyPlaces : Nat := 8
/-- Places of a report queue (R53). -/
def reportPlaces : Nat := 32
/-- Frame periods of 1 ms (00_scope, "Time"). -/
def framesPerMs : Nat := 48
/-- Frame periods of 1 s. -/
def framesPerS : Nat := 48000
/-- Frame periods after which a card is overdue for a POLL (R71). -/
def overdueAfter : Nat := 4800
/-- The least frame periods from a POLL's start to its reply (R69). -/
def pollReplyMin : Nat := 24
/-- The least frame periods from a WRITE's start to its ACK (R69). -/
def writeAckMin : Nat := 12
/-- Frame periods of a broadcast (R69). -/
def broadcastLength : Nat := 4
/-- Frame periods after which a transaction times out (R73). -/
def transactionLimit : Nat := 96
/-- Timeouts in a row that make a card ABSENT (R73). -/
def absentAfter : Nat := 3
/-- The greatest analog gain, dB (R58). -/
def maxGain : Nat := 63
/-- What the pad takes from the gain, dB (R58). -/
def padLoss : Int := 20
/-- The limit of a trim, tenths of a dB (R94). -/
def maxTrim : Int := 240
/-- The limit of the compensation in force, tenths of a dB (R80). -/
def maxComp : Int := 400
/-- The coefficient that leaves a sample as it is (R78). -/
def unity : Nat := 65536
/-- Steps of a coefficient ramp and of a dim ramp (R88, R133). -/
def rampSteps : Nat := 32
/-- Steps of a crossfade (R132). -/
def fadeSteps : Nat := 480
/-- The most channels in RAMP_UP at a time (R103). -/
def maxRamping : Nat := 4
/-- Frame periods of the rate-change mute (R120). -/
def rateMute : Nat := 4800
/-- Frame periods of steady level after which a stage-talk level is taken (R147). -/
def steadyTarget : Nat := 960
/-- Frame periods of quiet after which the retained image is written (R163). -/
def quietTarget : Nat := 96000
/-- Frame periods of a write of the retained image (R163). -/
def writeLength : Nat := 1920
/-- Full scale, above (00_scope, "Samples"). -/
def fullScaleHigh : Int := 8388607
/-- Full scale, below. -/
def fullScaleLow : Int := -8388608

/-- The capacity of a slot plan at a rate (R114). -/
def capacity : Rate → Nat
  | .single => 95
  | .double => 47

end Sys2Proof.Config
end

