-- ==== Sys2Proof/Machine/State.lean ====
section
/-! DEFINITION. The state of the WL482, block by block as 00_scope gives the blocks, as plain data; the reasons a
step can stop; and the machine right after power-on reset. Levels in dB tenths, gains in dB and counts are numbers;
what the manual treats as bytes is bytes. A field marked MODEL is the model's own. -/

namespace Sys2Proof.Machine

/-! ### Lanes, merge buffers and the clock (chapter 1) -/

/-- A slot of a frame: a sample with its condition (R168). -/
structure Slot where
  sample : Int
  cond : Cond
  deriving DecidableEq, Repr

/-- A valid control byte, with or without its START mark (R39). -/
structure ControlByte where
  byte : Byte
  start : Bool
  deriving DecidableEq, Repr

/-- An upstream frame as received, kept as one lane's copy (1.3). -/
structure Copy where
  echo : Nat
  deskHold : Bool
  slots : Bank 33 Slot
  control : List ControlByte
  deriving DecidableEq, Repr

/-- Lane states (1.2). -/
inductive LaneState where
  | dark
  | seeking
  | qualifying
  | up
  deriving DecidableEq, Repr

/-- A lane unit (1.2, R14). -/
structure Lane where
  state : LaneState
  /-- acquisition count (R6) -/
  acquisition : Nat
  /-- qualify count (R7) -/
  qualify : Nat
  /-- consecutive-bad-sync count (R9) -/
  badSyncs : Nat
  /-- consecutive-miss count (R11) -/
  misses : Nat
  /-- over-budget mark (R8) -/
  overBudget : Bool
  /-- reference sequence number (R6) -/
  reference : Option Nat
  /-- last lag (R4) -/
  lastLag : Option Nat
  /-- error count (R12) -/
  errors : Nat
  /-- drop count (R12) -/
  drops : Nat
  /-- the loss-of-light input pin, set while it reads loss (R167) -/
  lossOfLight : Bool
  /-- set while frame positions are expected: a sync pattern has been found (R3) -/
  synced : Bool
  /-- MODEL: the fourth good frame of SEEKING, between its arrival and the ACQUIRED step (R6) -/
  fourth : Option Copy
  deriving DecidableEq, Repr

/-- The two lanes of a port. -/
structure Lanes where
  a : Lane
  b : Lane
  deriving DecidableEq, Repr

/-- One of the 8 entries of a merge buffer (1.3). -/
structure Entry where
  seq : Option Nat
  a : Option Copy
  b : Option Copy
  deriving DecidableEq, Repr

/-- The merge buffer of a port (1.3, R22). -/
structure Merge where
  entries : Bank 8 Entry
  /-- playout offset P (R20) -/
  offset : Nat
  /-- next sequence number to be played -/
  next : Nat
  /-- active lane (R19) -/
  active : LaneName
  /-- preferred lane; none is NONE (R20) -/
  preferred : Option LaneName
  /-- count of consecutive missing frames (R18) -/
  missing : Nat
  /-- the last sample played out of each slot (R18) -/
  last : Bank 33 Int
  /-- the DESK HOLD value last played out (R18) -/
  deskHold : Bool
  /-- the playout-change mute: not running, or its remaining frames (R21) -/
  mute : Option Nat
  /-- MODEL: set while a change of P waits for its first playout, with which its mute starts (R21) -/
  muteDue : Bool
  /-- MODEL: frame periods in a row that ended with no lane UP, up to 3 (R18) -/
  withoutLane : Nat
  /-- the slots handed on at the end of the latest frame period (R18) -/
  handed : Bank 33 Slot
  deriving DecidableEq, Repr

/-- The clock source setting (R54). -/
inductive ClockSource where
  | internal
  | wordclock
  deriving DecidableEq, Repr

/-- Clock states (R23). -/
inductive ClockState where
  | internal
  | locked
  | holdover
  deriving DecidableEq, Repr

/-- The clock unit (R23, R24). -/
structure Clock where
  state : ClockState
  requalify : Nat
  missing : Nat
  deriving DecidableEq, Repr

/-! ### Desk ports (chapter 2) -/

/-- Port states (chapter 2). -/
inductive PortState where
  | vacant
  | linked
  | attached
  | isolated
  deriving DecidableEq, Repr

/-- The port record (R25). -/
structure PortRecord where
  state : PortState
  serial : Option Nat
  name : List Byte
  lastSerial : Option Nat
  /-- loss-hold timer: not running, or its elapsed count (R29) -/
  lossHold : Option Nat
  deriving DecidableEq, Repr

/-! ### Channels, cards and the card bus (chapter 4) -/

/-- A set of ports. -/
abbrev PortSet := Bank 3 Bool
/-- A set of cards. -/
abbrev CardSet := Bank 8 Bool

/-- An analog gain with its pad. -/
structure GainPad where
  gain : Nat
  pad : Bool
  deriving DecidableEq, Repr

/-- An entry of a pending-application list (R59). -/
structure Application where
  due : Nat
  value : GainPad
  author : Option Port
  deriving DecidableEq, Repr

/-- A channel record (R58). The switched, card-phantom and applied values are none while unknown. -/
structure Channel where
  desired : GainPad
  phantom : Bool
  desiredBy : Option Port
  switched : Option GainPad
  cardPhantom : Option Bool
  applied : Option GainPad
  applications : List Application
  authority : PortSet
  deriving DecidableEq, Repr

/-- Card states (4.5). -/
inductive CardState where
  | present
  | absent
  deriving DecidableEq, Repr

/-- A card record (4.5). -/
structure CardRecord where
  state : CardState
  known : Bool
  timeouts : Nat
  lastPoll : Option Nat
  status : Option Byte
  deriving DecidableEq, Repr

/-- The broadcasts (R76). -/
inductive Broadcast where
  | phantomOffAll
  | setRate (r : Rate)
  deriving DecidableEq, Repr

/-- The transaction in progress, with the frame of its start (R69). -/
inductive Transaction where
  | poll (k : Card) (start : Nat)
  | write (c : Chan) (value : GainPad) (phantom : Bool) (author : Option Port) (start : Nat)
  | broadcast (b : Broadcast) (start : Nat)
  deriving DecidableEq, Repr

/-- The card bus controller, less its card records (R77). -/
structure CardBus where
  writeQueue : List Chan
  broadcasts : List Broadcast
  transaction : Option Transaction
  lastPolled : Option Card
  deriving DecidableEq, Repr

/-! ### Gain tracking (chapter 5) -/

/-- Gain-tracking modes. -/
inductive Mode where
  | track
  | follow
  deriving DecidableEq, Repr

/-- A ramp of a coefficient (R88). -/
structure Ramp where
  start : Nat
  target : Nat
  steps : Nat
  deriving DecidableEq, Repr

/-- A desk-channel record (R78). -/
structure DeskRecord where
  trim : Int
  mode : Mode
  anchor : Option Int
  wanted : Int
  comp : Int
  coefficient : Nat
  ramp : Option Ramp
  /-- MODEL: the value the coefficient steps to at the next frame (R87, first known net gain) -/
  stepNext : Option Nat
  limited : Bool
  limitArmed : Bool
  clipArmed : Bool
  peak : Nat
  deriving DecidableEq, Repr

/-! ### Phantom (chapter 6) -/

/-- Phantom states. -/
inductive PhantomState where
  | off
  | queued
  | rampUp
  | settleUp
  | on
  | rampDown
  deriving DecidableEq, Repr

/-- The phantom items of a channel (R98). -/
structure PhantomRecord where
  state : PhantomState
  timer : Option Nat
  fault : Bool
  deriving DecidableEq, Repr

/-! ### Slot plans (chapter 7) -/

/-- A window: its start and its end, as the manual numbers channels or pool numbers (R113). -/
structure Window where
  start : Nat
  stop : Nat
  deriving DecidableEq, Repr

/-- A slot plan (R112). -/
structure Plan where
  mic : Option Window
  ret : Option Window
  deriving DecidableEq, Repr

/-- A downstream frame as sent on both lanes of a port (R1). -/
structure DownFrame where
  seq : Nat
  hold : Bool
  rate : Rate
  stageTalk : Bool
  slots : Bank 96 Slot
  control : List ControlByte
  check : Nat
  deriving DecidableEq, Repr

/-! ### Stage outputs (chapter 8) -/

/-- An output's source: a return of a port. -/
structure Source where
  port : Port
  ret : Fin 32
  deriving DecidableEq, Repr

/-- A talk dim: a level in tenths, or MUTE (R127). -/
inductive Dim where
  | level (tenths : Int)
  | mute
  deriving DecidableEq, Repr

/-- Output states (8.3). -/
inductive OutputState where
  | normal
  | waiting
  | fallback
  deriving DecidableEq, Repr

/-- Streams (8.2). -/
inductive Stream where
  | ret (src : Source)
  | fallback (c : Chan) (level : Int)
  | silence
  deriving DecidableEq, Repr

/-- A crossfade (R132). -/
structure Crossfade where
  old : Stream
  new : Stream
  steps : Nat
  deriving DecidableEq, Repr

/-- An output record (R127). -/
structure Output where
  source : Option Source
  patchedBy : Option Port
  fallbackChannel : Option Chan
  fallbackLevel : Int
  /-- fallback delay, in 100 ms steps -/
  fallbackDelay : Nat
  listen : Bool
  dim : Dim
  state : OutputState
  /-- delay timer: not running, or its elapsed count (R129) -/
  timer : Option Nat
  crossfade : Option Crossfade
  dimCoefficient : Nat
  dimRamp : Option Ramp
  deriving DecidableEq, Repr

/-! ### Talk (chapter 9) -/

/-- A talk claim (R140). -/
structure Claim where
  port : Port
  live : Nat
  deriving DecidableEq, Repr

/-- The talk controller (R140). -/
structure Talk where
  claims : List Claim
  /-- the taken level of the stage-talk button: set while pressed (R147) -/
  taken : Bool
  steady : Nat
  active : Bool
  deriving DecidableEq, Repr

/-! ### Consent (chapter 10) -/

/-- A consented action with its fields (R152). -/
inductive Action where
  | rate (r : Rate)
  | reset
  | grant (first last : Chan)
  deriving DecidableEq, Repr

/-- A pending proposal (R152). -/
structure Proposal where
  number : Nat
  action : Action
  proposer : Port
  voters : PortSet
  elapsed : Nat
  /-- MODEL: the hub frame in which it opened, at whose end the elapsed count does not rise (R155) -/
  opened : Nat
  deriving DecidableEq, Repr

/-- How a proposal ended (R152). -/
inductive Ending where
  | carried
  | refused
  | withdrawn
  deriving DecidableEq, Repr

/-- The last outcome (R152). -/
structure LastOutcome where
  number : Nat
  action : Action
  proposer : Port
  ending : Ending
  deriving DecidableEq, Repr

/-- The consent unit (R152). -/
structure Consent where
  proposal : Option Proposal
  lastNumber : Nat
  lastOutcome : Option LastOutcome
  deriving DecidableEq, Repr

/-! ### The hub settings and the control channels (chapter 3) -/

/-- The hub settings, each timed one as a count of its own step (R54). -/
structure Settings where
  /-- frame periods -/
  converterDelay : Nat
  /-- phantom ramp time, 100 ms steps -/
  rampTime : Nat
  /-- phantom settle time, 100 ms steps -/
  settleTime : Nat
  /-- consent window, s -/
  consentWindow : Nat
  /-- talk live limit, s -/
  liveLimit : Nat
  priority : List Port
  /-- loss hold, 500 ms steps -/
  lossHold : Nat
  /-- qualify time, 10 ms steps -/
  qualifyTime : Nat
  source : ClockSource
  stageChannel : Option Chan
  deriving DecidableEq, Repr

/-- Reply status codes (R47). -/
inductive Status where
  | done
  | clamped
  | deferred
  | range
  | planSize
  | noAuthority
  | lastAuthority
  | notAttached
  | busy
  | notVoter
  | tooLate
  | unknown
  | malformed
  deriving DecidableEq, Repr

/-- A complete upstream message (R39): its kind, its tag and its body. -/
structure Message where
  kind : Byte
  tag : Byte
  body : List Byte
  deriving DecidableEq, Repr

/-- A reply (R47): the kind and tag of the request, the status, the steps done and the bytes of the result fields. -/
structure Reply where
  kind : Byte
  tag : Byte
  status : Status
  steps : Nat
  result : List Byte
  deriving DecidableEq, Repr

/-- Reasons of LANE STATE (R13). -/
inductive LaneReason where
  | lightLost
  | lightReturned
  | acquired
  | syncLost
  | overBudget
  | qualified
  | dropped
  | active
  deriving DecidableEq, Repr

/-- Reasons of PORT STATE (R37). -/
inductive PortReason where
  | laneUp
  | linkLost
  | attached
  | isolated
  | rejoined
  | holdExpired
  | detached
  | identityChanged
  | nameChanged
  | setting
  deriving DecidableEq, Repr

/-- Reasons of CARD STATE (R75). -/
inductive CardReason where
  | noReply
  | replied
  deriving DecidableEq, Repr

/-- Reasons of PHANTOM STATE (R111). -/
inductive PhantomReason where
  | requested
  | started
  | ramped
  | settled
  | discharged
  | cardReported
  | fault
  | cardAbsent
  deriving DecidableEq, Repr

/-- Reasons of OUTPUT STATE (R137). -/
inductive OutputReason where
  | sourceLeft
  | delayExpired
  | sourceReturned
  | patched
  deriving DecidableEq, Repr

/-- Reasons of TALK STATE (R150). -/
inductive TalkReason where
  | inserted
  | released
  | timedOut
  | departed
  | reordered
  deriving DecidableEq, Repr

/-- Reasons of MESSAGE DROPPED (R40). -/
inductive DropReason where
  | newStart
  | length
  | missingFrame
  | timeout
  deriving DecidableEq, Repr

/-- Causes of a withdrawal (R157). -/
inductive Cause where
  | request
  | departure
  deriving DecidableEq, Repr

/-- The reports, each with the fields its owning rule lists (R51). -/
inductive Report where
  | laneState (p : Port) (l : LaneName) (state : LaneState) (reason : LaneReason) (lag : Option Nat) (active : LaneName)
  | portState (p : Port) (state : PortState) (reason : PortReason) (serial : Option Nat) (name : List Byte)
      (offset : Nat) (preferred : Option LaneName) (active : LaneName)
  | clockState (state : ClockState) (source : ClockSource)
  | cardState (k : Card) (state : CardState) (reason : CardReason) (timeouts : Nat) (status : Option Byte)
  | settingChanged (c : Chan) (desired : GainPad) (phantom : Bool) (desiredBy : Option Port) (authority : PortSet)
  | gainApplied (c : Chan) (applied : GainPad) (net : Int) (author : Option Port) (due : Nat)
  | phantomState (c : Chan) (state : PhantomState) (reason : PhantomReason) (desired : Bool) (card : Option Bool)
      (position : Option Nat) (ramping : Nat)
  | phantomFault (c : Chan) (before : PhantomState) (k : Card) (status : Byte)
  | clip (c : Chan) (frame : Nat) (negative : Bool) (comp : Int) (net : Option Int)
  | trackLimited (c : Chan) (mode : Mode) (wanted : Int) (comp : Int) (anchor : Option Int) (net : Option Int)
  | planTruncated (rate : Rate) (before after : Plan)
  | outputState (o : OutNo) (state : OutputState) (reason : OutputReason) (source : Option Source)
      (fallbackChannel : Option Chan) (fallbackLevel : Int) (remainingMs : Option Nat)
  | patchChanged (o : OutNo) (source : Option Source) (patchedBy : Option Port) (fallbackChannel : Option Chan)
      (fallbackLevel : Int) (fallbackDelay : Nat) (listen : Bool) (dim : Dim) (author : Port)
  | talkState (claims : List Claim) (live : Option Port) (reason : TalkReason)
  | talkPreempted (position : Nat) (liveTime : Nat) (live : Option Port)
  | talkTimedOut (liveTime : Nat) (limit : Nat)
  | stageTalk (active taken : Bool) (channel : Option Chan)
  | consentAsked (number : Nat) (action : Action) (proposer : Port) (voters : PortSet) (window : Nat)
  | consentEnded (number : Nat) (action : Action) (proposer : Port) (ending : Ending) (objector : Option Port)
      (cause : Option Cause)
  | rate (new old : Rate) (number : Nat) (proposer : Port)
  | hubSetting (settings : Settings)
  | hubResetDone (number : Nat) (proposer : Port)
  | messageDropped (reason : DropReason) (tag : Option Byte) (count : Nat)
  | requestLost (kind tag : Byte) (count : Nat)
  deriving DecidableEq, Repr

/-- An assembly in progress: the bytes gathered, and the frame periods since the last (R39, R40). -/
structure Assembly where
  bytes : List Byte
  idle : Nat
  deriving DecidableEq, Repr

/-- The control channel of a port (chapter 3, R57). -/
structure Control where
  assembly : Option Assembly
  requests : List Message
  /-- MODEL: immediate requests completed at a playout and not yet taken by their TALK_OFF or OBJECT step (R46) -/
  arrived : List Message
  hold : Bool
  replies : List Reply
  reports : List Report
  lost : Bool
  /-- the bytes of the message in progress that have not yet gone (R49) -/
  outbound : List Byte
  deriving DecidableEq, Repr

/-- All that belongs to one desk port. -/
structure PortUnit where
  record : PortRecord
  lanes : Lanes
  merge : Merge
  control : Control
  plan : Plan
  /-- the downstream frame last sent on both lanes; none before the first (R1) -/
  sent : Option DownFrame
  deriving DecidableEq, Repr

/-! ### The retained store (chapter 11) -/

/-- An entry of the retained image (R162). -/
structure RetainedEntry where
  desired : GainPad
  phantom : Bool
  authority : PortSet
  deriving DecidableEq, Repr

/-- A write of the image in progress: its elapsed count and the entries it took (R163). -/
structure ImageWrite where
  elapsed : Nat
  entries : Bank 64 RetainedEntry
  deriving DecidableEq, Repr

/-- The retained store (R162). `valid` says that the image's check value matches its entries. -/
structure Retained where
  entries : Bank 64 RetainedEntry
  valid : Bool
  /-- quiet timer: not running, or its elapsed count (R163) -/
  quiet : Option Nat
  write : Option ImageWrite
  deriving DecidableEq, Repr

/-- Whether the hub runs, is held by its reset input, or has no power (R164, R165). -/
inductive Power where
  | running
  | held
  | off
  deriving DecidableEq, Repr

/-! ### The whole -/

/-- The state of the WL482 with the queue of the commands that are waiting, first in, first out. -/
structure State where
  pending : List Instr
  power : Power
  /-- the reset input pin, set while it is asserted (R165, R167) -/
  resetInput : Bool
  /-- the hub frame count (R2) -/
  hubFrame : Nat
  /-- MODEL: set once the first frame period after power-on has started (R2) -/
  begun : Bool
  /-- MODEL: set from the playouts of a frame period to the start of the next (R16) -/
  played : Bool
  /-- MODEL: how many free values have been read (Config) -/
  freeReads : Nat
  clock : Clock
  settings : Settings
  ports : Bank 3 PortUnit
  channels : Bank 64 Channel
  cards : Bank 8 CardRecord
  bus : CardBus
  desks : Bank 3 (Bank 64 DeskRecord)
  phantom : Bank 64 PhantomRecord
  /-- the phantom start queue (R102) -/
  startQueue : List Chan
  /-- the supply-guard output: set while asserted (R109) -/
  supplyGuard : Bool
  rate : Rate
  /-- the rate-change mute: not running, or its remaining frame periods (R120) -/
  rateMute : Option Nat
  outputs : Bank 32 Output
  /-- the samples last handed to the converter output lines: one at SINGLE, two at DOUBLE (R134) -/
  lines : Bank 32 (List Int)
  talk : Talk
  consent : Consent
  retained : Retained
  /-- the converter samples taken in the latest frame period (R117) -/
  mics : Bank 64 MicPair
  deriving DecidableEq, Repr

/-- The reasons the machine stops with a fault. There are none: the manual gives no event that stops the hub. -/
inductive Fault where
  deriving DecidableEq, Repr

/-- The reasons the machine refuses a command. -/
inductive Refusal where
  /-- Raised by an arm of exec whose command has no meaning yet; no arm of this model raises it. Safe: the machine
  stops where the hub goes on. -/
  | notModelled (mnemonic : String)
  deriving DecidableEq, Repr

/-! ### Power-on values -/

/-- A slot of silence (R18). -/
def silentSlot : Slot := { sample := 0, cond := .silenced }

/-- A lane unit after power-on reset, with its loss-of-light input reading loss (R14, R167). -/
def Lane.reset : Lane :=
  { state := .dark, acquisition := 0, qualify := 0, badSyncs := 0, misses := 0, overBudget := false, reference := none,
    lastLag := none, errors := 0, drops := 0, lossOfLight := true, synced := false, fourth := none }

/-- A merge buffer after power-on reset (R22). -/
def Merge.reset : Merge :=
  { entries := Bank.const 8 { seq := none, a := none, b := none }, offset := 3, next := 65533, active := .A,
    preferred := none, missing := 3, last := Bank.const 33 0, deskHold := false, mute := none, muteDue := false,
    withoutLane := 3, handed := Bank.const 33 silentSlot }

/-- A control channel after power-on reset (R57). -/
def Control.reset : Control :=
  { assembly := none, requests := [], arrived := [], hold := false, replies := [], reports := [], lost := false,
    outbound := [] }

/-- A port after power-on reset (R25, R112). -/
def PortUnit.reset : PortUnit :=
  { record := { state := .vacant, serial := none, name := [], lastSerial := none, lossHold := none },
    lanes := { a := Lane.reset, b := Lane.reset }, merge := Merge.reset, control := Control.reset,
    plan := { mic := some { start := 1, stop := 64 }, ret := none }, sent := none }

/-- The default hub settings (R54). -/
def Settings.reset : Settings :=
  { converterDelay := 38, rampTime := 5, settleTime := 10, consentWindow := 5, liveLimit := 30, priority := [1, 0, 2],
    lossHold := 4, qualifyTime := 100, source := .internal, stageChannel := none }

/-- The authority set {1, 2} (R58). -/
def defaultAuthority : PortSet := Bank.ofList 3 false [true, true, false]

/-- A channel record after power-on reset under a failed image (R58, R166). -/
def Channel.reset : Channel :=
  { desired := { gain := 0, pad := false }, phantom := false, desiredBy := none, switched := none, cardPhantom := none,
    applied := none, applications := [], authority := defaultAuthority }

/-- A desk-channel record after power-on reset (R78). -/
def DeskRecord.reset : DeskRecord :=
  { trim := 0, mode := .track, anchor := none, wanted := 0, comp := 0, coefficient := 65536, ramp := none,
    stepNext := none, limited := false, limitArmed := true, clipArmed := true, peak := 0 }

/-- The record of output n after power-on reset (R127). -/
def Output.reset (o : OutNo) : Output :=
  { source := some { port := 1, ret := o }, patchedBy := none, fallbackChannel := none, fallbackLevel := -100,
    fallbackDelay := 5, listen := true, dim := .level (-200), state := .fallback, timer := none, crossfade := none,
    dimCoefficient := 65536, dimRamp := none }

/-- The entry of a retained image that holds the defaults of a failed check (R166). -/
def RetainedEntry.default : RetainedEntry :=
  { desired := { gain := 0, pad := false }, phantom := false, authority := defaultAuthority }

/-- The machine right after power-on reset, before hub frame 0, of a hub whose retained image was never written
(Assumption 3), whose loss-of-light inputs read loss and whose reset input is released (R166 and the table of 11.4). -/
def State.reset : State :=
  { pending := [], power := .running, resetInput := false, hubFrame := 0, begun := false, played := false, freeReads := 0,
    clock := { state := .internal, requalify := 0, missing := 0 },
    settings := Settings.reset,
    ports := Bank.const 3 PortUnit.reset,
    channels := Bank.const 64 Channel.reset,
    cards := Bank.const 8 { state := .absent, known := false, timeouts := 0, lastPoll := none, status := none },
    bus := { writeQueue := [], broadcasts := [.phantomOffAll], transaction := none, lastPolled := none },
    desks := Bank.const 3 (Bank.const 64 DeskRecord.reset),
    phantom := Bank.const 64 { state := .off, timer := none, fault := false },
    startQueue := [], supplyGuard := false,
    rate := .single, rateMute := none,
    outputs := Bank.tabulate Output.reset,
    lines := Bank.const 32 [0],
    talk := { claims := [], taken := false, steady := 0, active := false },
    consent := { proposal := none, lastNumber := 0, lastOutcome := none },
    retained := { entries := Bank.const 64 RetainedEntry.default, valid := false, quiet := some 0, write := none },
    mics := Bank.const 64 { first := 0, second := 0 } }

end Sys2Proof.Machine
end

