-- ==== Sys2Proof/Decode.lean ====
section
/-! DEFINITION. The decoder of table words. The block has no instruction encoding: spec/opcode_table.json gives no row
any bits, so no word spells a command. What the hub decodes is the messages and the frames on its fibres, in
Machine/Operands.lean and Machine/Frames.lean. -/

namespace Sys2Proof

/-- The command that a word spells by the table's bits: none, for no row of the table has bits. -/
def decodeTableWord (_nbits _w : Nat) : Option Instr := none

end Sys2Proof
end

