-- ==== Sys2Proof/Machine/Ops.lean ====
section
/-! DEFINITION. The named operations the meanings are written with: looking up and changing one record of the state,
posting reports, and the plain arithmetic of levels and samples. -/

namespace Sys2Proof.Machine

/-! ### Looking up and changing one record -/

/-- An effect that is made only while the hub runs: with the reset input asserted or without power the blocks stand
still until the next power-on reset (R164, R165; Assumption 2). -/
def whenRunning (f : State → State) (s : State) : State := if s.power = .running then f s else s

def Lanes.get (ls : Lanes) : LaneName → Lane
  | .A => ls.a
  | .B => ls.b

def Lanes.put (ls : Lanes) (n : LaneName) (l : Lane) : Lanes :=
  match n with
  | .A => { ls with a := l }
  | .B => { ls with b := l }

/-- Whether a lane is UP. -/
def Lanes.isUp (ls : Lanes) (n : LaneName) : Bool := (ls.get n).state = .up

/-- Whether a lane of the port is UP (2.2). -/
def Lanes.anyUp (ls : Lanes) : Bool := ls.isUp .A || ls.isUp .B

def Entry.get (e : Entry) : LaneName → Option Copy
  | .A => e.a
  | .B => e.b

def modPort (p : Port) (f : PortUnit → PortUnit) (s : State) : State := { s with ports := s.ports.modify p f }

def modRecord (p : Port) (f : PortRecord → PortRecord) (s : State) : State :=
  modPort p (fun u => { u with record := f u.record }) s

def modLane (p : Port) (n : LaneName) (f : Lane → Lane) (s : State) : State :=
  modPort p (fun u => { u with lanes := u.lanes.put n (f (u.lanes.get n)) }) s

def modMerge (p : Port) (f : Merge → Merge) (s : State) : State :=
  modPort p (fun u => { u with merge := f u.merge }) s

def modControl (p : Port) (f : Control → Control) (s : State) : State :=
  modPort p (fun u => { u with control := f u.control }) s

def modChannel (c : Chan) (f : Channel → Channel) (s : State) : State := { s with channels := s.channels.modify c f }

def modCard (k : Card) (f : CardRecord → CardRecord) (s : State) : State := { s with cards := s.cards.modify k f }

def modBus (f : CardBus → CardBus) (s : State) : State := { s with bus := f s.bus }

def modDesk (p : Port) (c : Chan) (f : DeskRecord → DeskRecord) (s : State) : State :=
  { s with desks := s.desks.modify p (fun b => b.modify c f) }

def modPhantom (c : Chan) (f : PhantomRecord → PhantomRecord) (s : State) : State :=
  { s with phantom := s.phantom.modify c f }

def modOutput (o : OutNo) (f : Output → Output) (s : State) : State := { s with outputs := s.outputs.modify o f }

def modTalk (f : Talk → Talk) (s : State) : State := { s with talk := f s.talk }

def modConsent (f : Consent → Consent) (s : State) : State := { s with consent := f s.consent }

def modRetained (f : Retained → Retained) (s : State) : State := { s with retained := f s.retained }

def State.port (s : State) (p : Port) : PortUnit := s.ports.get p

def State.lane (s : State) (p : Port) (n : LaneName) : Lane := (s.port p).lanes.get n

def State.portState (s : State) (p : Port) : PortState := (s.port p).record.state

def State.channel (s : State) (c : Chan) : Channel := s.channels.get c

def State.desk (s : State) (p : Port) (c : Chan) : DeskRecord := (s.desks.get p).get c

def State.card (s : State) (k : Card) : CardRecord := s.cards.get k

def State.phantomOf (s : State) (c : Chan) : PhantomRecord := s.phantom.get c

def State.output (s : State) (o : OutNo) : Output := s.outputs.get o

/-- The card that holds a channel: card k holds channels 8k−7 to 8k (R69). -/
def cardOf (c : Chan) : Card := ⟨c.val / 8, by omega⟩

/-- The channels of a card, in ascending order. -/
def channelsOf (k : Card) : List Chan := (indexes 64).filter fun c => cardOf c = k

/-- The net gain of the applied values: the gain less 20 when the pad is on, unknown while they are (R58). -/
def Channel.net (c : Channel) : Option Int :=
  c.applied.map fun v => (v.gain : Int) - (if v.pad then Config.padLoss else 0)

/-- Whether a channel's card is PRESENT. -/
def State.cardPresent (s : State) (c : Chan) : Bool := (s.card (cardOf c)).state = .present

/-- An event made for each of a list of things in turn. -/
def forEach {α : Type} (f : α → State → State) (l : List α) (s : State) : State := l.foldl (fun t a => f a t) s

/-! ### Plain arithmetic -/

/-- A count that rises by one and saturates. -/
def satSucc (limit n : Nat) : Nat := min limit (n + 1)

/-- A value brought into a range. -/
def clampNat (lo hi n : Nat) : Nat := max lo (min hi n)

def clampInt (lo hi x : Int) : Int := max lo (min hi x)

/-- Division rounded to nearest, with halves taken away from zero (00_scope, "Rounding"). -/
def roundDiv (x : Int) (d : Nat) : Int :=
  if 0 ≤ x then (2 * x + d) / (2 * d) else -((2 * (-x) + d) / (2 * d))

/-- A sample brought within full scale (00_scope, "Samples"). -/
def saturate (x : Int) : Int := clampInt Config.fullScaleLow Config.fullScaleHigh x

/-- The milliseconds a count of frame periods makes, rounded up (R38). -/
def msRoundedUp (frames : Nat) : Nat := (frames + (Config.framesPerMs - 1)) / Config.framesPerMs

/-- The coefficient of a ramp after its steps taken: k_old + trunc((k_new − k_old) × i / 32) (R88). -/
def Ramp.value (r : Ramp) : Nat :=
  ((r.start : Int) + Int.tdiv (((r.target : Int) - r.start) * r.steps) Config.rampSteps).toNat

/-! ### Targets of the timers (R10, R29, R105, R130, R144, R155) -/

def Settings.qualifyTarget (h : Settings) : Nat := h.qualifyTime * 10 * Config.framesPerMs
def Settings.lossHoldTarget (h : Settings) : Nat := h.lossHold * 500 * Config.framesPerMs
def Settings.rampTarget (h : Settings) : Nat := h.rampTime * 100 * Config.framesPerMs
def Settings.settleTarget (h : Settings) : Nat := h.settleTime * 100 * Config.framesPerMs
def Settings.liveTarget (h : Settings) : Nat := h.liveLimit * Config.framesPerS
def Settings.consentTarget (h : Settings) : Nat := h.consentWindow * Config.framesPerS
def Output.delayTarget (o : Output) : Nat := o.fallbackDelay * 100 * Config.framesPerMs

/-! ### Reports (3.5) -/

/-- The kind of a report and its subject (R51): the kinds are numbered in the order of the report table. The personal
reports lie in their own port's queue, so their subject need not name the port. -/
def Report.key : Report → Nat × Nat
  | .laneState p l _ _ _ _ => (0, 2 * p.val + (match l with | .A => 0 | .B => 1))
  | .portState p _ _ _ _ _ _ _ => (1, p.val)
  | .clockState _ _ => (2, 0)
  | .cardState k _ _ _ _ => (3, k.val)
  | .settingChanged c _ _ _ _ => (4, c.val)
  | .gainApplied c _ _ _ _ => (5, c.val)
  | .phantomState c _ _ _ _ _ _ => (6, c.val)
  | .phantomFault c _ _ _ => (7, c.val)
  | .clip c _ _ _ _ => (8, c.val)
  | .trackLimited c _ _ _ _ _ => (9, c.val)
  | .planTruncated _ _ _ => (10, 0)
  | .outputState o _ _ _ _ _ _ => (11, o.val)
  | .patchChanged o _ _ _ _ _ _ _ _ => (12, o.val)
  | .talkState _ _ _ => (13, 0)
  | .talkPreempted _ _ _ => (14, 0)
  | .talkTimedOut _ _ => (15, 0)
  | .stageTalk _ _ _ => (16, 0)
  | .consentAsked _ _ _ _ _ => (17, 0)
  | .consentEnded _ _ _ _ _ _ => (18, 0)
  | .rate _ _ _ _ => (19, 0)
  | .hubSetting _ => (20, 0)
  | .hubResetDone _ _ => (21, 0)
  | .messageDropped _ _ _ => (22, 0)
  | .requestLost _ _ _ => (23, 0)

/-- What takes an unsent report's place when a newer one of the same kind and subject is offered: the newer one, and
for MESSAGE DROPPED and REQUEST LOST with the old count plus one, saturating at 255 (R52). -/
def Report.replacing (old new : Report) : Report :=
  match old, new with
  | .messageDropped _ _ n, .messageDropped r t _ => .messageDropped r t (satSucc 255 n)
  | .requestLost _ _ n, .requestLost k t _ => .requestLost k t (satSucc 255 n)
  | _, r => r

/-- A report offered to a control channel's report queue: it replaces in place (R52), joins the tail, or is dropped
with the lost marker set (R53). The 32 places of R53 hold for every event: of the 64 reports of a PATCH OUTPUT of 32 outputs a
queue keeps what finds a place, although R137 has a desk that holds DESK HOLD keep one of each kind per output (DESIGN CHOICE,
Assumption 46). -/
def Control.offer (k : Control) (r : Report) : Control :=
  if k.reports.any (fun q => q.key = r.key) then
    { k with reports := k.reports.map fun q => if q.key = r.key then q.replacing r else q }
  else if k.reports.length < Config.reportPlaces then { k with reports := k.reports ++ [r] }
  else { k with lost := true }

/-- Whether a desk is present for state reports: ATTACHED or ISOLATED (R50). -/
def PortState.present : PortState → Bool
  | .attached => true
  | .isolated => true
  | .linked => false
  | .vacant => false

/-- A personal report, offered to its one port unless that is VACANT (R50). -/
def postTo (p : Port) (r : Report) (s : State) : State :=
  if s.portState p = .vacant then s else modControl p (fun k => k.offer r) s

/-- A state report, offered to every port that is ATTACHED or ISOLATED (R50). -/
def post (r : Report) (s : State) : State :=
  { s with ports := s.ports.each fun u =>
      if u.record.state.present then { u with control := u.control.offer r } else u }

/-- LANE STATE as the lane stands (R13). -/
def postLane (p : Port) (n : LaneName) (why : LaneReason) (s : State) : State :=
  post (.laneState p n (s.lane p n).state why (s.lane p n).lastLag (s.port p).merge.active) s

/-- PORT STATE as the port stands (R37). -/
def postPort (p : Port) (why : PortReason) (s : State) : State :=
  let u := s.port p
  post (.portState p u.record.state why u.record.serial u.record.name u.merge.offset u.merge.preferred u.merge.active) s

/-- CLOCK STATE as the clock stands (R23). -/
def postClock (s : State) : State := post (.clockState s.clock.state s.settings.source) s

/-- SETTING CHANGED as the channel stands (R58). -/
def postSetting (c : Chan) (s : State) : State :=
  let h := s.channel c
  post (.settingChanged c h.desired h.phantom h.desiredBy h.authority) s

/-- CARD STATE as the card stands (R75). -/
def postCard (k : Card) (why : CardReason) (s : State) : State :=
  post (.cardState k (s.card k).state why (s.card k).timeouts (s.card k).status) s

/-! ### The quiet timer and changes of a channel's settings -/

/-- The quiet timer restarts at 0 (R163). -/
def restartQuiet (s : State) : State := modRetained (fun r => { r with quiet := some 0 }) s

/-- A change of a channel's desired values, desired-by or authority set, by whichever block: SETTING CHANGED is posted
when one of them changes, and the quiet timer restarts when one that the image holds does (R58, R163). -/
def changeSetting (c : Chan) (f : Channel → Channel) (s : State) : State :=
  let old := s.channel c
  let t := modChannel c f s
  let new := t.channel c
  let held := old.desired = new.desired ∧ old.phantom = new.phantom ∧ old.authority = new.authority
  let t := if held then t else restartQuiet t
  if held ∧ old.desiredBy = new.desiredBy then t else postSetting c t

/-- A channel put into the write queue: it joins at the tail, or keeps its position (R70). -/
def queueWrite (c : Chan) (s : State) : State :=
  modBus (fun b => if c ∈ b.writeQueue then b else { b with writeQueue := b.writeQueue ++ [c] }) s

end Sys2Proof.Machine
end

