-- ==== Sys2Proof/Machine/Level.lean ====
section
/-! DEFINITION. Levels as numbers: the coefficient table (R84), the scaling of a sample (R86), and a meter's reading
in tenths of dBFS (R126). -/

namespace Sys2Proof.Machine

/-! ### The coefficient table: round(65,536 × 10^(c/200)) for c from −400 to 400, in pieces (R84) -/

/-- The entries for -400 to -312 tenths. -/
def coefficients1 : List Nat :=
  [655, 663, 671, 678, 686, 694, 702, 710, 719, 727, 735, 744, 752, 761, 770, 779, 788, 797, 806, 816, 825,
    835, 844, 854, 864, 874, 884, 894, 905, 915, 926, 936, 947, 958, 969, 981, 992, 1003, 1015, 1027, 1039,
    1051, 1063, 1075, 1088, 1100, 1113, 1126, 1139, 1152, 1165, 1179, 1193, 1206, 1220, 1234, 1249, 1263, 1278,
    1293, 1308, 1323, 1338, 1354, 1369, 1385, 1401, 1417, 1434, 1450, 1467, 1484, 1501, 1519, 1536, 1554, 1572,
    1590, 1609, 1627, 1646, 1665, 1685, 1704, 1724, 1744, 1764, 1784, 1805]

/-- The entries for -311 to -223 tenths. -/
def coefficients2 : List Nat :=
  [1826, 1847, 1868, 1890, 1912, 1934, 1957, 1979, 2002, 2025, 2049, 2072, 2096, 2121, 2145, 2170, 2195, 2221,
    2246, 2272, 2299, 2325, 2352, 2379, 2407, 2435, 2463, 2492, 2520, 2550, 2579, 2609, 2639, 2670, 2701, 2732,
    2764, 2796, 2828, 2861, 2894, 2927, 2961, 2996, 3030, 3065, 3101, 3137, 3173, 3210, 3247, 3285, 3323, 3361,
    3400, 3439, 3479, 3519, 3560, 3601, 3643, 3685, 3728, 3771, 3815, 3859, 3904, 3949, 3995, 4041, 4088, 4135,
    4183, 4231, 4280, 4330, 4380, 4431, 4482, 4534, 4586, 4640, 4693, 4748, 4803, 4858, 4915, 4971, 5029]

/-- The entries for -222 to -134 tenths. -/
def coefficients3 : List Nat :=
  [5087, 5146, 5206, 5266, 5327, 5389, 5451, 5514, 5578, 5643, 5708, 5774, 5841, 5909, 5977, 6046, 6116, 6187,
    6259, 6331, 6404, 6479, 6554, 6629, 6706, 6784, 6862, 6942, 7022, 7104, 7186, 7269, 7353, 7438, 7525, 7612,
    7700, 7789, 7879, 7970, 8063, 8156, 8250, 8346, 8443, 8540, 8639, 8739, 8841, 8943, 9046, 9151, 9257, 9364,
    9473, 9583, 9693, 9806, 9919, 10034, 10150, 10268, 10387, 10507, 10629, 10752, 10876, 11002, 11130, 11258,
    11389, 11521, 11654, 11789, 11926, 12064, 12203, 12345, 12488, 12632, 12779, 12926, 13076, 13228, 13381,
    13536, 13692, 13851, 14011]

/-- The entries for -133 to -45 tenths. -/
def coefficients4 : List Nat :=
  [14174, 14338, 14504, 14672, 14842, 15013, 15187, 15363, 15541, 15721, 15903, 16087, 16273, 16462, 16653,
    16845, 17040, 17238, 17437, 17639, 17843, 18050, 18259, 18471, 18684, 18901, 19120, 19341, 19565, 19792,
    20021, 20253, 20487, 20724, 20964, 21207, 21453, 21701, 21952, 22206, 22464, 22724, 22987, 23253, 23522,
    23795, 24070, 24349, 24631, 24916, 25205, 25496, 25792, 26090, 26392, 26698, 27007, 27320, 27636, 27956,
    28280, 28608, 28939, 29274, 29613, 29956, 30303, 30653, 31008, 31368, 31731, 32098, 32470, 32846, 33226,
    33611, 34000, 34394, 34792, 35195, 35602, 36015, 36432, 36854, 37280, 37712, 38149, 38590, 39037]

/-- The entries for -44 to 44 tenths. -/
def coefficients5 : List Nat :=
  [39489, 39947, 40409, 40877, 41350, 41829, 42314, 42804, 43299, 43801, 44308, 44821, 45340, 45865, 46396,
    46933, 47477, 48026, 48583, 49145, 49714, 50290, 50872, 51461, 52057, 52660, 53270, 53886, 54510, 55142,
    55780, 56426, 57079, 57740, 58409, 59085, 59770, 60462, 61162, 61870, 62586, 63311, 64044, 64786, 65536,
    66295, 67063, 67839, 68625, 69419, 70223, 71036, 71859, 72691, 73533, 74384, 75245, 76117, 76998, 77890,
    78792, 79704, 80627, 81561, 82505, 83460, 84427, 85404, 86393, 87394, 88406, 89429, 90465, 91512, 92572,
    93644, 94728, 95825, 96935, 98057, 99193, 100341, 101503, 102679, 103868, 105070, 106287, 107518, 108763]

/-- The entries for 45 to 133 tenths. -/
def coefficients6 : List Nat :=
  [110022, 111296, 112585, 113889, 115207, 116541, 117891, 119256, 120637, 122034, 123447, 124876, 126322,
    127785, 129265, 130762, 132276, 133807, 135357, 136924, 138510, 140113, 141736, 143377, 145037, 146717,
    148416, 150134, 151873, 153631, 155410, 157210, 159030, 160872, 162735, 164619, 166525, 168453, 170404,
    172377, 174373, 176392, 178435, 180501, 182591, 184706, 186844, 189008, 191196, 193410, 195650, 197916,
    200207, 202526, 204871, 207243, 209643, 212070, 214526, 217010, 219523, 222065, 224636, 227237, 229869,
    232531, 235223, 237947, 240702, 243489, 246309, 249161, 252046, 254965, 257917, 260904, 263925, 266981,
    270072, 273200, 276363, 279563, 282800, 286075, 289388, 292739, 296128, 299557, 303026]

/-- The entries for 134 to 222 tenths. -/
def coefficients7 : List Nat :=
  [306535, 310084, 313675, 317307, 320981, 324698, 328458, 332261, 336109, 340001, 343938, 347920, 351949,
    356025, 360147, 364317, 368536, 372803, 377120, 381487, 385905, 390373, 394893, 399466, 404092, 408771,
    413504, 418292, 423136, 428036, 432992, 438006, 443078, 448208, 453398, 458648, 463959, 469332, 474766,
    480264, 485825, 491451, 497141, 502898, 508721, 514612, 520571, 526599, 532697, 538865, 545105, 551417,
    557802, 564261, 570795, 577404, 584090, 590854, 597695, 604616, 611618, 618700, 625864, 633111, 640442,
    647858, 655360, 662949, 670625, 678391, 686246, 694193, 702231, 710362, 718588, 726909, 735326, 743841,
    752454, 761167, 769981, 778897, 787916, 797040, 806269, 815605, 825049, 834603, 844267]

/-- The entries for 223 to 311 tenths. -/
def coefficients8 : List Nat :=
  [854043, 863933, 873937, 884056, 894293, 904649, 915124, 925721, 936440, 947283, 958252, 969348, 980573,
    991927, 1003413, 1015032, 1026786, 1038676, 1050703, 1062869, 1075177, 1087627, 1100221, 1112961, 1125848,
    1138885, 1152073, 1165413, 1178908, 1192559, 1206368, 1220337, 1234468, 1248763, 1263223, 1277850, 1292647,
    1307615, 1322757, 1338073, 1353568, 1369241, 1385096, 1401135, 1417359, 1433771, 1450374, 1467168, 1484157,
    1501343, 1518728, 1536314, 1554103, 1572099, 1590303, 1608718, 1627346, 1646190, 1665252, 1684535, 1704041,
    1723772, 1743733, 1763924, 1784350, 1805011, 1825912, 1847055, 1868443, 1890079, 1911965, 1934104, 1956500,
    1979156, 2002073, 2025256, 2048707, 2072430, 2096428, 2120703, 2145260, 2170101, 2195230, 2220649, 2246363,
    2272375, 2298687, 2325305, 2352231]

/-- The entries for 312 to 400 tenths. -/
def coefficients9 : List Nat :=
  [2379468, 2407021, 2434893, 2463088, 2491609, 2520461, 2549646, 2579170, 2609035, 2639246, 2669807, 2700722,
    2731995, 2763630, 2795632, 2828003, 2860750, 2893876, 2927386, 2961283, 2995573, 3030260, 3065349, 3100844,
    3136750, 3173072, 3209814, 3246982, 3284581, 3322614, 3361088, 3400008, 3439378, 3479204, 3519492, 3560245,
    3601471, 3643174, 3685360, 3728035, 3771203, 3814872, 3859046, 3903731, 3948935, 3994661, 4040917, 4087709,
    4135042, 4182924, 4231360, 4280356, 4329921, 4380059, 4430777, 4482083, 4533983, 4586485, 4639593, 4693317,
    4747664, 4802639, 4858251, 4914507, 4971414, 5028980, 5087213, 5146120, 5205710, 5265989, 5326966, 5388649,
    5451047, 5514167, 5578018, 5642609, 5707947, 5774042, 5840902, 5908537, 5976954, 6046164, 6116175, 6186997,
    6258639, 6331111, 6404422, 6478582, 6553600]

/-- The fixed table of 801 entries (R84). -/
def coefficientTable : List Nat :=
  coefficients1 ++ coefficients2 ++ coefficients3 ++ coefficients4 ++ coefficients5 ++ coefficients6 ++ coefficients7 ++ coefficients8 ++ coefficients9

/-- The coefficient for a compensation of −400 to 400 tenths (R84). -/
def coefficientOf (c : Int) : Nat := coefficientTable.getD (c + 400).toNat 0

/-! ### Samples -/

/-- A sample scaled by a coefficient: multiplied exactly, divided by 65,536 and rounded with halves away from zero
(R86, steps 1 and 2). -/
def scale (k : Nat) (x : Int) : Int := roundDiv (x * k) Config.unity

/-- The magnitude a meter takes of a sample (R125). -/
def magnitude (x : Int) : Nat := x.natAbs

/-! ### Meters -/

/-- Whether a magnitude M reads at least −(k + 1/2) tenths, that is M / 2^23 ≥ 10^(−(2k+1)/400), in whole numbers. No
magnitude meets it with equality, so halves do not arise (R126). -/
def readsAtLeast (m k : Nat) : Bool := 2 ^ (23 * 400) ≤ m ^ 400 * 10 ^ (2 * k + 1)

/-- The least k, from `k` on, at which `readsAtLeast` holds, or 1,200. -/
def tenthsBelow (m : Nat) : Nat → Nat → Nat
  | 0, k => k
  | fuel + 1, k => if readsAtLeast m k then k else tenthsBelow m fuel (k + 1)

/-- The tenths of a dB by which a meter's magnitude lies below full scale: the reading is minus this, never below
−1,200 (R126). -/
def peakTenthsBelow (m : Nat) : Nat := if m = 0 then 1200 else tenthsBelow m 1200 0

end Sys2Proof.Machine
end

