-- ==== Sys2Proof/Machine/Operands.lean ====
section
/-! DEFINITION. The operand forms of the commands: the fields of a request's body by type (R169), the ranges a request
names, the lengths a body must have, and which requests a port state makes available (R45). -/

namespace Sys2Proof.Machine

/-! ### Fields of a body, most significant byte first (chapter 12) -/

/-- The one-byte number at a place of a body. -/
def u8 (b : List Byte) (i : Nat) : Nat := (b.getD i 0).toNat

/-- The one-byte two's complement number at a place. -/
def s8 (b : List Byte) (i : Nat) : Int := (b.getD i 0).toInt

/-- The two-byte number at a place. -/
def u16 (b : List Byte) (i : Nat) : Nat := u8 b i * 256 + u8 b (i + 1)

/-- The two-byte two's complement number at a place. -/
def s16 (b : List Byte) (i : Nat) : Int := (BitVec.ofNat 16 (u16 b i)).toInt

/-- The four-byte number at a place. -/
def u32 (b : List Byte) (i : Nat) : Nat := u16 b i * 65536 + u16 b (i + 2)

/-! ### Ranges and ports -/

/-- The things first..last in ascending order, where both lie in 1..n and first is not greater than last (R63). -/
def rangeOf (n first last : Nat) : Option (List (Fin n)) :=
  if 1 ≤ first ∧ first ≤ n ∧ 1 ≤ last ∧ last ≤ n ∧ first ≤ last then
    some ((indexes n).filter fun i => first ≤ num i ∧ num i ≤ last)
  else none

/-- The port a byte names, where it is 1 to 3. -/
def portOf (n : Nat) : Option Port := ofNum 3 n

/-! ### Kinds -/

/-- The codes of the request kinds (R169). -/
def kindAttach : Byte := 0x01
def kindDetach : Byte := 0x02
def kindReadPort : Byte := 0x03
def kindReadLanes : Byte := 0x04
def kindClearLaneCounters : Byte := 0x05
def kindSetPort : Byte := 0x06
def kindReadHub : Byte := 0x07
def kindSetHub : Byte := 0x08
def kindReadChannels : Byte := 0x09
def kindReadCards : Byte := 0x0A
def kindSetGain : Byte := 0x0B
def kindStepGain : Byte := 0x0C
def kindSetPad : Byte := 0x0D
def kindSetPhantom : Byte := 0x0E
def kindSetAuthority : Byte := 0x0F
def kindSetTrim : Byte := 0x10
def kindSetTracking : Byte := 0x11
def kindArmNotices : Byte := 0x12
def kindReadMeters : Byte := 0x13
def kindSetPlan : Byte := 0x14
def kindReadPlan : Byte := 0x15
def kindPatchOutput : Byte := 0x16
def kindSetOutput : Byte := 0x17
def kindReadOutputs : Byte := 0x18
def kindTalkOn : Byte := 0x19
def kindTalkOff : Byte := 0x1A
def kindReadTalk : Byte := 0x1B
def kindPropose : Byte := 0x1C
def kindObject : Byte := 0x1D
def kindWithdraw : Byte := 0x1E
def kindReadConsent : Byte := 0x1F

/-- Whether a kind is a request kind, 01h to 1Fh (R169). -/
def isRequestKind (k : Byte) : Bool := 1 ≤ k.toNat && k.toNat ≤ 0x1F

/-- Whether a kind is an immediate request: TALK OFF or OBJECT (R41). -/
def isImmediate (k : Byte) : Bool := k = kindTalkOff || k = kindObject

/-- The body lengths of the request kinds from 02h on, in code order (R169). -/
def bodyLengths : List Nat :=
  [0, 1, 1, 2, 4, 0, 15, 2, 0, 3, 3, 3, 3, 4, 4, 3, 3, 2, 6, 1, 4, 11, 2, 0, 0, 0, 3, 1, 1, 0]

/-- Whether a body's length is right for a request kind. For ATTACH it is right when it is 5 plus the name length byte
(R169). -/
def bodyLengthRight (k : Byte) (body : List Byte) : Bool :=
  if k = kindAttach then 5 ≤ body.length && body.length = 5 + u8 body 4
  else body.length = bodyLengths.getD (k.toNat - 2) 0

/-- Whether a request kind is a READ request (R45). -/
def isRead (k : Byte) : Bool :=
  [kindReadPort, kindReadLanes, kindReadHub, kindReadChannels, kindReadCards, kindReadMeters, kindReadPlan,
    kindReadOutputs, kindReadTalk, kindReadConsent].contains k

/-- Whether a request kind is available in a port state (R45). -/
def available (k : Byte) : PortState → Bool
  | .vacant => false
  | .linked => k = kindAttach || isRead k
  | .attached => true
  | .isolated => !(k = kindPropose || k = kindTalkOn)

/-! ### Windows (R113) -/

/-- The length of a window in a range that ends at `top` (R113). -/
def Window.length (top : Nat) (w : Window) : Nat :=
  if w.start ≤ w.stop then w.stop - w.start + 1 else (top - w.start + 1) + w.stop

/-- The length of a window that may be none. -/
def windowLength (top : Nat) : Option Window → Nat
  | none => 0
  | some w => w.length top

/-- The members of a window in window order, wrapping past the top of the range (R113). -/
def windowItems (top : Nat) : Option Window → List Nat
  | none => []
  | some w => (List.range (w.length top)).map fun i => (w.start - 1 + i) % top + 1

/-- The length of a plan's mic window. -/
def Plan.micLength (p : Plan) : Nat := windowLength 64 p.mic

/-- The length of a plan's return window. -/
def Plan.retLength (p : Plan) : Nat := windowLength 96 p.ret

/-- The total length of a plan's windows (R114). -/
def Plan.total (p : Plan) : Nat := p.micLength + p.retLength

/-- The channel that a window numbers. -/
def chanNumbered (n : Nat) : Chan := Fin.ofNat 64 (n - 1)

end Sys2Proof.Machine
end

