-- ==== Sys2Proof/Machine/Flags.lean ====
section
/-! DEFINITION. The codes of states, flags and reasons, and the encodings of the fields of replies and reports
(R169, R170). -/

namespace Sys2Proof.Machine

/-! ### Numbers as bytes -/

def byte (n : Nat) : Byte := BitVec.ofNat 8 n

/-- A number in `k` bytes, most significant first; of a number that does not fit, the low bytes. -/
def bytesOf : Nat → Nat → List Byte
  | 0, _ => []
  | k + 1, n => byte (n / 256 ^ k) :: bytesOf k n

/-- A signed number in `k` bytes of two's complement. -/
def signedBytes (k : Nat) (x : Int) : List Byte := bytesOf k (x % (256 ^ k : Nat)).toNat

/-- A field whose none is a code of its own. -/
def bytesOrNone (k none : Nat) : Option Nat → List Byte
  | .none => bytesOf k none
  | some n => bytesOf k n

def flagByte (b : Bool) : List Byte := [byte (if b then 1 else 0)]

/-- A numbered thing or NONE, 0 (R169). -/
def numByte {n : Nat} : Option (Fin n) → List Byte
  | none => [0]
  | some i => [byte (num i)]

/-- A count of frame periods or a last lag: 3 bytes, FFFFFFh for none. -/
def framesBytes (n : Option Nat) : List Byte := bytesOrNone 3 0xFFFFFF n

/-- A time in ms: 2 bytes, FFFFh for none. -/
def msBytes (n : Option Nat) : List Byte := bytesOrNone 2 0xFFFF n

/-- A net gain or an anchor: one signed byte, −128 for unknown or none. -/
def netByte : Option Int → List Byte
  | none => signedBytes 1 (-128)
  | some x => signedBytes 1 x

/-- A set of members: bit 0 for the first, and so on upward. -/
def setByte {n : Nat} (s : Bank n Bool) : List Byte :=
  [byte ((indexes n).foldl (fun a i => if s.get i then a + 2 ^ i.val else a) 0)]

/-- A desk name: its length and 16 characters, unused ones 0. -/
def nameBytes (name : List Byte) : List Byte :=
  byte name.length :: (List.range 16).map fun i => name.getD i 0

/-! ### Codes (R169) -/

def LaneState.code : LaneState → Nat
  | .dark => 0 | .seeking => 1 | .qualifying => 2 | .up => 3

def laneCode : LaneName → Nat
  | .A => 1 | .B => 2

def preferredCode : Option LaneName → Nat
  | none => 0 | some n => laneCode n

def PortState.code : PortState → Nat
  | .vacant => 0 | .linked => 1 | .attached => 2 | .isolated => 3

def ClockSource.code : ClockSource → Nat
  | .internal => 0 | .wordclock => 1

def ClockState.code : ClockState → Nat
  | .internal => 0 | .locked => 1 | .holdover => 2

def CardState.code : CardState → Nat
  | .present => 0 | .absent => 1

def PhantomState.code : PhantomState → Nat
  | .off => 0 | .queued => 1 | .rampUp => 2 | .settleUp => 3 | .on => 4 | .rampDown => 5

def Mode.code : Mode → Nat
  | .track => 0 | .follow => 1

def rateCode : Rate → Nat
  | .single => 0 | .double => 1

def OutputState.code : OutputState → Nat
  | .normal => 0 | .waiting => 1 | .fallback => 2

def Action.code : Action → Nat
  | .rate _ => 1 | .reset => 2 | .grant _ _ => 3

def Ending.code : Ending → Nat
  | .carried => 1 | .refused => 2 | .withdrawn => 3

def condCode : Cond → Nat
  | .normal => 0 | .silenced => 1 | .concealed => 2 | .clipped => 3

def condOf (n : Nat) : Cond :=
  match n % 4 with
  | 0 => .normal
  | 1 => .silenced
  | 2 => .concealed
  | _ => .clipped

def cardPhantomCode : Option Bool → Nat
  | some false => 0 | some true => 1 | none => 2

/-- Status codes (R170). -/
def Status.code : Status → Nat
  | .done => 0x00 | .clamped => 0x01 | .deferred => 0x02 | .range => 0x10 | .planSize => 0x11 | .noAuthority => 0x12
  | .lastAuthority => 0x13 | .notAttached => 0x14 | .busy => 0x15 | .notVoter => 0x16 | .tooLate => 0x17
  | .unknown => 0x18 | .malformed => 0x19

/-- Whether a status means that the request was taken (R170). -/
def Status.taken (s : Status) : Bool := s.code < 0x10

/-! ### Reasons and causes, numbered from 1 in the order of their tables -/

def LaneReason.code : LaneReason → Nat
  | .lightLost => 1 | .lightReturned => 2 | .acquired => 3 | .syncLost => 4 | .overBudget => 5 | .qualified => 6
  | .dropped => 7 | .active => 8

def PortReason.code : PortReason → Nat
  | .laneUp => 1 | .linkLost => 2 | .attached => 3 | .isolated => 4 | .rejoined => 5 | .holdExpired => 6
  | .detached => 7 | .identityChanged => 8 | .nameChanged => 9 | .setting => 10

def CardReason.code : CardReason → Nat
  | .noReply => 1 | .replied => 2

def PhantomReason.code : PhantomReason → Nat
  | .requested => 1 | .started => 2 | .ramped => 3 | .settled => 4 | .discharged => 5 | .cardReported => 6
  | .fault => 7 | .cardAbsent => 8

def OutputReason.code : OutputReason → Nat
  | .sourceLeft => 1 | .delayExpired => 2 | .sourceReturned => 3 | .patched => 4

def TalkReason.code : TalkReason → Nat
  | .inserted => 1 | .released => 2 | .timedOut => 3 | .departed => 4 | .reordered => 5

def DropReason.code : DropReason → Nat
  | .newStart => 1 | .length => 2 | .missingFrame => 3 | .timeout => 4

def Cause.code : Cause → Nat
  | .request => 1 | .departure => 2

/-! ### Compound fields -/

/-- A window: presence, start and end, as SET PLAN carries it. -/
def windowBytes : Option Window → List Byte
  | none => [0, 0, 0]
  | some w => [1, byte w.start, byte w.stop]

/-- The action with its two arguments, as CONSENT ENDED carries them (R170). -/
def actionBytes (a : Action) : List Byte :=
  byte a.code :: match a with
    | .rate r => [byte (rateCode r), 0]
    | .reset => [0, 0]
    | .grant f l => [byte (num f), byte (num l)]

/-- An output's source: port and return, both 0 for NONE, as a READ OUTPUTS item has them (R170). The 0 for the return in
OUTPUT STATE and PATCH CHANGED too is the model's choice (DESIGN CHOICE, Assumption 45). -/
def sourceBytes : Option Source → List Byte
  | none => [0, 0]
  | some s => [byte (num s.port), byte (num s.ret)]

/-- A talk dim in tenths, 8000h for MUTE, as a READ OUTPUTS item has it (R170). Its use in PATCH CHANGED too is the model's
choice (DESIGN CHOICE, Assumption 40). -/
def dimBytes : Dim → List Byte
  | .level t => signedBytes 2 t
  | .mute => [0x80, 0x00]

/-- A stream: its kind and three more bytes (R170). -/
def streamBytes : Stream → List Byte
  | .silence => [0, 0, 0, 0]
  | .ret s => [1, byte (num s.port), byte (num s.ret), 0]
  | .fallback c l => [2, byte (num c)] ++ signedBytes 2 l

/-- The 13 setting bytes, in the order of SET HUB (R170). -/
def settingBytes (h : Settings) : List Byte :=
  [byte h.converterDelay, byte h.rampTime, byte h.settleTime, byte h.consentWindow, byte h.liveLimit] ++
    (List.range 3).map (fun i => byte ((h.priority.map num).getD i 0)) ++
    [byte h.lossHold] ++ bytesOf 2 h.qualifyTime ++ [byte h.source.code] ++ numByte h.stageChannel

/-- A list of claims: a count byte, then a port and a live time each (R170). -/
def claimBytes (cs : List Claim) : List Byte :=
  byte cs.length :: cs.flatMap fun c => byte (num c.port) :: bytesOf 3 c.live

/-! ### Report bodies: the fields of each owning rule, in its order (R170) -/

/-- The body of a report. The encodings of PATCH CHANGED are not fixed by R137, R169 and R170: the fallback delay goes as 1
byte of 100 ms steps and the talk dim as 2 bytes with 8000h for MUTE (DESIGN CHOICE, Assumption 40). The taken level of the
button in STAGE TALK goes as a flag, 0 released and 1 pressed (DESIGN CHOICE, Assumption 47). P in PORT STATE, the live limit in
TALK TIMED OUT and the window in CONSENT ASKED go as one byte (DESIGN CHOICE, Assumption 58). -/
def Report.body : Report → List Byte
  | .laneState p l st why lag active =>
      [byte (num p), byte (laneCode l), byte st.code, byte why.code] ++ framesBytes lag ++ [byte (laneCode active)]
  | .portState p st why serial name offset preferred active =>
      [byte (num p), byte st.code, byte why.code] ++ bytesOrNone 4 0 serial ++ nameBytes name ++
        [byte offset, byte (preferredCode preferred), byte (laneCode active)]
  | .clockState st source => [byte st.code, byte source.code]
  | .cardState k st why timeouts status =>
      [byte (num k), byte st.code, byte why.code, byte timeouts, status.getD 0xFF]
  | .settingChanged c v ph owner auth =>
      [byte (num c), byte v.gain] ++ flagByte v.pad ++ flagByte ph ++ numByte owner ++ setByte auth
  | .gainApplied c v net owner due =>
      [byte (num c), byte v.gain] ++ flagByte v.pad ++ signedBytes 1 net ++ numByte owner ++ bytesOf 6 due
  | .phantomState c st why desired card pos ramping =>
      [byte (num c), byte st.code, byte why.code] ++ flagByte desired ++
        [byte (cardPhantomCode card), byte (pos.getD 0), byte ramping]
  | .phantomFault c before k status => [byte (num c), byte before.code, byte (num k), status]
  | .clip c frame negative comp net =>
      [byte (num c)] ++ bytesOf 6 frame ++ flagByte negative ++ signedBytes 2 comp ++ netByte net
  | .trackLimited c mode w comp anchor net =>
      [byte (num c), byte mode.code] ++ signedBytes 2 w ++ signedBytes 2 comp ++ netByte anchor ++ netByte net
  | .planTruncated r before after =>
      [byte (rateCode r), byte (Config.capacity r)] ++ windowBytes before.mic ++ windowBytes before.ret ++
        windowBytes after.mic ++ windowBytes after.ret
  | .outputState o st why source fc fl ms =>
      [byte (num o), byte st.code, byte why.code] ++ sourceBytes source ++ numByte fc ++ signedBytes 2 fl ++ msBytes ms
  | .patchChanged _ source pb fc fl fd listen dim sender =>
      sourceBytes source ++ numByte pb ++ numByte fc ++ signedBytes 2 fl ++ [byte fd] ++ flagByte listen ++
        dimBytes dim ++ [byte (num sender)]
  | .talkState cs live why => claimBytes cs ++ numByte live ++ [byte why.code]
  | .talkPreempted pos t live => [byte pos] ++ bytesOf 3 t ++ numByte live
  | .talkTimedOut t limit => bytesOf 3 t ++ [byte limit]
  | .stageTalk active taken ch => flagByte active ++ flagByte taken ++ numByte ch
  | .consentAsked n a p voters window => [byte n] ++ actionBytes a ++ [byte (num p)] ++ setByte voters ++ [byte window]
  | .consentEnded n a p e ob cause =>
      [byte n] ++ actionBytes a ++ [byte (num p), byte e.code] ++ numByte ob ++
        [byte ((cause.map Cause.code).getD 0)]
  | .rate new old n p => [byte (rateCode new), byte (rateCode old), byte n, byte (num p)]
  | .hubSetting h => settingBytes h
  | .hubResetDone n p => [byte n, byte (num p)]
  | .messageDropped why tag n => [byte why.code] ++ bytesOrNone 2 0xFFFF (tag.map BitVec.toNat) ++ [byte n]
  | .requestLost k t n => [k, t, byte n]

/-! ### Messages as bytes (R169) -/

/-- A reply: the kind of its request with bit 7 set, the tag, the body length, the status, the steps done and the
result fields (R169, R170). For the UNKNOWN reply to a kind outside 01h to 1Fh, which R169 gives no reply kind, bit 7 is
set just so (DESIGN CHOICE, Assumption 42). -/
def Reply.bytes (r : Reply) : List Byte :=
  [r.kind ||| 0x80, r.tag, byte (2 + r.result.length), byte r.status.code, byte r.steps] ++ r.result

/-- A report: its kind from 40h on, the LOST indication, the body length and the body (R169, R170). -/
def Report.bytes (r : Report) (lost : Bool) : List Byte :=
  [byte (0x40 + r.key.1), byte (if lost then 1 else 0), byte r.body.length] ++ r.body

end Sys2Proof.Machine
end

