-- ==== Sys2Proof/Machine/Frames.lean ====
section
/-! DEFINITION. The frames on the fibre: their layouts and their check (R168). -/

namespace Sys2Proof.Machine

/-! ### The check -/

/-- The bits of a byte, from bit 7 down. -/
def bitsOf (b : Byte) : List Bool := (List.range 8).map fun i => b.getLsbD (7 - i)

/-- One step of the division modulo 2 by x^16 + x^12 + x^5 + 1: the next bit of the string comes in at the right, and
the generator is subtracted when a bit leaves at the left (R168). -/
def divideStep (r : Nat) (bit : Bool) : Nat :=
  let r := 2 * r + (if bit then 1 else 0)
  if 65536 ≤ r then r ^^^ 0x11021 else r

/-- The check of the covered bytes: their bit string with its first 16 bits inverted and 16 zero bits appended, divided
by the generator (R168). -/
def checkOf (covered : List Byte) : Nat :=
  let bits := covered.flatMap bitsOf
  ((bits.take 16).map (!·) ++ bits.drop 16 ++ List.replicate 16 false).foldl divideStep 0

/-! ### Slots and the control field -/

/-- The condition bytes of a list of slots: 2 bits each, 4 to a byte, the first in the top bits (R168). -/
def condBytes : List Slot → List Byte
  | a :: b :: c :: d :: rest =>
      byte (condCode a.cond * 64 + condCode b.cond * 16 + condCode c.cond * 4 + condCode d.cond) :: condBytes rest
  | _ => []

/-- The control status byte and the four control bytes (R168). -/
def controlField (cs : List ControlByte) : List Byte :=
  let marks := (List.range 4).foldl (fun a i => if (cs.map (·.start)).getD i false then a + 2 ^ (3 - i) else a) 0
  byte (cs.length * 32 + marks) :: (List.range 4).map fun i => (cs.map (·.byte)).getD i 0

/-- The covered bytes of a downstream frame: bytes 3 to 322 (R168). -/
def DownFrame.covered (f : DownFrame) : List Byte :=
  bytesOf 2 f.seq ++
    [byte ((if f.hold then 1 else 0) + (match f.rate with | .single => 0 | .double => 2) + (if f.stageTalk then 4 else 0))] ++
    f.slots.toList.flatMap (fun s => signedBytes 3 s.sample) ++ condBytes f.slots.toList ++ controlField f.control

/-- The 324 bytes of a downstream frame (R168). -/
def DownFrame.bytes (f : DownFrame) : List Byte := [0xA7, 0x5C] ++ f.covered ++ bytesOf 2 f.check

/-! ### Upstream frames -/

/-- Whether the sync pattern of an upstream frame is there: A7h, C5h (R168). -/
def upSync (b : UpBytes) : Bool := b.get 0 = 0xA7 && b.get 1 = 0xC5

/-- Whether an upstream frame has a good check: the check of bytes 3 to 118 equals bytes 119 and 120 (R168). -/
def upCheckGood (b : UpBytes) : Bool :=
  checkOf ((b.toList.drop 2).take 116) = u16 b.toList 118

/-- Slot `i` (from 0) of an upstream frame (R168). -/
def upSlot (l : List Byte) (i : Nat) : Slot :=
  { sample := (BitVec.ofNat 24 (u8 l (5 + 3 * i) * 65536 + u16 l (6 + 3 * i))).toInt,
    cond := condOf (u8 l (104 + i / 4) / 4 ^ (3 - i % 4)) }

/-- The valid control bytes of an upstream frame: a count of 5, 6 or 7 is taken as 4, and a START mark beyond the count
is ignored (R168). -/
def upControl (l : List Byte) : List ControlByte :=
  let status := u8 l 113
  (List.range (min 4 (status / 32))).map fun i =>
    { byte := l.getD (114 + i) 0, start := status / 2 ^ (3 - i) % 2 = 1 }

/-- What an upstream frame holds: its echoed sequence number, DESK HOLD, 33 slots and control field (R3, R168). -/
def upCopy (b : UpBytes) : Copy :=
  let l := b.toList
  { echo := u16 l 2, deskHold := u8 l 4 % 2 = 1, slots := Bank.tabulate fun i => upSlot l i.val, control := upControl l }

end Sys2Proof.Machine
end

