-- ==== Sys2Proof/Machine/Control.lean ====
section
/-! DEFINITION. The control channels: assembling upstream messages, the request queue and HOLD, serving a request,
the immediate requests, and the outbound arbiter (3.1 to 3.4), with the ASSEMBLY_TIMEOUT and UNKNOWN_REQUEST commands. -/

namespace Sys2Proof.Machine

/-! ### Assembling (R39, R40) -/

/-- An assembly in progress is discarded with a reason, and MESSAGE DROPPED is posted; with none in progress nothing
happens (R40). -/
def dropAssembly (p : Port) (why : DropReason) (s : State) : State :=
  match (s.port p).control.assembly with
  | none => s
  | some a =>
      s |> modControl p (fun k => { k with assembly := none })
        |> postTo p (.messageDropped why (a.bytes[1]?) 1)

/-- REQUEST LOST for a discarded request (R42). -/
def loseRequest (p : Port) (m : Message) (s : State) : State := postTo p (.requestLost m.kind m.tag 1) s

/-- A queued request joins the tail of the request queue; HOLD is set by an arrival that leaves 6 or more; with 8 in
the queue it is discarded (R42, R43). -/
def queueRequest (p : Port) (m : Message) (s : State) : State :=
  if (s.port p).control.requests.length < Config.requestPlaces then
    modControl p (fun k =>
      { k with requests := k.requests ++ [m],
               hold := k.hold || decide (Config.holdLevel ≤ (k.requests ++ [m]).length) }) s
  else loseRequest p m s

/-- A complete message is classified by its kind: an immediate request waits for its own step, every other joins the
request queue (R41; Assumption 5). -/
def classify (p : Port) (m : Message) (s : State) : State :=
  if isImmediate m.kind then modControl p (fun k => { k with arrived := k.arrived ++ [m] }) s else queueRequest p m s

/-- The message that the gathered bytes make. -/
def messageOf (bytes : List Byte) : Message :=
  { kind := bytes.getD 0 0, tag := bytes.getD 1 0, body := bytes.drop 3 }

/-- The gathered bytes with one more: they stay in progress, are discarded for their length, or are complete (R39). -/
def extend (p : Port) (bytes : List Byte) (s : State) : State :=
  let t := modControl p (fun k => { k with assembly := some { bytes := bytes, idle := 0 } }) s
  if bytes.length < 3 then t
  else if 61 < u8 bytes 2 then dropAssembly p .length t
  else if bytes.length = 3 + u8 bytes 2 then
    classify p (messageOf bytes) (modControl p (fun k => { k with assembly := none }) t)
  else t

/-- One valid control byte taken by the assembly (the table of R39). -/
def takeByte (p : Port) (b : ControlByte) (s : State) : State :=
  if b.start then extend p [b.byte] (dropAssembly p .newStart s)
  else
    match (s.port p).control.assembly with
    | none => s
    | some a => extend p (a.bytes ++ [b.byte]) s

/-- The end of a frame period in which the assembly took no byte: its count rises by one (R40). -/
def idleAssembly (p : Port) (s : State) : State :=
  modControl p (fun k => { k with assembly := k.assembly.map fun a => { a with idle := a.idle + 1 } }) s

/-- The control bytes of a played-out copy (R39, R40). -/
def takeControl (p : Port) (bytes : List ControlByte) (s : State) : State :=
  if bytes = [] then idleAssembly p s else forEach (takeByte p) bytes s

/-- ASSEMBLY_TIMEOUT (R40): the count of frame periods since the assembly's last byte has reached 64. -/
def assemblyTimedOut (p : Port) (s : State) : State :=
  match (s.port p).control.assembly with
  | some a => if Config.assemblyTarget ≤ a.idle then dropAssembly p .timeout s else s
  | none => s

def execAssemblyTimeout (p : Port) (s : State) : Host.Outcome State Fault Refusal :=
  .next (whenRunning (assemblyTimedOut p) s)

/-! ### Serving requests (R44 to R48) -/

/-- What an owning block answers: the state after service, and the status, steps done and result fields of the reply
(R47). -/
structure Served where
  state : State
  status : Status
  steps : Nat
  result : List Byte

/-- A request refused whole: nothing changes, and the reply carries steps done 0 and no result fields (R47). -/
def refuse (st : Status) (s : State) : Served := { state := s, status := st, steps := 0, result := [] }

/-- A request taken as one item: steps done 1 (R47). -/
def taken (st : Status) (result : List Byte) (s : State) : Served :=
  { state := s, status := st, steps := 1, result := result }

/-- A reply joins the tail of the port's reply queue (R48). -/
def pushReply (p : Port) (m : Message) (r : Served) : State :=
  modControl p (fun k =>
    { k with replies := k.replies ++ [{ kind := m.kind, tag := m.tag, status := r.status, steps := r.steps,
                                        result := r.result }] }) r.state

/-- The request served leaves the queue, and HOLD clears when the queue becomes empty (R43, R44). -/
def popRequest (p : Port) (s : State) : State :=
  modControl p (fun k =>
    { k with requests := k.requests.drop 1, hold := if k.requests.drop 1 = [] then false else k.hold }) s

/-- The checks before the owning block: the body length, then the availability in the port state (R44, steps 2 to 4). -/
def checkAndServe (p : Port) (owner : Message → State → Served) (m : Message) (s : State) : Served :=
  if ¬ bodyLengthRight m.kind m.body then refuse .malformed s
  else if ¬ available m.kind (s.portState p) then refuse .notAttached s
  else owner m s

/-- The service of the request at the head of a port's queue, when it is of the kind given and the reply queue has a
free place; otherwise the head waits (R44). -/
def serve (p : Port) (kind : Byte) (owner : Message → State → Served) (s : State) : State :=
  match (s.port p).control.requests with
  | [] => s
  | m :: _ =>
      if m.kind = kind ∧ (s.port p).control.replies.length < Config.replyPlaces then
        popRequest p (pushReply p m (checkAndServe p owner m s))
      else s

/-- A request whose kind is not a request kind, at the head (R44, step 1). -/
def serveUnknown (p : Port) (s : State) : State :=
  match (s.port p).control.requests with
  | [] => s
  | m :: _ =>
      if ¬ isRequestKind m.kind ∧ (s.port p).control.replies.length < Config.replyPlaces then
        popRequest p (pushReply p m (refuse .unknown s))
      else s

/-- UNKNOWN_REQUEST (R44). -/
def execUnknownRequest (p : Port) (s : State) : Host.Outcome State Fault Refusal :=
  .next (whenRunning (serveUnknown p) s)

/-- An immediate request of the kind given, taken as the oldest that completed: lost with a full reply queue, refused
with MALFORMED or NOT_ATTACHED, or handed to its owner (R46). -/
def takeImmediate (p : Port) (kind : Byte) (owner : Message → State → Served) (s : State) : State :=
  match (s.port p).control.arrived with
  | [] => s
  | m :: rest =>
      if m.kind = kind then
        let t := modControl p (fun k => { k with arrived := rest }) s
        if Config.replyPlaces ≤ (s.port p).control.replies.length then loseRequest p m t
        else if ¬ bodyLengthRight m.kind m.body then pushReply p m (refuse .malformed t)
        else if t.portState p ≠ .attached then pushReply p m (refuse .notAttached t)
        else pushReply p m (owner m t)
      else s

/-! ### The outbound arbiter (R49) -/

/-- The next control byte of a control channel, where it has one to send: the next byte of the message in progress, or
the first of a new message: the oldest reply, and otherwise the oldest report, with the LOST indication (R49, R53). -/
def Control.nextByte (deskHold : Bool) (k : Control) : Option (ControlByte × Control) :=
  match k.outbound with
  | b :: rest => some ({ byte := b, start := false }, { k with outbound := rest })
  | [] =>
      if deskHold then none
      else
        match k.replies, k.reports with
        | r :: rs, _ =>
            some ({ byte := r.bytes.headD 0, start := true }, { k with outbound := r.bytes.tail, replies := rs })
        | [], r :: rs =>
            some ({ byte := (r.bytes k.lost).headD 0, start := true },
              { k with outbound := (r.bytes k.lost).tail, reports := rs, lost := false })
        | [], [] => none

/-- The control field of a frame: up to `n` bytes in order, and the control channel after them (R49). -/
def Control.fill (deskHold : Bool) : Nat → Control → List ControlByte × Control
  | 0, k => ([], k)
  | n + 1, k =>
      match k.nextByte deskHold with
      | none => ([], k)
      | some (b, k') =>
          let r := Control.fill deskHold n k'
          (b :: r.1, r.2)

/-- What a port's control channel keeps on entry to VACANT: the message in progress alone (R30). -/
def Control.vacated (k : Control) : Control := { Control.reset with outbound := k.outbound }

end Sys2Proof.Machine
end

