-- ==== Sys2Proof/Machine/Gain.lean ====
section
/-! DEFINITION. The gain tracking unit: compensation, limit notices, steps and ramps, the reset of the records (chapter
5), with SET_TRIM, SET_TRACKING, ARM_NOTICES, READ_METERS and COEFFICIENT_RAMP_END. -/

namespace Sys2Proof.Machine

/-! ### Coefficients (R87 to R89) -/

/-- The coefficient a ramp, or a step not yet in force, is going to; otherwise the coefficient in force. -/
def rampGoal (coefficient : Nat) : Option Ramp → Nat
  | some r => r.target
  | none => coefficient

/-- The ramp after a ramping event asks for the target `k` (R89). -/
def rampToward (coefficient : Nat) (ramp : Option Ramp) (k : Nat) : Option Ramp :=
  if rampGoal coefficient ramp = k then ramp else some { start := coefficient, target := k, steps := 0 }

/-- One more step of a ramp, up to step 32 (R88). -/
def Ramp.advance (r : Ramp) : Ramp := { r with steps := satSucc Config.rampSteps r.steps }

def DeskRecord.goal (r : DeskRecord) : Nat := r.stepNext.getD (rampGoal r.coefficient r.ramp)

/-- The coefficient steps at once, and a ramp ends (R87, application). -/
def DeskRecord.stepTo (k : Nat) (r : DeskRecord) : DeskRecord := { r with coefficient := k, ramp := none, stepNext := none }

/-- The coefficient steps at the next frame, and a ramp ends (R87, first known net gain). -/
def DeskRecord.stepLater (k : Nat) (r : DeskRecord) : DeskRecord := { r with ramp := none, stepNext := some k }

/-- The coefficient ramps to a new target, as R89 gives. The table of R89 has no row for a record whose first step (R87) still
waits for the next frame. There the model goes by the value the step is going to: with that value as target the step stands and
no ramp starts; with any other the step is given up and a ramp starts from the coefficient in force, also where the target is
that coefficient itself (DESIGN CHOICE, Assumption 51). -/
def DeskRecord.rampTo (k : Nat) (r : DeskRecord) : DeskRecord :=
  if r.goal = k then r
  else { r with ramp := some { start := r.coefficient, target := k, steps := 0 }, stepNext := none }

/-- The coefficient in force moves by one frame: a step that waited is made, or a ramp takes its next step (R85, R88). -/
def DeskRecord.nextFrame (r : DeskRecord) : DeskRecord :=
  match r.stepNext with
  | some k => { r with coefficient := k, ramp := none, stepNext := none }
  | none =>
      match r.ramp with
      | some x =>
          if x.steps < Config.rampSteps then { r with coefficient := x.advance.value, ramp := some x.advance } else r
      | none => r

/-- COEFFICIENT_RAMP_END (R88): the ramp has reached step 32, and the record holds its target with no ramp. -/
def DeskRecord.endRamp (r : DeskRecord) : DeskRecord :=
  match r.ramp with
  | some x => if Config.rampSteps ≤ x.steps then { r with coefficient := x.target, ramp := none } else r
  | none => r

def execCoefficientRampEnd (p : Port) (c : Chan) (s : State) : Host.Outcome State Fault Refusal :=
  .next (whenRunning (modDesk p c DeskRecord.endRamp) s)

/-! ### The compensation (R80, R82) -/

/-- The wanted compensation (R80). -/
def DeskRecord.wantedAt (net : Option Int) (r : DeskRecord) : Int :=
  match r.mode, r.anchor, net with
  | .track, some a, some g => r.trim + 10 * (a - g)
  | _, _, _ => r.trim

/-- A record computed: w, c and the limited flag (R80, R82). -/
def DeskRecord.compute (net : Option Int) (r : DeskRecord) : DeskRecord :=
  let w := r.wantedAt net
  let c := clampInt (-Config.maxComp) Config.maxComp w
  { r with wanted := w, comp := c, limited := decide (c ≠ w) }

/-- The limit notice of a record just computed: posted, and limit-armed cleared, when the record is limited and armed
and its port is not VACANT (R82). -/
def limitNotice (p : Port) (c : Chan) (s : State) : State :=
  let r := s.desk p c
  if r.limited ∧ r.limitArmed ∧ s.portState p ≠ .vacant then
    s |> postTo p (.trackLimited c r.mode r.wanted r.comp r.anchor (s.channel c).net)
      |> modDesk p c (fun r => { r with limitArmed := false })
  else s

/-- A record computed, with the way its coefficient reaches the new value (R80), and its limit notice. -/
def computeRecord (how : Nat → DeskRecord → DeskRecord) (p : Port) (c : Chan) (s : State) : State :=
  s |> modDesk p c (fun r =>
        let r := r.compute (s.channel c).net
        how (coefficientOf r.comp) r)
    |> limitNotice p c

/-- The three records of a channel computed at an application and stepped (R91). -/
def applyToRecords (c : Chan) (s : State) : State :=
  forEach (fun p => computeRecord DeskRecord.stepTo p c) (indexes 3) s

/-- The net gain of a channel becomes known: every record with no anchor takes it, and the three are computed and
stepped (R92). -/
def firstNetGain (c : Chan) (s : State) : State :=
  forEach (fun p s =>
    s |> modDesk p c (fun r => { r with anchor := r.anchor <|> (s.channel c).net })
      |> computeRecord DeskRecord.stepLater p c) (indexes 3) s

/-- A reset of one record, given the channel's net gain at that moment (R79, R93), also in a frame in which an application falls
due, where R90 would have w the same in either order (DESIGN CHOICE, Assumption 53). -/
def DeskRecord.cleared (net : Option Int) (r : DeskRecord) : DeskRecord :=
  { r with trim := 0, mode := .track, anchor := net, wanted := 0, comp := 0, limited := false, limitArmed := true,
           clipArmed := true, peak := 0 }.rampTo Config.unity

/-- A reset of the 64 records of one port (R93). -/
def resetRecords (p : Port) (s : State) : State :=
  { s with desks := s.desks.modify p fun b => b.eachIdx fun c r => r.cleared (s.channel c).net }

/-! ### Desk requests (5.7, 7.4, 7.5) -/

/-- The limited channels of a range in a port's records, in ascending order. -/
def limitedOf (p : Port) (cs : List Chan) (s : State) : List Chan := cs.filter fun c => (s.desk p c).limited

/-- The limited count and the first limited channel (R96). -/
def limitedFields (p : Port) (cs : List Chan) (s : State) : List Byte :=
  let l := limitedOf p cs s
  byte l.length :: numByte l.head?

/-- The two result fields of a refused SET TRIM or SET TRACKING: a limited count of 0 and none (R96). -/
def refuseLimited (s : State) : Served := { refuse .range s with result := [0, 0] }

/-- One channel's record takes a trim (R94, step 3). -/
def trimRecord (p : Port) (t : Int) (c : Chan) (s : State) : State :=
  if (s.desk p c).trim = t then s
  else s |> modDesk p c (fun r => { r with trim := t }) |> computeRecord DeskRecord.rampTo p c

/-- SET TRIM (R94). -/
def serveTrim (p : Port) (m : Message) (s : State) : Served :=
  match rangeOf 64 (u8 m.body 0) (u8 m.body 1) with
  | none => refuseLimited s
  | some cs =>
      let x := s16 m.body 2
      let t := clampInt (-Config.maxTrim) Config.maxTrim x
      let s := forEach (trimRecord p t) cs s
      { state := s, status := if t = x then .done else .clamped, steps := cs.length,
        result := limitedFields p cs s ++ signedBytes 2 t }

def execSetTrim (p : Port) (s : State) : Host.Outcome State Fault Refusal :=
  .next (whenRunning (serve p kindSetTrim (serveTrim p)) s)

/-- The mode a code names (R169). -/
def modeOf : Nat → Option Mode
  | 0 => some .track
  | 1 => some .follow
  | _ => none

/-- One channel's record takes a mode (the table of R95). The anchor of a record that enters TRACK is the net gain at that moment
(R79, R95), also in a frame in which an application falls due: then w depends on which of the two is taken first, where R90 says
that it does not (DESIGN CHOICE, Assumption 53). -/
def trackRecord (p : Port) (m : Mode) (c : Chan) (s : State) : State :=
  match (s.desk p c).mode, m with
  | .follow, .track =>
      s |> modDesk p c (fun r => { r with mode := .track, anchor := (s.channel c).net })
        |> computeRecord DeskRecord.rampTo p c
  | .track, .follow =>
      s |> modDesk p c (fun r => { r with mode := .follow }) |> computeRecord DeskRecord.rampTo p c
  | _, _ => s

/-- SET TRACKING (R95). -/
def serveTracking (p : Port) (m : Message) (s : State) : Served :=
  match rangeOf 64 (u8 m.body 0) (u8 m.body 1), modeOf (u8 m.body 2) with
  | some cs, some mode =>
      let s := forEach (trackRecord p mode) cs s
      { state := s, status := .done, steps := cs.length, result := limitedFields p cs s }
  | _, _ => refuseLimited s

def execSetTracking (p : Port) (s : State) : Host.Outcome State Fault Refusal :=
  .next (whenRunning (serve p kindSetTracking (serveTracking p)) s)

/-- ARM NOTICES (R124). -/
def serveArm (p : Port) (m : Message) (s : State) : Served :=
  let code := u8 m.body 2
  match rangeOf 64 (u8 m.body 0) (u8 m.body 1) with
  | none => refuse .range s
  | some cs =>
      if 1 ≤ code ∧ code ≤ 3 then
        let arm (r : DeskRecord) : DeskRecord :=
          { r with clipArmed := r.clipArmed || decide (code ≠ 2), limitArmed := r.limitArmed || decide (code ≠ 1) }
        let s := forEach (fun c => modDesk p c arm) cs s
        { state := s, status := .done, steps := cs.length, result := limitedFields p cs s }
      else refuse .range s

def execArmNotices (p : Port) (s : State) : Host.Outcome State Fault Refusal :=
  .next (whenRunning (serve p kindArmNotices (serveArm p)) s)

/-- A READ METERS item: one 24-bit number of the peak below full scale, the compensation plus 400, the limited flag and
whether the channel is in the mic window (R170). -/
def meterItem (p : Port) (s : State) (c : Chan) : List Byte :=
  let r := s.desk p c
  let inWindow := (windowItems 64 (s.port p).plan.mic).contains (num c)
  bytesOf 3 (peakTenthsBelow r.peak * 2 ^ 13 + (r.comp + 400).toNat * 2 ^ 3 + (if r.limited then 4 else 0) +
    (if inWindow then 2 else 0))

/-- READ METERS: the items, and the meters read reset to 0 (R126). -/
def serveMeters (p : Port) (m : Message) (s : State) : Served :=
  match rangeOf 64 (u8 m.body 0) (u8 m.body 1) with
  | none => refuse .range s
  | some cs =>
      if 16 < cs.length then refuse .range s
      else
        { state := forEach (fun c => modDesk p c fun r => { r with peak := 0 }) cs s, status := .done,
          steps := cs.length, result := cs.flatMap (meterItem p s) }

def execReadMeters (p : Port) (s : State) : Host.Outcome State Fault Refusal :=
  .next (whenRunning (serve p kindReadMeters (serveMeters p)) s)

end Sys2Proof.Machine
end

