-- ==== Sys2Proof/Machine/Outputs.lean ====
section
/-! DEFINITION. The output router: streams, output states, crossfades, dim, and the output sample (chapter 8), with
PATCH_OUTPUT, SET_OUTPUT, READ_OUTPUTS, DELAY_EXPIRED, CROSSFADE_END and DIM_RAMP_END. -/

namespace Sys2Proof.Machine

/-! ### Streams and crossfades (R128, R132) -/

/-- The stream an output's state asks for (the second table of R128). -/
def Output.stream (o : Output) : Stream :=
  match o.state with
  | .normal | .waiting =>
      match o.source with
      | some src => .ret src
      | none => .silence
  | .fallback =>
      match o.fallbackChannel with
      | some c => .fallback c o.fallbackLevel
      | none => .silence

/-- The crossfade after an event that changes the carried stream from `old` to `new` (R132). -/
def fadeTo (fade : Option Crossfade) (old new : Stream) : Option Crossfade :=
  if old = new then fade
  else
    match fade with
    | none => some { old := old, new := new, steps := 0 }
    | some x =>
        if new = x.new then fade
        else if new = x.old then
          if x.steps = 0 then none else some { old := x.new, new := x.old, steps := Config.fadeSteps - x.steps }
        else some { old := x.new, new := new, steps := 0 }

/-- An event on an output that may change its stream: the crossfade follows (R128, R132). -/
def Output.become (f : Output → Output) (o : Output) : Output :=
  { f o with crossfade := fadeTo o.crossfade o.stream (f o).stream }

/-- CROSSFADE_END (R132): the crossfade has reached step 480, and the output carries the new stream alone. -/
def Output.endFade (o : Output) : Output :=
  match o.crossfade with
  | some x => if Config.fadeSteps ≤ x.steps then { o with crossfade := none } else o
  | none => o

def execCrossfadeEnd (o : OutNo) (s : State) : Host.Outcome State Fault Refusal :=
  .next (whenRunning (modOutput o Output.endFade) s)

/-! ### Dim (R133) -/

/-- The target of an output's dim coefficient, with a live talker or without (R133). -/
def Output.dimTarget (talking : Bool) (o : Output) : Nat :=
  if talking then
    match o.dim with
    | .level t => coefficientOf t
    | .mute => 0
  else Config.unity

/-- The dim target reworked: the coefficient ramps to it as R89 gives (R133). -/
def Output.redim (talking : Bool) (o : Output) : Output :=
  { o with dimRamp := rampToward o.dimCoefficient o.dimRamp (o.dimTarget talking) }

/-- DIM_RAMP_END (R133). -/
def Output.endDim (o : Output) : Output :=
  match o.dimRamp with
  | some x => if Config.rampSteps ≤ x.steps then { o with dimCoefficient := x.target, dimRamp := none } else o
  | none => o

def execDimRampEnd (o : OutNo) (s : State) : Host.Outcome State Fault Refusal :=
  .next (whenRunning (modOutput o Output.endDim) s)

/-- The live talker: the port of the claim at the head of the list (R141). -/
def liveTalker (s : State) : Option Port := s.talk.claims.head?.map Claim.port

/-- Every output's dim target reworked (R133). -/
def redimAll (s : State) : State := { s with outputs := s.outputs.each (Output.redim (liveTalker s).isSome) }

/-! ### Output states (R129 to R131) -/

/-- The fallback delay remaining in ms, rounded up, while WAITING (R137). -/
def Output.remainingMs (o : Output) : Option Nat :=
  match o.state, o.timer with
  | .waiting, some e => some (msRoundedUp (o.delayTarget - e))
  | _, _ => none

/-- OUTPUT STATE as the output stands (R137). -/
def postOutput (n : OutNo) (why : OutputReason) (s : State) : State :=
  let o := s.output n
  post (.outputState n o.state why o.source o.fallbackChannel o.fallbackLevel o.remainingMs) s

/-- PATCH CHANGED as the output stands, with the port that sent the request (R137). -/
def postPatch (p : Port) (n : OutNo) (s : State) : State :=
  let o := s.output n
  post (.patchChanged n o.source o.patchedBy o.fallbackChannel o.fallbackLevel o.fallbackDelay o.listen o.dim p) s

/-- Whether the fallback delay of an output has expired (R130). -/
def Output.delayDue (o : Output) : Bool :=
  match o.state, o.timer with
  | .waiting, some e => o.delayTarget ≤ e
  | _, _ => false

/-- The expiry of an output's fallback delay (R130). -/
def Output.expire (o : Output) : Output := o.become fun o => { o with state := .fallback, timer := none }

/-- An output whose delay has expired enters FALLBACK, with its report (R130). -/
def expireDelay (n : OutNo) (s : State) : State :=
  if (s.output n).delayDue then s |> modOutput n Output.expire |> postOutput n .delayExpired else s

/-- DELAY_EXPIRED (R130). -/
def execDelayExpired (n : OutNo) (s : State) : Host.Outcome State Fault Refusal :=
  .next (whenRunning (expireDelay n) s)

/-- Whether an output's source is a return of a port. -/
def Output.sourcedBy (p : Port) (o : Output) : Bool :=
  match o.source with
  | some src => src.port = p
  | none => false

/-- One output when its source port leaves ATTACHED (R129, R130). -/
def outputLeft (p : Port) (n : OutNo) (s : State) : State :=
  if (s.output n).state = .normal ∧ (s.output n).sourcedBy p then
    s |> modOutput n (fun o => { o with state := .waiting, timer := some 0 }) |> postOutput n .sourceLeft |> expireDelay n
  else s

/-- The outputs when a port leaves ATTACHED (R129). -/
def outputsLeft (p : Port) (s : State) : State := forEach (outputLeft p) (indexes 32) s

/-- One output when its source port returns to ATTACHED (R131). -/
def outputReturned (p : Port) (n : OutNo) (s : State) : State :=
  if (s.output n).state ≠ .normal ∧ (s.output n).sourcedBy p then
    s |> modOutput n (Output.become fun o => { o with state := .normal, timer := none }) |> postOutput n .sourceReturned
  else s

/-- The outputs when a port returns to ATTACHED (R131). -/
def outputsReturned (p : Port) (s : State) : State := forEach (outputReturned p) (indexes 32) s

/-! ### PATCH OUTPUT (R135) -/

/-- The state and timer an output takes from a new source, given the port states (the table of R135). -/
def patchedState (s : State) : Option Source → OutputState × Option Nat
  | none => (.normal, none)
  | some src =>
      match s.portState src.port with
      | .attached => (.normal, none)
      | .isolated => (.waiting, some 0)
      | .linked | .vacant => (.fallback, none)

/-- An output patched to a new source: its state, timer and crossfade are recomputed (R135, step 2). -/
def Output.patch (st : OutputState × Option Nat) (src : Option Source) (o : Output) : Output :=
  o.become fun o => { o with source := src, state := st.1, timer := st.2 }

/-- One output of a PATCH OUTPUT (R135, steps 2 and 3). The report of a delay of 0 that expires at once joins after that of the
entry to WAITING (R130; Assumption 11). -/
def patchOne (p : Port) (src : Option Source) (n : OutNo) (s : State) : State :=
  let old := s.output n
  let t := s |> modOutput n (fun o =>
    { (if o.source = src then o else o.patch (patchedState s src) src) with patchedBy := some p })
  let new := t.output n
  let t := if old.source = new.source ∧ old.patchedBy = new.patchedBy then t else postPatch p n t
  let t := if old.state = new.state then t else postOutput n .patched t
  if old.source = src then t else expireDelay n t

/-- The outputs of a range with the source each takes: output first + j takes return r + j (R135). -/
def patchTargets (src : Option Port) (r : Nat) (outs : List OutNo) : List (OutNo × Option Source) :=
  outs.mapIdx fun j o => (o, src.map fun q => { port := q, ret := Fin.ofNat 32 (r + j - 1) })

/-- PATCH OUTPUT (R135). -/
def servePatch (p : Port) (m : Message) (s : State) : Served :=
  let code := u8 m.body 2
  let r := u8 m.body 3
  match rangeOf 32 (u8 m.body 0) (u8 m.body 1) with
  | none => refuse .range s
  | some outs =>
      if 3 < code ∨ (code ≠ 0 ∧ (r < 1 ∨ 32 < r + (outs.length - 1))) then refuse .range s
      else
        { state := forEach (fun x => patchOne p x.2 x.1) (patchTargets (portOf code) r outs) s, status := .done,
          steps := outs.length, result := [] }

def execPatchOutput (p : Port) (s : State) : Host.Outcome State Fault Refusal :=
  .next (whenRunning (serve p kindPatchOutput (servePatch p)) s)

/-! ### SET OUTPUT (R136) -/

/-- The present fields of a SET OUTPUT, after clamping. -/
structure OutputFields where
  channel : Option (Option Chan)
  level : Option Int
  delay : Option Nat
  listen : Option Bool
  dim : Option Dim

/-- A field that is present when its presence bit is set. -/
def whenSet {α : Type} (presence bit : Nat) (x : α) : Option α := if presence / 2 ^ bit % 2 = 1 then some x else none

/-- The fields of a SET OUTPUT body after clamping, and whether any was clamped (R136, step 2; R169). -/
def outputFields (b : List Byte) : OutputFields × Bool :=
  let pr := u8 b 2
  let level := clampInt (-400) 0 (s16 b 4)
  let dimLevel := clampInt (-400) 0 (s16 b 9)
  ({ channel := whenSet pr 0 (ofNum 64 (min 64 (u8 b 3))), level := whenSet pr 1 level,
     delay := whenSet pr 2 (min 50 (u8 b 6)), listen := whenSet pr 3 (decide (u8 b 7 = 1)),
     dim := whenSet pr 4 (if u8 b 8 = 1 then .mute else .level dimLevel) },
   (whenSet pr 0 (decide (64 < u8 b 3))).getD false || (whenSet pr 1 (decide (level ≠ s16 b 4))).getD false ||
     (whenSet pr 2 (decide (50 < u8 b 6))).getD false ||
     (whenSet pr 4 (decide (u8 b 8 = 0 ∧ dimLevel ≠ s16 b 9))).getD false)

/-- Whether a SET OUTPUT body holds an unknown code: of talk listen, or of the dim kind (R136, R169). -/
def outputCodesBad (b : List Byte) : Bool :=
  (whenSet (u8 b 2) 3 (decide (1 < u8 b 7))).getD false || (whenSet (u8 b 2) 4 (decide (1 < u8 b 8))).getD false

/-- An output takes the present fields; a changed fallback in FALLBACK starts a crossfade, and a changed dim reworks
the dim target (R136, step 3). -/
def Output.take (talking : Bool) (f : OutputFields) (o : Output) : Output :=
  let new := o.become fun o =>
    { o with fallbackChannel := f.channel.getD o.fallbackChannel, fallbackLevel := f.level.getD o.fallbackLevel,
             fallbackDelay := f.delay.getD o.fallbackDelay, listen := f.listen.getD o.listen, dim := f.dim.getD o.dim }
  if new.dim = o.dim then new else new.redim talking

/-- Whether two records of an output hold the same settings (R137). -/
def Output.sameSettings (a b : Output) : Bool :=
  a.source = b.source && a.patchedBy = b.patchedBy && a.fallbackChannel = b.fallbackChannel &&
    a.fallbackLevel = b.fallbackLevel && a.fallbackDelay = b.fallbackDelay && a.listen = b.listen && a.dim = b.dim

/-- One output of a SET OUTPUT takes the present fields, and a changed delay is tested (R136, step 3; R130). -/
def setOne (f : OutputFields) (n : OutNo) (s : State) : State :=
  let t := modOutput n (Output.take (liveTalker s).isSome f) s
  if (s.output n).fallbackDelay = (t.output n).fallbackDelay then t else expireDelay n t

/-- PATCH CHANGED of one output whose settings are not those it had in `before` (R136, step 4). -/
def reportChange (p : Port) (before : State) (n : OutNo) (s : State) : State :=
  if (before.output n).sameSettings (s.output n) then s else postPatch p n s

/-- The outputs of a SET OUTPUT: every one takes the fields, and then each that has changed is reported (R136, steps 3
and 4). -/
def setOutputs (p : Port) (f : OutputFields) (outs : List OutNo) (s : State) : State :=
  s |> forEach (setOne f) outs |> forEach (reportChange p s) outs

/-- SET OUTPUT (R136). -/
def serveSetOutput (p : Port) (m : Message) (s : State) : Served :=
  match rangeOf 32 (u8 m.body 0) (u8 m.body 1) with
  | none => refuse .range s
  | some outs =>
      if outputCodesBad m.body then refuse .range s
      else
        let f := outputFields m.body
        { state := setOutputs p f.1 outs s, status := if f.2 then .clamped else .done, steps := outs.length,
          result := [] }

def execSetOutput (p : Port) (s : State) : Host.Outcome State Fault Refusal :=
  .next (whenRunning (serve p kindSetOutput (serveSetOutput p)) s)

/-! ### READ OUTPUTS (R138) -/

/-- A READ OUTPUTS item of 29 bytes (R170). -/
def outputItem (talking : Bool) (o : Output) : List Byte :=
  sourceBytes o.source ++ numByte o.patchedBy ++ numByte o.fallbackChannel ++ signedBytes 2 o.fallbackLevel ++
    [byte o.fallbackDelay] ++ flagByte o.listen ++ dimBytes o.dim ++ [byte o.state.code] ++ msBytes o.remainingMs ++
    bytesOrNone 2 0xFFFF (o.crossfade.map Crossfade.steps) ++
    streamBytes ((o.crossfade.map Crossfade.old).getD .silence) ++
    streamBytes ((o.crossfade.map Crossfade.new).getD .silence) ++
    bytesOf 3 o.dimCoefficient ++ bytesOf 3 (o.dimTarget talking)

/-- READ OUTPUTS (R138). -/
def serveReadOutputs (m : Message) (s : State) : Served :=
  match rangeOf 32 (u8 m.body 0) (u8 m.body 1) with
  | none => refuse .range s
  | some outs =>
      if 2 < outs.length then refuse .range s
      else
        { state := s, status := .done, steps := outs.length,
          result := outs.flatMap (fun n => outputItem (liveTalker s).isSome (s.output n)) ++ numByte (liveTalker s) }

def execReadOutputs (p : Port) (s : State) : Host.Outcome State Fault Refusal :=
  .next (whenRunning (serve p kindReadOutputs serveReadOutputs) s)

/-! ### Defaults after a hub reset (R139) -/

/-- The defaults of an output record, its working items as they stand (R127). -/
def Output.withDefaults (n : OutNo) (o : Output) : Output :=
  { Output.reset n with state := o.state, timer := o.timer, crossfade := o.crossfade, dimCoefficient := o.dimCoefficient,
                        dimRamp := o.dimRamp }

/-- One output at a hub reset: the defaults, then its state by its source (steps 1 and 2), the test of its delay, and
its dim (step 3). No report is posted (R139). -/
def Output.hubReset (s : State) (n : OutNo) (o : Output) : Output :=
  let src := (Output.reset n).source
  let st := if o.source = src then (o.state, o.timer) else patchedState s src
  let o := o.become fun o => { o.withDefaults n with state := st.1, timer := st.2 }
  let o := if o.delayDue then o.expire else o
  o.redim (liveTalker s).isSome

/-- The outputs at a hub reset (R139). -/
def resetOutputs (s : State) : State := { s with outputs := s.outputs.eachIdx (Output.hubReset s) }

end Sys2Proof.Machine
end

