-- ==== Sys2Proof/Machine/TalkUnit.lean ====
section
/-! DEFINITION. The talk controller: the talk claim list, the live limit, removal, stage talk (chapter 9), with
TALK_ON, TALK_OFF, READ_TALK, TALK_TIMED_OUT and STAGE_TALK_TAKEN. -/

namespace Sys2Proof.Machine

/-! ### The list (R141) -/

/-- A port's place in the talk priority order. -/
def rank (order : List Port) (p : Port) : Nat := order.idxOf p

/-- A claim inserted at its priority position (R141). -/
def insertClaim (order : List Port) (c : Claim) : List Claim → List Claim
  | [] => [c]
  | d :: ds => if rank order c.port < rank order d.port then c :: d :: ds else d :: insertClaim order c ds

/-- The list sorted by a priority order (R146). -/
def sortClaims (order : List Port) (cs : List Claim) : List Claim := cs.foldr (insertClaim order) []

/-- A port's claim, where it holds one. -/
def claimOf (p : Port) (s : State) : Option Claim := s.talk.claims.find? fun c => c.port = p

/-- The position of a port's claim in the list, counting from 1. -/
def claimPosition (p : Port) (s : State) : Nat := (s.talk.claims.findIdx fun c => c.port = p) + 1

/-- TALK STATE as the list stands (R150). -/
def postTalk (why : TalkReason) (s : State) : State := post (.talkState s.talk.claims (liveTalker s) why) s

/-- The dim targets follow a live talker that has appeared or disappeared (R133). -/
def followTalker (before : Option Port) (s : State) : State :=
  if before.isSome = (liveTalker s).isSome then s else redimAll s

/-- Whether the claim at the head meets the live limit (R144). -/
def headDue (s : State) : Bool :=
  match s.talk.claims with
  | c :: _ => s.settings.liveTarget ≤ c.live
  | [] => false

/-- The expiry of the claim at the head: it is removed, TALK TIMED OUT goes to its port, and TALK STATE is posted (R144). -/
def expireHead (s : State) : State :=
  match s.talk.claims with
  | c :: rest =>
      s |> modTalk (fun t => { t with claims := rest })
        |> postTo c.port (.talkTimedOut c.live s.settings.liveLimit)
        |> postTalk .timedOut
  | [] => s

/-- The head tested against the live limit, and each next head in turn (R141, step 1). The list holds at most three
claims. -/
def settleHead : Nat → State → State
  | 0, s => s
  | n + 1, s => if headDue s then settleHead n (expireHead s) else s

/-- The test of the head made when the live limit or the head has changed, with the dim targets following (R141, R144). -/
def testHead (s : State) : State := followTalker (liveTalker s) (settleHead 3 s)

/-- TALK_TIMED_OUT (R144): the head's live time meets the target. -/
def execTalkTimedOut (s : State) : Host.Outcome State Fault Refusal := .next (whenRunning testHead s)

/-- After the list changed from one whose live talker was `before`: the dim targets follow, and a new head is tested
(R141). -/
def headChanged (before : Option Port) (s : State) : State :=
  let t := followTalker before s
  if before = liveTalker s then t else testHead t

/-! ### Requests (R142, R143, R151) -/

/-- TALK PREEMPTED to the port of the old head, when another claim has taken the head from it (R141). -/
def preempted (before : Option Port) (s : State) : State :=
  match before with
  | none => s
  | some q =>
      if liveTalker s = some q then s
      else
        match claimOf q s with
        | some c => postTo q (.talkPreempted (claimPosition q s) c.live (liveTalker s)) s
        | none => s

/-- A port's claim inserted with live time 0 (R142). -/
def insertTalk (p : Port) (s : State) : State :=
  s |> modTalk (fun t => { t with claims := insertClaim s.settings.priority { port := p, live := 0 } t.claims })
    |> postTalk .inserted
    |> preempted (liveTalker s)
    |> headChanged (liveTalker s)

/-- The result fields of TALK ON: the claim's position, its live time and the live talker (R142). That a position in the talk
claim list takes one byte is the model's (DESIGN CHOICE, Assumption 55). -/
def talkOnFields (p : Port) (s : State) : List Byte :=
  byte (claimPosition p s) :: bytesOf 3 ((claimOf p s).elim 0 Claim.live) ++ numByte (liveTalker s)

/-- TALK ON (R142). -/
def serveTalkOn (p : Port) (_ : Message) (s : State) : Served :=
  let t := if (claimOf p s).isSome then s else insertTalk p s
  taken .done (talkOnFields p t) t

def execTalkOn (p : Port) (s : State) : Host.Outcome State Fault Refusal :=
  .next (whenRunning (serve p kindTalkOn (serveTalkOn p)) s)

/-- A port's claim removed, where it holds one (R143, R145). -/
def removeClaim (p : Port) (why : TalkReason) (s : State) : State :=
  if (claimOf p s).isSome then
    s |> modTalk (fun t => { t with claims := t.claims.filter fun c => c.port ≠ p })
      |> postTalk why
      |> headChanged (liveTalker s)
  else s

/-- TALK OFF (R143): the result is claim removed with its live time, or no claim. -/
def serveTalkOff (p : Port) (_ : Message) (s : State) : Served :=
  let c := claimOf p s
  taken .done (flagByte c.isSome ++ framesBytes (c.map Claim.live)) (removeClaim p .released s)

def execTalkOff (p : Port) (s : State) : Host.Outcome State Fault Refusal :=
  .next (whenRunning (takeImmediate p kindTalkOff (serveTalkOff p)) s)

/-- READ TALK (R151). The live time remaining of a claim whose live time exceeds a shortened limit is sent as 0 (DESIGN
CHOICE, Assumption 41), and the taken level of the button as a flag, 0 released and 1 pressed (DESIGN CHOICE, Assumption
47). -/
def serveReadTalk (_ : Message) (s : State) : Served :=
  let claims := byte s.talk.claims.length :: s.talk.claims.flatMap fun c =>
    byte (num c.port) :: bytesOf 3 c.live ++ bytesOf 3 (s.settings.liveTarget - c.live)
  taken .done (claims ++ numByte (liveTalker s) ++
    (List.range 3).map (fun i => byte ((s.settings.priority.map num).getD i 0)) ++ [byte s.settings.liveLimit] ++
    flagByte s.talk.taken ++ bytesOf 3 s.talk.steady ++ flagByte s.talk.active ++ numByte s.settings.stageChannel) s

def execReadTalk (p : Port) (s : State) : Host.Outcome State Fault Refusal :=
  .next (whenRunning (serve p kindReadTalk serveReadTalk) s)

/-! ### Priority changes and the hub reset (R145, R146) -/

/-- A changed priority order re-sorts the list (R146). TALK PREEMPTED tells the old head how the re-sorted list stands, before
the new head is tested against the live limit and perhaps removed; the manual gives the two no order (DESIGN CHOICE, Assumption
50). -/
def resortTalk (s : State) : State :=
  let t := modTalk (fun t => { t with claims := sortClaims s.settings.priority t.claims }) s
  if t.talk.claims = s.talk.claims then s
  else t |> postTalk .reordered |> preempted (liveTalker s) |> headChanged (liveTalker s)

/-- The list emptied by a hub reset, with no report (R145). -/
def emptyTalk (s : State) : State := followTalker (liveTalker s) (modTalk (fun t => { t with claims := [] }) s)

/-! ### Stage talk (R147, R148) -/

/-- Stage talk recomputed: active while the taken level is pressed and a channel is set (R148). -/
def recomputeStage (s : State) : State :=
  let now := s.talk.taken && s.settings.stageChannel.isSome
  if s.talk.active = now then s
  else s |> modTalk (fun t => { t with active := now }) |> post (.stageTalk now s.talk.taken s.settings.stageChannel)

/-- The button sampled at the end of a frame period: the steady count (R147). -/
def Talk.sampleButton (pressed : Bool) (t : Talk) : Talk :=
  if pressed = t.taken then { t with steady := 0 } else { t with steady := satSucc Config.steadyTarget t.steady }

/-- STAGE_TALK_TAKEN (R147, R148): the steady count has reached 960, and the sampled level is taken. -/
def stageTaken (s : State) : State :=
  if Config.steadyTarget ≤ s.talk.steady then
    recomputeStage (modTalk (fun t => { t with taken := !t.taken, steady := 0 }) s)
  else s

def execStageTalkTaken (s : State) : Host.Outcome State Fault Refusal := .next (whenRunning stageTaken s)

end Sys2Proof.Machine
end

