-- ==== Sys2Proof/Machine/Ports.lean ====
section
/-! DEFINITION. The port controller: port states, leaving and returning to ATTACHED, entering VACANT (chapter 2), with
ATTACH, DETACH, READ_PORT and HOLD_EXPIRED; and how a pending proposal ends (R152, R157). -/

namespace Sys2Proof.Machine

/-! ### The end of a proposal, and departures from it (R152, R157) -/

/-- A pending proposal becomes none, and the last outcome records its end (R152). -/
def endProposal (pr : Proposal) (e : Ending) (s : State) : State :=
  modConsent (fun c =>
    { c with proposal := none,
             lastOutcome := some { number := pr.number, action := pr.action, proposer := pr.proposer, ending := e } }) s

/-- A pending proposal withdrawn, with its report (R157). -/
def withdrawProposal (pr : Proposal) (why : Cause) (s : State) : State :=
  s |> endProposal pr .withdrawn
    |> post (.consentEnded pr.number pr.action pr.proposer .withdrawn none (some why))

/-- A port departs from the pending proposal: its own is withdrawn, and as a voter it is removed (R157). -/
def departConsent (p : Port) (s : State) : State :=
  match s.consent.proposal with
  | none => s
  | some pr =>
      if pr.proposer = p then withdrawProposal pr .departure s
      else modConsent (fun c => { c with proposal := some { pr with voters := pr.voters.put p false } }) s

/-! ### Leaving and returning to ATTACHED (R34, R35) -/

/-- The effects of a port leaving ATTACHED on talk, consent and the outputs (R34). -/
def leaveAttached (p : Port) (s : State) : State := s |> removeClaim p .departed |> departConsent p |> outputsLeft p

/-- The last UP lane of an ATTACHED port leaves UP (R27). -/
def isolate (p : Port) (s : State) : State :=
  s |> modRecord p (fun r => { r with state := .isolated, lossHold := some 0 }) |> leaveAttached p |> postPort p .isolated

/-- A lane of an ISOLATED port reaches UP (R28). -/
def rejoin (p : Port) (s : State) : State :=
  s |> modRecord p (fun r => { r with state := .attached, lossHold := none }) |> outputsReturned p |> postPort p .rejoined

/-- The effects of an entry to VACANT on the port's own state (R30). -/
def vacate (p : Port) (s : State) : State :=
  s |> modRecord p (fun r => { r with state := .vacant, serial := none, name := [], lossHold := none })
    |> modControl p Control.vacated

/-- An entry to VACANT, with its report to the other ports (R30). -/
def enterVacant (p : Port) (why : PortReason) (s : State) : State := s |> vacate p |> postPort p why

/-- The port controller told that a lane entered or left UP, given whether a lane was UP before: only the moves between
no lane and at least one change the port state (2.2, R26 to R28). -/
def lanesChanged (p : Port) (wasUp : Bool) (s : State) : State :=
  let isUp := (s.port p).lanes.anyUp
  if wasUp = isUp then s
  else
    match s.portState p, isUp with
    | .vacant, true => s |> modRecord p (fun r => { r with state := .linked }) |> postPort p .laneUp
    | .isolated, true => rejoin p s
    | .linked, false => enterVacant p .linkLost s
    | .attached, false => isolate p s
    | _, _ => s

/-! ### The loss hold (R29) -/

/-- Whether a running loss-hold timer meets its target (R29). -/
def holdDue (p : Port) (s : State) : Bool :=
  match (s.port p).record.lossHold with
  | some e => decide (s.portState p = .isolated) && decide (s.settings.lossHoldTarget ≤ e)
  | none => false

/-- HOLD_EXPIRED (R29): the ISOLATED port enters VACANT. -/
def expireHold (p : Port) (s : State) : State := if holdDue p s then enterVacant p .holdExpired s else s

def execHoldExpired (p : Port) (s : State) : Host.Outcome State Fault Refusal := .next (whenRunning (expireHold p) s)

/-! ### ATTACH and DETACH (R31 to R33) -/

/-- ATTACH served in LINKED (R31). -/
def attachLinked (p : Port) (serial : Nat) (name : List Byte) (s : State) : Served :=
  let fresh := (s.port p).record.lastSerial ≠ some serial
  let t := modRecord p (fun r => { r with state := .attached, serial := some serial, name := name, lastSerial := some serial }) s
  let t := if fresh then resetRecords p t else t
  taken .done (flagByte fresh) (t |> outputsReturned p |> postPort p .attached)

/-- ATTACH with the serial recorded (R32). -/
def attachSame (p : Port) (name : List Byte) (s : State) : Served :=
  taken .done (flagByte false)
    (if (s.port p).record.name = name then s
     else s |> modRecord p (fun r => { r with name := name }) |> postPort p .nameChanged)

/-- ATTACH with a different serial in ATTACHED or ISOLATED: an identity change (R32). -/
def changeIdentity (p : Port) (serial : Nat) (name : List Byte) (s : State) : Served :=
  taken .done (flagByte true)
    (s |> removeClaim p .departed
       |> departConsent p
       |> resetRecords p
       |> modRecord p (fun r => { r with serial := some serial, name := name, lastSerial := some serial })
       |> postPort p .identityChanged)

/-- ATTACH (R31, R32). -/
def serveAttach (p : Port) (m : Message) (s : State) : Served :=
  let serial := u32 m.body 0
  let name := m.body.drop 5
  if serial = 0 ∨ 16 < u8 m.body 4 then refuse .range s
  else if s.portState p = .linked then attachLinked p serial name s
  else if (s.port p).record.serial = some serial then attachSame p name s
  else changeIdentity p serial name s

def execAttach (p : Port) (s : State) : Host.Outcome State Fault Refusal :=
  .next (whenRunning (serve p kindAttach (serveAttach p)) s)

/-- DETACH (R33): to LINKED from ATTACHED, to VACANT from ISOLATED. -/
def serveDetach (p : Port) (_ : Message) (s : State) : Served :=
  taken .done []
    (if s.portState p = .isolated then enterVacant p .detached s
     else
       s |> modRecord p (fun r => { r with state := .linked, serial := none, name := [] })
         |> leaveAttached p
         |> postPort p .detached)

def execDetach (p : Port) (s : State) : Host.Outcome State Fault Refusal :=
  .next (whenRunning (serve p kindDetach (serveDetach p)) s)

/-! ### READ PORT (R38) -/

/-- The loss hold remaining in ms, rounded up, while ISOLATED (R38). -/
def holdRemaining (u : PortUnit) (h : Settings) : Option Nat :=
  match u.record.state, u.record.lossHold with
  | .isolated, some e => some (msRoundedUp (h.lossHoldTarget - e))
  | _, _ => none

/-- READ PORT (R38). P goes as one byte (DESIGN CHOICE, Assumption 58). -/
def serveReadPort (m : Message) (s : State) : Served :=
  match portOf (u8 m.body 0) with
  | none => refuse .range s
  | some q =>
      let u := s.port q
      taken .done
        ([byte u.record.state.code] ++ bytesOrNone 4 0 u.record.serial ++ nameBytes u.record.name ++
          bytesOrNone 4 0 u.record.lastSerial ++ msBytes (holdRemaining u s.settings) ++
          [byte u.merge.offset, byte (preferredCode u.merge.preferred), byte (laneCode u.merge.active),
           byte u.lanes.a.state.code, byte u.lanes.b.state.code]) s

def execReadPort (p : Port) (s : State) : Host.Outcome State Fault Refusal :=
  .next (whenRunning (serve p kindReadPort serveReadPort) s)

end Sys2Proof.Machine
end

