-- ==== Sys2Proof/Machine/LaneUnit.lean ====
section
/-! DEFINITION. The lane units and what the merge buffer and the port controller do when a lane changes (chapter 1),
with LIGHT_LOST, LIGHT_RETURNED, UPSTREAM_FRAME, BAD_SYNC, ACQUIRED, SYNC_LOST, QUALIFIED, LANE_DROP, READ_LANES,
CLEAR_LANE_COUNTERS, SET_PORT and PLAYOUT_MUTE_END; and the clock unit (R23). -/

namespace Sys2Proof.Machine

/-! ### The active lane and the reports of a lane event (R13, R19) -/

/-- The active lane after an event on lane `n` that took the lanes from `before` to `after` (R19). -/
def activeAfter (before after : Lanes) (m : Merge) (n : LaneName) : LaneName :=
  if before.isUp n ∧ ¬ after.isUp n ∧ m.active = n ∧ after.isUp n.other then n.other
  else if ¬ before.isUp n ∧ after.isUp n ∧ m.active ≠ n ∧ (¬ after.isUp m.active ∨ m.preferred = some n) then n
  else m.active

/-- A lane's state changes: the active lane follows (R19), LANE STATE is posted for the lane and, if the other lane
becomes active as a result, for that one too (R13), and the port controller is told (2.2). -/
def laneEvent (p : Port) (n : LaneName) (why : LaneReason) (f : Lane → Lane) (s : State) : State :=
  let before := s.port p
  let t := modLane p n f s
  let active := activeAfter before.lanes (t.port p).lanes before.merge n
  let t := t |> modMerge p (fun m => { m with active := active }) |> postLane p n why
  let t := if active ≠ before.merge.active ∧ active ≠ n then postLane p active .active t else t
  lanesChanged p before.lanes.anyUp t

/-! ### Light (R5) -/

/-- A lane enters DARK (R5). -/
def Lane.darken (l : Lane) : Lane :=
  { l with state := .dark, acquisition := 0, qualify := 0, badSyncs := 0, misses := 0, overBudget := false,
           reference := none, lastLag := none, synced := false, fourth := none,
           drops := if l.state = .up then satSucc 255 l.drops else l.drops }

/-- A lane enters SEEKING with its acquisition count at 0 (R5, R9, R11). -/
def Lane.seek (l : Lane) : Lane :=
  { l with state := .seeking, acquisition := 0, qualify := 0, overBudget := false, reference := none, synced := false,
           fourth := none }

/-- LIGHT_LOST (R5): the pin reads loss; a lane not DARK enters DARK. -/
def lightLost (p : Port) (n : LaneName) (s : State) : State :=
  if (s.lane p n).state = .dark then s else laneEvent p n .lightLost Lane.darken s

/-- The loss-of-light pin of a lane, which stands whatever the hub does (R167). -/
def setLossPin (p : Port) (n : LaneName) (loss : Bool) (s : State) : State :=
  modLane p n (fun l => { l with lossOfLight := loss }) s

def execLightLost (p : Port) (n : LaneName) (s : State) : Host.Outcome State Fault Refusal :=
  .next (whenRunning (lightLost p n) (setLossPin p n true s))

/-- LIGHT_RETURNED (R5): the pin no longer reads loss; a DARK lane enters SEEKING. -/
def lightReturned (p : Port) (n : LaneName) (s : State) : State :=
  if (s.lane p n).state = .dark then laneEvent p n .lightReturned Lane.seek s else s

def execLightReturned (p : Port) (n : LaneName) (s : State) : Host.Outcome State Fault Refusal :=
  .next (whenRunning (lightReturned p n) (setLossPin p n false s))

/-! ### Upstream frames (R3, R4, R6 to R8, R15) -/

/-- The hub frame in which an upstream frame that is taken now arrives, as lags are judged: once this frame period's playouts
are made, the next one. The manual leaves no time between the end of a frame period and the start of the next (R2, R16);
that a frame taken between PLAYOUT n and DOWNSTREAM_FRAME n+1 arrives in hub frame n+1 is the model's choice (DESIGN CHOICE,
Assumption 37). -/
def frameNow (s : State) : Nat := if s.played then s.hubFrame + 1 else s.hubFrame

/-- The lag of a frame that echoes `echo`, arriving in hub frame `n` (R4). -/
def lagOf (n echo : Nat) : Nat := (n % Config.seqMod + Config.seqMod - echo % Config.seqMod) % Config.seqMod

/-- An entry with a lane's copy stored; what it holds of another sequence number is no longer there (R15). -/
def Entry.store (n : LaneName) (c : Copy) (e : Entry) : Entry :=
  let e := if e.seq = some c.echo then e else { seq := some c.echo, a := none, b := none }
  match n with
  | .A => { e with a := some c }
  | .B => { e with b := some c }

/-- A copy stored in the entry of its sequence number (R15). -/
def storeCopy (p : Port) (n : LaneName) (c : Copy) (s : State) : State :=
  modMerge p (fun m => { m with entries := m.entries.modify (Fin.ofNat 8 c.echo) (Entry.store n c) }) s

/-- A bad check (R3, R6, R7): the error count rises, and the counts of SEEKING and QUALIFYING become 0. The run of bad-sync
results ends in UP too, so that a lane that returns to QUALIFYING counts none from before it (R9, R21). -/
def Lane.badCheck (l : Lane) : Lane :=
  let l := { l with errors := satSucc 65535 l.errors, synced := true }
  match l.state with
  | .seeking => { l with acquisition := 0, fourth := none }
  | .qualifying => { l with qualify := 0, badSyncs := 0 }
  | .up => { l with badSyncs := 0 }
  | .dark => l

/-- A good frame in SEEKING: its lag is measured, the acquisition count rises, and the fourth in a row waits for the
ACQUIRED step (R6). A further good frame that arrives before that step takes the fourth's place, so that its sequence number
becomes the reference and its copy the first (DESIGN CHOICE, Assumption 57). -/
def Lane.seekGood (lag : Nat) (c : Copy) (l : Lane) : Lane :=
  let k := satSucc Config.acquireTarget l.acquisition
  { l with synced := true, lastLag := some lag, acquisition := k,
           fourth := if Config.acquireTarget ≤ k then some c else none }

/-- A good frame in QUALIFYING whose lag is within P (R7). -/
def Lane.qualifyGood (lag echo : Nat) (l : Lane) : Lane :=
  let follows := match l.reference with
    | some r => decide (echo = (r + 1) % Config.seqMod)
    | none => false
  { l with synced := true, lastLag := some lag, badSyncs := 0, overBudget := false, reference := some echo,
           qualify := if follows then l.qualify + 1 else 0 }

/-- A good frame in QUALIFYING whose lag is over P (R8). -/
def Lane.qualifyLate (lag echo : Nat) (l : Lane) : Lane :=
  { l with synced := true, lastLag := some lag, badSyncs := 0, overBudget := true, reference := some echo, qualify := 0 }

/-- A good frame in UP: its lag is measured, and it ends any run of bad-sync results (R4, R7, R9). The reference sequence
number stays the last of QUALIFYING, so that a lane that R21 returns to QUALIFYING has its first good frame compared with that
one: R7 moves the reference in QUALIFYING and is silent on UP (DESIGN CHOICE, Assumption 48). -/
def Lane.upGood (lag : Nat) (l : Lane) : Lane := { l with synced := true, lastLag := some lag, badSyncs := 0 }

/-- A good frame arriving on a lane (R4, R6 to R8, R15), with its lag in the hub frame of its arrival (`frameNow`, the
model's choice between PLAYOUT and DOWNSTREAM_FRAME, Assumption 37). -/
def goodFrame (p : Port) (n : LaneName) (c : Copy) (s : State) : State :=
  let lag := lagOf (frameNow s) c.echo
  let inTime := lag ≤ (s.port p).merge.offset
  match (s.lane p n).state with
  | .dark => s
  | .seeking => modLane p n (Lane.seekGood lag c) s
  | .qualifying =>
      if inTime then s |> modLane p n (Lane.qualifyGood lag c.echo) |> storeCopy p n c
      else
        let t := modLane p n (Lane.qualifyLate lag c.echo) s
        if (s.lane p n).overBudget then t else postLane p n .overBudget t
  | .up =>
      let t := modLane p n (Lane.upGood lag) s
      if inTime then storeCopy p n c t else t

/-- A bad-sync result (R3, R6, R7, R9). -/
def Lane.badSync (l : Lane) : Lane :=
  match l.state with
  | .seeking => { l with acquisition := 0, synced := false, fourth := none }
  | .qualifying => { l with badSyncs := satSucc Config.badSyncTarget l.badSyncs }
  | .up | .dark => l

/-- BAD_SYNC (R3): a lane has an expected frame position only once it has found a sync pattern. -/
def badSync (p : Port) (n : LaneName) (s : State) : State :=
  modLane p n (fun l => if l.synced then l.badSync else l) s

def execBadSync (p : Port) (n : LaneName) (s : State) : Host.Outcome State Fault Refusal :=
  .next (whenRunning (badSync p n) s)

/-- UPSTREAM_FRAME (R3): bad check or good frame; without the sync pattern it is a bad-sync result. A DARK lane
discards what it receives. -/
def upstreamFrame (p : Port) (n : LaneName) (b : UpBytes) (s : State) : State :=
  if (s.lane p n).state = .dark then s
  else if ¬ upSync b then badSync p n s
  else if upCheckGood b then goodFrame p n (upCopy b) s
  else modLane p n Lane.badCheck s

def execUpstreamFrame (p : Port) (n : LaneName) (b : UpBytes) (s : State) : Host.Outcome State Fault Refusal :=
  .next (whenRunning (upstreamFrame p n b) s)

/-! ### Acquiring, losing sync, qualifying, dropping (R6, R9 to R11) -/

/-- The lane as it enters QUALIFYING with its fourth good frame, of this lag and sequence number, over budget or not
(R6, R8). -/
def Lane.acquire (echo : Nat) (late : Bool) (l : Lane) : Lane :=
  { l with state := .qualifying, qualify := 0, overBudget := late, badSyncs := 0, reference := some echo, fourth := none }

/-- ACQUIRED (R6): the fourth good frame in a row is the first frame of QUALIFYING. Its copy is stored when its lag is P
or less; otherwise the lane is over budget by R8, which posts its own report. -/
def acquired (p : Port) (n : LaneName) (s : State) : State :=
  let l := s.lane p n
  match l.fourth with
  | none => s
  | some c =>
      if l.state = .seeking ∧ Config.acquireTarget ≤ l.acquisition then
        let late := decide ((s.port p).merge.offset < l.lastLag.getD 0)
        let t := laneEvent p n .acquired (Lane.acquire c.echo late) s
        if late then postLane p n .overBudget t else storeCopy p n c t
      else s

def execAcquired (p : Port) (n : LaneName) (s : State) : Host.Outcome State Fault Refusal :=
  .next (whenRunning (acquired p n) s)

/-- SYNC_LOST (R9): 4 bad-sync results in a row in QUALIFYING. -/
def syncLost (p : Port) (n : LaneName) (s : State) : State :=
  if (s.lane p n).state = .qualifying ∧ Config.badSyncTarget ≤ (s.lane p n).badSyncs then
    laneEvent p n .syncLost Lane.seek s
  else s

def execSyncLost (p : Port) (n : LaneName) (s : State) : Host.Outcome State Fault Refusal :=
  .next (whenRunning (syncLost p n) s)

/-- A lane enters UP: the consecutive-miss count is 0 and the over-budget mark is clear (R8, R10). -/
def Lane.raise (l : Lane) : Lane := { l with state := .up, misses := 0, overBudget := false }

/-- QUALIFIED (R10): a QUALIFYING lane whose qualify count meets the target enters UP. -/
def qualify (p : Port) (n : LaneName) (s : State) : State :=
  if (s.lane p n).state = .qualifying ∧ s.settings.qualifyTarget ≤ (s.lane p n).qualify then
    laneEvent p n .qualified Lane.raise s
  else s

def execQualified (p : Port) (n : LaneName) (s : State) : Host.Outcome State Fault Refusal :=
  .next (whenRunning (qualify p n) s)

/-- LANE_DROP (R11): the third miss in a row. -/
def dropLane (p : Port) (n : LaneName) (s : State) : State :=
  if (s.lane p n).state = .up ∧ Config.missTarget ≤ (s.lane p n).misses then
    laneEvent p n .dropped (fun l => { l.seek with drops := satSucc 255 l.drops }) s
  else s

def execLaneDrop (p : Port) (n : LaneName) (s : State) : Host.Outcome State Fault Refusal :=
  .next (whenRunning (dropLane p n) s)

/-! ### READ LANES and CLEAR LANE COUNTERS (R12) -/

def laneBytes (l : Lane) : List Byte :=
  [byte l.state.code] ++ flagByte l.overBudget ++ framesBytes l.lastLag ++ bytesOf 3 l.qualify ++ [byte l.misses] ++
    bytesOf 2 l.errors ++ [byte l.drops]

/-- READ LANES (R12). P goes as one byte and the qualify count as three (DESIGN CHOICE, Assumption 58). -/
def serveReadLanes (m : Message) (s : State) : Served :=
  match portOf (u8 m.body 0) with
  | none => refuse .range s
  | some q =>
      let u := s.port q
      taken .done
        ([byte u.merge.offset, byte (preferredCode u.merge.preferred), byte (laneCode u.merge.active)] ++
          laneBytes u.lanes.a ++ laneBytes u.lanes.b) s

def execReadLanes (p : Port) (s : State) : Host.Outcome State Fault Refusal :=
  .next (whenRunning (serve p kindReadLanes serveReadLanes) s)

/-- The lanes a lane code of CLEAR LANE COUNTERS names (R169). -/
def lanesNamed : Nat → Option (List LaneName)
  | 1 => some [.A]
  | 2 => some [.B]
  | 3 => some [.A, .B]
  | _ => none

/-- CLEAR LANE COUNTERS (R12). -/
def serveClearCounters (m : Message) (s : State) : Served :=
  match portOf (u8 m.body 0), lanesNamed (u8 m.body 1) with
  | some q, some ns => taken .done [] (forEach (fun n => modLane q n fun l => { l with errors := 0, drops := 0 }) ns s)
  | _, _ => refuse .range s

def execClearLaneCounters (p : Port) (s : State) : Host.Outcome State Fault Refusal :=
  .next (whenRunning (serve p kindClearLaneCounters serveClearCounters) s)

/-! ### SET PORT (R20, R21) -/

/-- The preferred lane a code names: none where the code is unknown (R169). -/
def preferredOf : Nat → Option (Option LaneName)
  | 0 => some none
  | 1 => some (some .A)
  | 2 => some (some .B)
  | _ => none

/-- The preferred lane set; if it is UP and not active it becomes active, with its report (R19, R20). -/
def setPreferred (q : Port) (pref : Option LaneName) (s : State) : State :=
  let t := modMerge q (fun m => { m with preferred := pref }) s
  match pref with
  | none => t
  | some n =>
      if (t.port q).lanes.isUp n ∧ (t.port q).merge.active ≠ n then
        t |> modMerge q (fun m => { m with active := n }) |> postLane q n .active
      else t

/-- The offset takes its new value, and the mute waits for the first playout under it (R21, step 2), which also moves the
read position (R21, step 1; `skipPort` and `endPort` in Playout.lean). A mute still running from an earlier change runs on
until then. That copies which arrive between the service of SET PORT and the first playout are judged against P′ already is
the model's choice (DESIGN CHOICE, Assumption 38). -/
def Merge.reoffset (offset : Nat) (m : Merge) : Merge := { m with offset := offset, muteDue := true }

/-- Whether a change to the offset `offset` makes a lane late: UP or QUALIFYING with a last lag above it (R21, step 3). -/
def Lane.lateUnder (offset : Nat) (l : Lane) : Bool :=
  (decide (l.state = .up) || decide (l.state = .qualifying)) &&
    match l.lastLag with
    | some g => decide (offset < g)
    | none => false

/-- A late lane returns to QUALIFYING (R21, step 3). One that was UP has the reference it left QUALIFYING with (DESIGN CHOICE,
Assumption 48). -/
def Lane.requalify (offset : Nat) (l : Lane) : Lane :=
  if l.lateUnder offset then { l with state := .qualifying, qualify := 0, overBudget := true } else l

/-- The lanes of a port after a change of its offset: the late ones return to QUALIFYING together, then R19 applies,
the reports are posted and the port controller is told (R21, step 3; the order is DEDUCED, Assumption 14). Step 3 is taken
as it stands on a raise of P too, where an UP lane whose last lag exceeds even P′ returns, although R21 goes on to say that a
raise never sends a lane back (DESIGN CHOICE, Assumption 39). -/
def requalifyLanes (q : Port) (offset : Nat) (s : State) : State :=
  let before := s.port q
  let after : Lanes := { a := before.lanes.a.requalify offset, b := before.lanes.b.requalify offset }
  let old := before.merge.active
  let active := if before.lanes.isUp old ∧ ¬ after.isUp old ∧ after.isUp old.other then old.other else old
  let t := modPort q (fun u => { u with lanes := after, merge := { u.merge with active := active } }) s
  let t := forEach (fun n t => if (before.lanes.get n).lateUnder offset then postLane q n .overBudget t else t) [.A, .B] t
  let t := if active = old then t else postLane q active .active t
  lanesChanged q before.lanes.anyUp t

/-- A new playout offset, different from the one in force (R21). -/
def setOffset (q : Port) (offset : Nat) (s : State) : State :=
  s |> modMerge q (Merge.reoffset offset) |> requalifyLanes q offset

/-- SET PORT (R20). -/
def serveSetPort (m : Message) (s : State) : Served :=
  let presence := u8 m.body 1
  match portOf (u8 m.body 0), (whenSet presence 1 (preferredOf (u8 m.body 3))).getD (some none) with
  | some q, some pref =>
      let x := u8 m.body 2
      let offset := clampNat 1 7 x
      let withOffset := decide (presence % 2 = 1)
      let old := (s.port q).merge
      let t := if (whenSet presence 1 ()).isSome then setPreferred q pref s else s
      let t := if withOffset ∧ offset ≠ old.offset then setOffset q offset t else t
      let new := (t.port q).merge
      let t := if new.offset = old.offset ∧ new.preferred = old.preferred then t else postPort q .setting t
      taken (if withOffset ∧ offset ≠ x then .clamped else .done) [] t
  | _, _ => refuse .range s

def execSetPort (p : Port) (s : State) : Host.Outcome State Fault Refusal :=
  .next (whenRunning (serve p kindSetPort serveSetPort) s)

/-- PLAYOUT_MUTE_END (R21): the 32 frame periods of the mute have run out. -/
def Merge.endMute (m : Merge) : Merge := if m.mute = some 0 then { m with mute := none } else m

def execPlayoutMuteEnd (p : Port) (s : State) : Host.Outcome State Fault Refusal :=
  .next (whenRunning (modMerge p Merge.endMute) s)

/-! ### The clock unit (R23) -/

/-- A word-clock period arrives (R23). -/
def Clock.edge (c : Clock) : Clock :=
  match c.state with
  | .internal => c
  | .holdover => { c with requalify := satSucc Config.requalifyTarget c.requalify }
  | .locked => { c with missing := 0 }

def execWordclockEdge (s : State) : Host.Outcome State Fault Refusal :=
  .next (whenRunning (fun s => { s with clock := s.clock.edge }) s)

/-- A word-clock period is missing (R23). -/
def Clock.miss (c : Clock) : Clock :=
  match c.state with
  | .internal => c
  | .holdover => { c with requalify := 0 }
  | .locked => { c with missing := satSucc Config.clockMissTarget c.missing }

def execWordclockMissing (s : State) : Host.Outcome State Fault Refusal :=
  .next (whenRunning (fun s => { s with clock := s.clock.miss }) s)

/-- CLOCK_LOCKED (R23): the requalify count reaches 48,000 in HOLDOVER. -/
def lockClock (s : State) : State :=
  if s.clock.state = .holdover ∧ Config.requalifyTarget ≤ s.clock.requalify then
    postClock { s with clock := { s.clock with state := .locked, missing := 0 } }
  else s

def execClockLocked (s : State) : Host.Outcome State Fault Refusal := .next (whenRunning lockClock s)

/-- CLOCK_HOLDOVER (R23): 4 word-clock periods in a row are missing in LOCKED. -/
def holdoverClock (s : State) : State :=
  if s.clock.state = .locked ∧ Config.clockMissTarget ≤ s.clock.missing then
    postClock { s with clock := { s.clock with state := .holdover, requalify := 0 } }
  else s

def execClockHoldover (s : State) : Host.Outcome State Fault Refusal := .next (whenRunning holdoverClock s)

/-- The clock follows a change of the clock source, with its report (R23, R55). -/
def sourceChanged (s : State) : State :=
  match s.settings.source with
  | .internal => postClock { s with clock := { s.clock with state := .internal } }
  | .wordclock => postClock { s with clock := { s.clock with state := .holdover, requalify := 0 } }

end Sys2Proof.Machine
end

