-- ==== Sys2Proof/Machine/PhantomUnit.lean ====
section
/-! DEFINITION. The phantom sequencer: phantom states, the start queue, the transition timer, what the cards report,
the supply guard (chapter 6), with SET_PHANTOM, RAMPED, SETTLED and DISCHARGED. -/

namespace Sys2Proof.Machine

/-- The commanded phantom: on in RAMP_UP, SETTLE_UP and ON (R69). -/
def PhantomState.commanded : PhantomState → Bool
  | .rampUp => true
  | .settleUp => true
  | .on => true
  | .off => false
  | .queued => false
  | .rampDown => false

/-- Whether a channel in this state is in transition, and so delivered as silence (R110). -/
def PhantomState.inTransition : PhantomState → Bool
  | .rampUp => true
  | .settleUp => true
  | .rampDown => true
  | .off => false
  | .queued => false
  | .on => false

/-- The commanded phantom of a channel. -/
def commanded (s : State) (c : Chan) : Bool := (s.phantomOf c).state.commanded

/-- The number of channels in RAMP_UP. -/
def rampingCount (s : State) : Nat := (s.phantom.toList.filter fun r => r.state = .rampUp).length

/-- Whether a channel is delivered as silence: its card is ABSENT, or its phantom is in transition (R110). -/
def silenced (s : State) (c : Chan) : Bool := !s.cardPresent c || (s.phantomOf c).state.inTransition

/-! ### Entering a phantom state -/

/-- The transition timer on entry to a state: RAMP_UP and RAMP_DOWN start it where the card phantom already equals the
commanded phantom, SETTLE_UP starts it, the other states leave it not running (R104). -/
def entryTimer (st : PhantomState) (card : Option Bool) : Option Nat :=
  match st with
  | .rampUp | .rampDown => if card = some st.commanded then some 0 else none
  | .settleUp => some 0
  | .off | .queued | .on => none

/-- The start queue after a channel enters a state: it joins at the tail on entry to QUEUED, and leaves otherwise
(R102). -/
def queueAfter (st : PhantomState) (c : Chan) (q : List Chan) : List Chan :=
  if st = .queued then q.filter (· ≠ c) ++ [c] else q.filter (· ≠ c)

/-- The supply guard is asserted while a channel is in RAMP_UP (R109). -/
def resetGuard (s : State) : State := { s with supplyGuard := s.phantom.toList.any fun r => r.state = .rampUp }

/-- A channel enters a phantom state: its timer, the start queue and the supply guard follow; a change of the commanded
phantom that leaves it different from the card phantom queues a write (R102, R104, R109). -/
def enterPhantom (c : Chan) (st : PhantomState) (s : State) : State :=
  let old := (s.phantomOf c).state
  let card := (s.channel c).cardPhantom
  let t := modPhantom c (fun r => { r with state := st, timer := entryTimer st card }) s
  let t := resetGuard { t with startQueue := queueAfter st c t.startQueue }
  if old.commanded ≠ st.commanded ∧ card ≠ some st.commanded then queueWrite c t else t

/-- PHANTOM STATE as the channel stands (R111). -/
def postPhantom (c : Chan) (why : PhantomReason) (s : State) : State :=
  let h := s.channel c
  let pos := if c ∈ s.startQueue then some (s.startQueue.idxOf c + 1) else none
  post (.phantomState c (s.phantomOf c).state why h.phantom h.cardPhantom pos (rampingCount s)) s

/-- A change of phantom state with its report. -/
def changePhantom (c : Chan) (st : PhantomState) (why : PhantomReason) (s : State) : State :=
  s |> enterPhantom c st |> postPhantom c why

/-! ### Starts (R103) -/

/-- The channel the sequencer starts next: the oldest queued one on a PRESENT card, with fewer than 4 in RAMP_UP (R103). -/
def nextStart (s : State) : Option Chan :=
  if rampingCount s < Config.maxRamping then s.startQueue.find? fun c => s.cardPresent c else none

/-- A channel started (R103, steps 1 to 4). -/
def startPhantom (c : Chan) (s : State) : State :=
  s |> enterPhantom c .rampUp |> queueWrite c |> postPhantom c .started

/-- Starts follow one another until the test fails; four are the most there can be (R103). -/
def startUpTo : Nat → State → State
  | 0, s => s
  | n + 1, s =>
      match nextStart s with
      | none => s
      | some c => startUpTo n (startPhantom c s)

/-- The test for starts (R103). -/
def startQueued (s : State) : State := startUpTo Config.maxRamping s

/-! ### SET PHANTOM (R99 to R101) -/

/-- The effect of SET PHANTOM ON on a channel's phantom state (R100). -/
def phantomOn (c : Chan) (s : State) : State :=
  match (s.phantomOf c).state with
  | .off => s |> changePhantom c .queued .requested |> startQueued
  | .queued | .rampUp | .settleUp | .on | .rampDown => s

/-- The effect of SET PHANTOM OFF on a channel's phantom state (R101). -/
def phantomOff (c : Chan) (s : State) : State :=
  match (s.phantomOf c).state with
  | .queued => changePhantom c .off .requested s
  | .rampUp => s |> changePhantom c .rampDown .requested |> startQueued
  | .settleUp | .on => changePhantom c .rampDown .requested s
  | .off | .rampDown => s

/-- What a request on a range has taken so far (R63, R99). -/
structure Taken where
  state : State
  /-- channels taken -/
  count : Nat
  /-- the cards that hold a taken channel and were ABSENT when it was taken -/
  waiting : CardSet
  /-- channels on which the value saturated -/
  saturated : Nat
  /-- whether the request stopped at a channel without authority -/
  stopped : Bool

/-- The channels of a range taken in ascending order under the authority check, up to the first that fails it (R61,
R63, step 3). `act` says what taking a channel does, `sat` whether the value saturates on it. -/
def takeChannels (p : Port) (act : Chan → State → State) (sat : Chan → State → Bool) : List Chan → Taken → Taken
  | [], t => t
  | c :: cs, t =>
      if (t.state.channel c).authority.get p then
        takeChannels p act sat cs
          { state := act c t.state, count := t.count + 1,
            waiting := if t.state.cardPresent c then t.waiting else t.waiting.put (cardOf c) true,
            saturated := t.saturated + (if sat c t.state then 1 else 0), stopped := false }
      else { t with stopped := true }

/-- A range before any channel is taken. -/
def Taken.start (s : State) : Taken :=
  { state := s, count := 0, waiting := Bank.const 8 false, saturated := 0, stopped := false }

/-- Whether a taken channel waits on an ABSENT card. -/
def Taken.waits (t : Taken) : Bool := t.waiting.toList.any id

/-- One channel taken by SET PHANTOM (R99, step 3). -/
def takePhantom (on : Bool) (c : Chan) (s : State) : State :=
  s |> changeSetting c (fun h => { h with phantom := on }) |> if on then phantomOn c else phantomOff c

/-- SET PHANTOM (R99). -/
def servePhantom (p : Port) (m : Message) (s : State) : Served :=
  match rangeOf 64 (u8 m.body 0) (u8 m.body 1) with
  | none => refuse .range s
  | some cs =>
      if 1 < u8 m.body 2 then refuse .range s
      else
        let t := takeChannels p (takePhantom (u8 m.body 2 = 1)) (fun _ _ => false) cs (Taken.start s)
        { state := t.state, status := if t.stopped then .noAuthority else if t.waits then .deferred else .done,
          steps := t.count, result := setByte t.waiting ++ [byte t.state.startQueue.length] }

def execSetPhantom (p : Port) (s : State) : Host.Outcome State Fault Refusal :=
  .next (whenRunning (serve p kindSetPhantom (servePhantom p)) s)

/-! ### The transition timer (R104, R105) -/

/-- The timer after the card phantom was set: in RAMP_UP and RAMP_DOWN it runs while the card phantom equals the
commanded phantom (R104). -/
def PhantomRecord.retime (card : Option Bool) (r : PhantomRecord) : PhantomRecord :=
  match r.state with
  | .rampUp | .rampDown =>
      if card = some r.state.commanded then { r with timer := some (r.timer.getD 0) } else { r with timer := none }
  | .off | .queued | .settleUp | .on => r

/-- The card phantom of a channel set by a card's reply, with the timer following (R72, R74, R104). -/
def setCardPhantom (c : Chan) (on : Bool) (s : State) : State :=
  s |> modChannel c (fun h => { h with cardPhantom := some on }) |> modPhantom c (PhantomRecord.retime (some on))

/-- The target of a state's transition timer (R105). -/
def Settings.phantomTarget (h : Settings) : PhantomState → Option Nat
  | .rampUp => some h.rampTarget
  | .settleUp => some h.settleTarget
  | .rampDown => some (h.rampTarget + h.settleTarget)
  | .off => none
  | .queued => none
  | .on => none

/-- Whether a channel's transition timer meets its target (R105). -/
def transitionDue (s : State) (c : Chan) : Bool :=
  match s.settings.phantomTarget (s.phantomOf c).state, (s.phantomOf c).timer with
  | some target, some e => target ≤ e
  | _, _ => false

/-- The end of a transition (the table of R105), and the test for starts after it (R103). Where one SET HUB or HUB RESET ends
several transitions, the test so follows each of them: the manual does not say whether it is made once after all (DESIGN CHOICE,
Assumption 49). -/
def endTransition (c : Chan) (s : State) : State :=
  match (s.phantomOf c).state with
  | .rampUp => s |> changePhantom c .settleUp .ramped |> startQueued
  | .settleUp => changePhantom c .on .settled s
  | .rampDown =>
      s |> changePhantom c (if (s.channel c).phantom then .queued else .off) .discharged |> startQueued
  | .off | .queued | .on => s

/-- A transition that its timer has ended (R105). -/
def endIfDue (c : Chan) (s : State) : State := if transitionDue s c then endTransition c s else s

/-- A transition out of one state that its timer has ended: the RAMPED, SETTLED and DISCHARGED commands (R105). -/
def endFrom (st : PhantomState) (c : Chan) (s : State) : State :=
  if (s.phantomOf c).state = st then endIfDue c s else s

def execRamped (c : Chan) (s : State) : Host.Outcome State Fault Refusal := .next (whenRunning (endFrom .rampUp c) s)

def execSettled (c : Chan) (s : State) : Host.Outcome State Fault Refusal := .next (whenRunning (endFrom .settleUp c) s)

def execDischarged (c : Chan) (s : State) : Host.Outcome State Fault Refusal :=
  .next (whenRunning (endFrom .rampDown c) s)

/-! ### Reports from the cards (R106 to R108) -/

/-- A fault flag set in a poll reply (R107). -/
def phantomFaulted (k : Card) (status : Byte) (c : Chan) (s : State) : State :=
  let before := (s.phantomOf c).state
  let t := if before = .off then s else enterPhantom c .off s
  let t := if (s.channel c).cardPhantom = some true then queueWrite c t else t
  let t := changeSetting c (fun h => { h with phantom := false }) t
  let t :=
    if (s.phantomOf c).fault then t
    else t |> modPhantom c (fun r => { r with fault := true }) |> post (.phantomFault c before k status)
  if before = .off then t else postPhantom c .fault t

/-- A fault-free poll reply and the phantom it reports (R106). The timer has already followed the card phantom. -/
def phantomReported (on : Bool) (c : Chan) (s : State) : State :=
  let t := modPhantom c (fun r => { r with fault := false }) s
  match (s.phantomOf c).state, on with
  | .off, true => changePhantom c .rampDown .cardReported t
  | .queued, true => changePhantom c .on .cardReported t
  | .settleUp, false => changePhantom c .queued .cardReported t
  | .on, false => changePhantom c .queued .cardReported t
  | _, _ => t

/-- One channel of a card that becomes ABSENT (R108). -/
def phantomAbsent (c : Chan) (s : State) : State :=
  match (s.phantomOf c).state with
  | .rampUp | .settleUp | .on => changePhantom c .queued .cardAbsent s
  | .rampDown => changePhantom c (if (s.channel c).phantom then .queued else .off) .cardAbsent s
  | .off | .queued => s

end Sys2Proof.Machine
end

