-- ==== Sys2Proof/Machine/ChannelUnit.lean ====
section
/-! DEFINITION. The channel table: gain and pad requests, authority, pending applications (4.1 to 4.3), with SET_GAIN,
STEP_GAIN, SET_PAD, SET_AUTHORITY, READ_CHANNELS and APPLICATION_DUE. -/

namespace Sys2Proof.Machine

/-! ### Gain and pad requests (R63 to R67) -/

/-- One channel taken by a gain or pad request: where its desired gain or pad changes, desired-by becomes the port,
SETTING CHANGED is posted and the channel joins the write queue (R67). -/
def takeDesired (p : Port) (f : GainPad → GainPad) (c : Chan) (s : State) : State :=
  if f (s.channel c).desired = (s.channel c).desired then s
  else s |> changeSetting c (fun h => { h with desired := f h.desired, desiredBy := some p }) |> queueWrite c

/-- The reply of a gain or pad request (R63, step 4): the waiting cards and the saturated count are its result fields. -/
def desiredReply (clamped : Bool) (t : Taken) : Served :=
  { state := t.state,
    status := if t.stopped then .noAuthority
      else if clamped ∨ 0 < t.saturated then .clamped
      else if t.waits then .deferred
      else .done,
    steps := t.count, result := setByte t.waiting ++ [byte t.saturated] }

/-- SET GAIN (R64). -/
def serveGain (p : Port) (m : Message) (s : State) : Served :=
  match rangeOf 64 (u8 m.body 0) (u8 m.body 1) with
  | none => refuse .range s
  | some cs =>
      let x := u8 m.body 2
      let g := min Config.maxGain x
      desiredReply (decide (g ≠ x))
        (takeChannels p (takeDesired p fun v => { v with gain := g }) (fun _ _ => false) cs (Taken.start s))

def execSetGain (p : Port) (s : State) : Host.Outcome State Fault Refusal :=
  .next (whenRunning (serve p kindSetGain (serveGain p)) s)

/-- A gain stepped, limited to 0 and 63 (R65). -/
def steppedGain (d : Int) (g : Nat) : Nat := (clampInt 0 Config.maxGain (g + d)).toNat

/-- STEP GAIN (R65). -/
def serveStep (p : Port) (m : Message) (s : State) : Served :=
  match rangeOf 64 (u8 m.body 0) (u8 m.body 1) with
  | none => refuse .range s
  | some cs =>
      let x := s8 m.body 2
      let d := clampInt (-10) 10 x
      desiredReply (decide (d ≠ x))
        (takeChannels p (takeDesired p fun v => { v with gain := steppedGain d v.gain })
          (fun c s => decide ((steppedGain d (s.channel c).desired.gain : Int) ≠ (s.channel c).desired.gain + d)) cs
          (Taken.start s))

def execStepGain (p : Port) (s : State) : Host.Outcome State Fault Refusal :=
  .next (whenRunning (serve p kindStepGain (serveStep p)) s)

/-- SET PAD (R66). -/
def servePad (p : Port) (m : Message) (s : State) : Served :=
  match rangeOf 64 (u8 m.body 0) (u8 m.body 1) with
  | none => refuse .range s
  | some cs =>
      if 1 < u8 m.body 2 then refuse .range s
      else
        desiredReply false
          (takeChannels p (takeDesired p fun v => { v with pad := decide (u8 m.body 2 = 1) }) (fun _ _ => false) cs
            (Taken.start s))

def execSetPad (p : Port) (s : State) : Host.Outcome State Fault Refusal :=
  .next (whenRunning (serve p kindSetPad (servePad p)) s)

/-! ### Authority (R62) -/

/-- What a SET AUTHORITY does to a channel it takes (R62, step 4). -/
inductive AuthorityAction where
  | add (q : Port)
  | removeSelf

/-- The action a body names: none for an unknown code or an ADD port outside 1 to 3 (R62, step 1). -/
def authorityAction (b : List Byte) : Option AuthorityAction :=
  if u8 b 2 = 1 then (portOf (u8 b 3)).map .add
  else if u8 b 2 = 2 then some .removeSelf
  else none

/-- Whether a port is the only member of a set. -/
def onlyMember (p : Port) (a : PortSet) : Bool := a.get p && (indexes 3).all fun q => q = p || !a.get q

/-- One channel taken by SET AUTHORITY (R62, step 4). -/
def takeAuthority (p : Port) (a : AuthorityAction) (c : Chan) (s : State) : State :=
  changeSetting c (fun h => { h with authority := match a with
    | .add q => h.authority.put q true
    | .removeSelf => h.authority.put p false }) s

/-- Whether a REMOVE SELF would leave a channel of the range with no holder (R62, step 2). -/
def wouldEmpty (p : Port) (a : AuthorityAction) (cs : List Chan) (s : State) : Bool :=
  match a with
  | .add _ => false
  | .removeSelf => cs.any fun c => onlyMember p (s.channel c).authority

/-- SET AUTHORITY (R62). -/
def serveAuthority (p : Port) (m : Message) (s : State) : Served :=
  match rangeOf 64 (u8 m.body 0) (u8 m.body 1), authorityAction m.body with
  | some cs, some a =>
      if wouldEmpty p a cs s then refuse .lastAuthority s
      else
        let t := takeChannels p (takeAuthority p a) (fun _ _ => false) cs (Taken.start s)
        { state := t.state, status := if t.stopped then .noAuthority else .done, steps := t.count, result := [] }
  | _, _ => refuse .range s

def execSetAuthority (p : Port) (s : State) : Host.Outcome State Fault Refusal :=
  .next (whenRunning (serve p kindSetAuthority (serveAuthority p)) s)

/-! ### READ CHANNELS (R68) -/

/-- A gain with two flags in one byte: bits 5 to 0, bit 6 and bit 7 (R170). -/
def gainByte (v : GainPad) (top : Bool) : Byte :=
  byte (v.gain % 64 + (if v.pad then 64 else 0) + (if top then 128 else 0))

/-- A READ CHANNELS item of 7 bytes (R170). -/
def channelItem (s : State) (c : Chan) : List Byte :=
  let h := s.channel c
  let known := h.applied.isSome
  let auth := (indexes 3).foldl (fun a i => if h.authority.get i then a + 2 ^ i.val else a) 0
  [gainByte h.desired h.phantom,
   if known then gainByte (h.switched.getD { gain := 0, pad := false }) (h.cardPhantom.getD false) else 0,
   (match h.applied with | some v => gainByte v true | none => 0),
   byte (auth + 8 * (h.desiredBy.elim 0 num) + (if c ∈ s.bus.writeQueue then 32 else 0) +
     64 * (s.card (cardOf c)).state.code),
   byte ((s.phantomOf c).state.code + 8 * h.applications.length)] ++
    bytesOf 2 ((h.applications.getLast?.elim 0 Application.due) % Config.seqMod)

/-- READ CHANNELS (R68). -/
def serveReadChannels (m : Message) (s : State) : Served :=
  match rangeOf 64 (u8 m.body 0) (u8 m.body 1) with
  | none => refuse .range s
  | some cs =>
      if 8 < cs.length then refuse .range s
      else { state := s, status := .done, steps := cs.length, result := cs.flatMap (channelItem s) }

def execReadChannels (p : Port) (s : State) : Host.Outcome State Fault Refusal :=
  .next (whenRunning (serve p kindReadChannels serveReadChannels) s)

/-! ### Pending applications (R59, R60) -/

/-- A pending application appended: due at the later of the reply's frame plus the converter delay and the due frame of
the entry last in the list (R59). -/
def appendApplication (c : Chan) (v : GainPad) (author : Option Port) (s : State) : State :=
  let due := s.hubFrame + s.settings.converterDelay
  modChannel c (fun h =>
    { h with applications := h.applications ++
        [{ due := max due (h.applications.getLast?.elim 0 Application.due), value := v, author := author }] }) s

/-- GAIN APPLIED as the channel stands (R60). -/
def postApplied (c : Chan) (author : Option Port) (due : Nat) (s : State) : State :=
  match (s.channel c).applied, (s.channel c).net with
  | some v, some g => post (.gainApplied c v g author due) s
  | _, _ => s

/-- An entry applied (R60, steps 1 to 4; R91). -/
def applyEntry (c : Chan) (e : Application) (s : State) : State :=
  let t := modChannel c (fun h => { h with applied := some e.value }) s
  let t := match e.author with
    | some p => modDesk p c (fun r => { r with anchor := (t.channel c).net }) t
    | none => t
  t |> applyToRecords c |> postApplied c e.author e.due

/-- APPLICATION_DUE (R60): the hub frame count has reached the due frame of the first entry. Every entry with that due
frame leaves the list, and the last of them is applied. -/
def applicationDue (c : Chan) (s : State) : State :=
  match (s.channel c).applications with
  | [] => s
  | first :: rest =>
      if first.due ≤ s.hubFrame then
        let same := first :: rest.filter fun e => e.due = first.due
        let t := modChannel c (fun h => { h with applications := rest.filter fun e => e.due ≠ first.due }) s
        applyEntry c (same.getLast?.getD first) t
      else s

def execApplicationDue (c : Chan) (s : State) : Host.Outcome State Fault Refusal :=
  .next (whenRunning (applicationDue c) s)

end Sys2Proof.Machine
end

