-- ==== Sys2Proof/Machine/CardBus.lean ====
section
/-! DEFINITION. The card bus controller: the arbiter, the transactions, card replies and card presence, broadcasts (4.4
to 4.6), with POLL, WRITE, PHANTOM_OFF_ALL, SET_RATE, BROADCAST_END, POLL_REPLY, WRITE_ACK, TRANSACTION_TIMEOUT and
READ_CARDS. -/

namespace Sys2Proof.Machine

/-! ### The arbiter (R71) -/

/-- What the arbiter chooses to start. -/
inductive BusChoice where
  | broadcast (b : Broadcast)
  | poll (k : Card)
  | write (c : Chan)
  deriving DecidableEq, Repr

/-- How long ago a card's last POLL ended, where the card is overdue (R71, case 2). That a card never polled is more overdue
than any other is DEDUCED (Assumption 17). -/
def overdueBy (s : State) (k : Card) : Option Nat :=
  match (s.card k).lastPoll with
  | none => some (s.hubFrame + 1)
  | some e => if Config.overdueAfter < s.hubFrame - e then some (s.hubFrame - e) else none

/-- The more overdue of the choice so far and one card more; between equals the earlier choice stands. -/
def moreOverdue (s : State) (best : Option (Card × Nat)) (k : Card) : Option (Card × Nat) :=
  match best, overdueBy s k with
  | none, some d => some (k, d)
  | some (j, d'), some d => if d' < d then some (k, d) else some (j, d')
  | b, none => b

/-- The most overdue card, the lowest-numbered between equals (R71, case 2). -/
def mostOverdue (s : State) : Option Card := ((indexes 8).foldl (moreOverdue s) none).map Prod.fst

/-- The oldest write-queue entry whose card is PRESENT (R71, case 3). -/
def oldestWrite (s : State) : Option Chan := s.bus.writeQueue.find? fun c => s.cardPresent c

/-- The card after the one most recently polled, counting from 8 back to 1; card 1 when none has been (R71, R77). -/
def nextInRotation (s : State) : Card :=
  match s.bus.lastPolled with
  | none => 0
  | some k => k + 1

/-- The arbiter's choice (R71). -/
def busChoice (s : State) : BusChoice :=
  match s.bus.broadcasts with
  | b :: _ => .broadcast b
  | [] =>
      match mostOverdue s, oldestWrite s with
      | some k, _ => .poll k
      | none, some c => .write c
      | none, none => .poll (nextInRotation s)

/-- Whether the bus is free. -/
def busFree (s : State) : Bool := s.bus.transaction.isNone

/-! ### Starting a transaction (R69, R71) -/

/-- POLL: the bus is free and the arbiter chooses a POLL. Its card becomes the one most recently polled (R71). -/
def startPoll (s : State) : State :=
  match s.bus.transaction, busChoice s with
  | none, .poll k => modBus (fun b => { b with transaction := some (.poll k s.hubFrame), lastPolled := some k }) s
  | _, _ => s

def execPoll (s : State) : Host.Outcome State Fault Refusal := .next (whenRunning startPoll s)

/-- WRITE: it carries the desired gain and pad and the commanded phantom as they stand, and records the desired-by
port (R69). -/
def startWrite (s : State) : State :=
  match s.bus.transaction, busChoice s with
  | none, .write c =>
      let x := Transaction.write c (s.channel c).desired (commanded s c) (s.channel c).desiredBy s.hubFrame
      modBus (fun b => { b with transaction := some x }) s
  | _, _ => s

def execWrite (s : State) : Host.Outcome State Fault Refusal := .next (whenRunning startWrite s)

/-- The oldest waiting broadcast started; it leaves the queue (R76). -/
def startBroadcast (b : Broadcast) (s : State) : State :=
  modBus (fun x => { x with transaction := some (.broadcast b s.hubFrame), broadcasts := x.broadcasts.drop 1 }) s

/-- PHANTOM_OFF_ALL (R76). -/
def startPhantomOffAll (s : State) : State :=
  match s.bus.transaction, busChoice s with
  | none, .broadcast .phantomOffAll => startBroadcast .phantomOffAll s
  | _, _ => s

def execPhantomOffAll (s : State) : Host.Outcome State Fault Refusal := .next (whenRunning startPhantomOffAll s)

/-- SET_RATE (R76). -/
def startSetRate (s : State) : State :=
  match s.bus.transaction, busChoice s with
  | none, .broadcast (.setRate r) => startBroadcast (.setRate r) s
  | _, _ => s

def execSetRate (s : State) : Host.Outcome State Fault Refusal := .next (whenRunning startSetRate s)

/-- Whether a waiting broadcast is a SET RATE. -/
def Broadcast.isSetRate : Broadcast → Bool
  | .setRate _ => true
  | .phantomOffAll => false

/-- SET RATE posted: it replaces one still waiting in its position, or joins the tail (R76). -/
def postSetRate (r : Rate) (s : State) : State :=
  modBus (fun x =>
    if x.broadcasts.any Broadcast.isSetRate then
      { x with broadcasts := x.broadcasts.map fun b => if b.isSetRate then .setRate r else b }
    else { x with broadcasts := x.broadcasts ++ [.setRate r] }) s

/-! ### The end of a transaction (R69) -/

/-- The bus becomes free. -/
def freeBus (s : State) : State := modBus (fun b => { b with transaction := none }) s

/-- BROADCAST_END: 4 frame periods after its start (R69). -/
def endBroadcast (s : State) : State :=
  match s.bus.transaction with
  | some (.broadcast _ start) => if start + Config.broadcastLength ≤ s.hubFrame then freeBus s else s
  | _ => s

def execBroadcastEnd (s : State) : Host.Outcome State Fault Refusal := .next (whenRunning endBroadcast s)

/-- Whether a reply arrives in the time a card has for it: no earlier than `least` frame periods after the start and
within the 96 of the timeout (R69, R73). -/
def inReplyTime (least start f : Nat) : Bool := decide (start + least ≤ f) && decide (f ≤ start + Config.transactionLimit)

/-! ### POLL replies (R74) -/

/-- The channel goes into the write queue when what is wanted differs from what the card holds (R74, step 3e). -/
def writeTest (c : Chan) (s : State) : State :=
  let h := s.channel c
  if h.switched = some h.desired ∧ h.cardPhantom = some (commanded s c) then s else queueWrite c s

/-- The first reply since power-on for a channel (R74, step 3a; R92). The due frame of the report is a free value
(Assumption 9). -/
def firstReply (c : Chan) (v : GainPad) (s : State) : State :=
  { s with freeReads := s.freeReads + 1 }
    |> modChannel c (fun h => { h with switched := some v, applied := some v })
    |> postApplied c none (Config.firstReplyDueFrame s.freeReads)
    |> firstNetGain c

/-- Reported values of a channel whose values are known: where they differ from the switched values they become them,
and an unattributed application is appended (R74, steps 3b and 3c). -/
def laterReply (c : Chan) (v : GainPad) (s : State) : State :=
  if (s.channel c).switched = some v then s
  else s |> modChannel c (fun h => { h with switched := some v }) |> appendApplication c v none

/-- A reported gain and pad; a gain above 63 is taken as 63 (R58, R74). -/
def reportedValue (d : CardChannel) : GainPad := { gain := min Config.maxGain d.gain.toNat, pad := d.pad }

/-- One channel of a poll reply (R74, step 3). -/
def channelReplied (k : Card) (known : Bool) (status : Byte) (c : Chan) (d : CardChannel) (s : State) : State :=
  s |> (if known then laterReply c (reportedValue d) else firstReply c (reportedValue d))
    |> setCardPhantom c d.phantomOn
    |> (if d.phantomFault then phantomFaulted k status c else phantomReported d.phantomOn c)
    |> writeTest c

/-- The place of a channel on its card. -/
def placeOnCard (c : Chan) : Fin 8 := ⟨c.val % 8, Nat.mod_lt _ (by decide)⟩

/-- The card record after a poll reply, before its values count as known (R74, steps 1 and 2). -/
def CardRecord.replied (f : Nat) (status : Byte) (r : CardRecord) : CardRecord :=
  { r with state := .present, timeouts := 0, lastPoll := some f, status := some status }

/-- A poll reply taken (R74, R75). -/
def takePollReply (k : Card) (d : PollData) (s : State) : State :=
  let old := s.card k
  let t := s |> freeBus |> modCard k (CardRecord.replied s.hubFrame d.status)
  let t := if old.state = .absent ∨ ¬ old.known then postCard k .replied t else t
  t |> forEach (fun c => channelReplied k old.known d.status c (d.channels.get (placeOnCard c))) (channelsOf k)
    |> modCard k (fun r => { r with known := true })
    |> startQueued

/-- POLL_REPLY: it is discarded unless a POLL of its card is in progress, in time (R69, R74). -/
def pollReplied (k : Card) (d : PollData) (s : State) : State :=
  match s.bus.transaction with
  | some (.poll j start) =>
      if j = k ∧ inReplyTime Config.pollReplyMin start s.hubFrame then takePollReply k d s else s
  | _ => s

def execPollReply (k : Card) (d : PollData) (s : State) : Host.Outcome State Fault Refusal :=
  .next (whenRunning (pollReplied k d) s)

/-! ### WRITE ACKs (R72) -/

/-- The entry of a channel leaves the write queue when nothing remains to write (R72, step 5). -/
def settleEntry (c : Chan) (s : State) : State :=
  let h := s.channel c
  if h.switched = some h.desired ∧ h.cardPhantom = some (commanded s c) then
    modBus (fun b => { b with writeQueue := b.writeQueue.filter (· ≠ c) }) s
  else s

/-- A WRITE ACK taken (R72). -/
def takeWriteAck (c : Chan) (v : GainPad) (phantom : Bool) (author : Option Port) (s : State) : State :=
  let t := s |> freeBus |> modCard (cardOf c) (fun r => { r with timeouts := 0 })
  let t := if (t.channel c).switched = some v then t else appendApplication c v author t
  t |> modChannel c (fun h => { h with switched := some v })
    |> setCardPhantom c phantom
    |> settleEntry c

/-- WRITE_ACK: it is discarded unless the WRITE of that card and channel is in progress, in time (R69, R72). -/
def writeAcked (k : Card) (c : Chan) (s : State) : State :=
  match s.bus.transaction with
  | some (.write d v phantom author start) =>
      if d = c ∧ cardOf c = k ∧ inReplyTime Config.writeAckMin start s.hubFrame then takeWriteAck c v phantom author s
      else s
  | _ => s

def execWriteAck (k : Card) (c : Chan) (s : State) : Host.Outcome State Fault Refusal :=
  .next (whenRunning (writeAcked k c) s)

/-! ### Timeouts (R73) -/

/-- A card becomes ABSENT: CARD STATE, then the phantom of its 8 channels in ascending order, then the starts this
frees (R73, R108). That the starts are made once all 8 channels are done, as R103 has it within a poll reply, is the model's
choice (DESIGN CHOICE, Assumption 44). -/
def becomeAbsent (k : Card) (s : State) : State :=
  s |> modCard k (fun r => { r with state := .absent })
    |> postCard k .noReply
    |> forEach phantomAbsent (channelsOf k)
    |> startQueued

/-- The card record after a timeout, with the end of a POLL recorded (R73, steps 2 and 3). -/
def CardRecord.timedOut (poll : Option Nat) (r : CardRecord) : CardRecord :=
  { r with timeouts := satSucc 255 r.timeouts, lastPoll := poll <|> r.lastPoll }

/-- A transaction to a card times out (R73). -/
def timeOut (k : Card) (poll : Option Nat) (s : State) : State :=
  let t := s |> freeBus |> modCard k (CardRecord.timedOut poll)
  if (t.card k).state = .present ∧ Config.absentAfter ≤ (t.card k).timeouts then becomeAbsent k t else t

/-- TRANSACTION_TIMEOUT: 96 frame periods without a reply (R73). -/
def transactionTimedOut (s : State) : State :=
  match s.bus.transaction with
  | some (.poll k start) =>
      if start + Config.transactionLimit ≤ s.hubFrame then timeOut k (some s.hubFrame) s else s
  | some (.write c _ _ _ start) =>
      if start + Config.transactionLimit ≤ s.hubFrame then timeOut (cardOf c) none s else s
  | _ => s

def execTransactionTimeout (s : State) : Host.Outcome State Fault Refusal := .next (whenRunning transactionTimedOut s)

/-! ### READ CARDS (R75) -/

/-- The write-queue entries for a card's channels. -/
def entriesFor (k : Card) (s : State) : Nat := (s.bus.writeQueue.filter fun c => cardOf c = k).length

/-- The fields of one card in READ CARDS (R75). -/
def cardItem (s : State) (k : Card) : List Byte :=
  let r := s.card k
  [byte r.state.code] ++ flagByte r.known ++ [byte r.timeouts] ++
    msBytes (r.lastPoll.map fun e => (s.hubFrame - e) / Config.framesPerMs) ++ [r.status.getD 0xFF] ++
    [byte (entriesFor k s)]

/-- READ CARDS (R75). -/
def serveReadCards (_ : Message) (s : State) : Served :=
  taken .done ((indexes 8).flatMap (cardItem s) ++ [byte s.bus.writeQueue.length, byte s.bus.broadcasts.length]) s

def execReadCards (p : Port) (s : State) : Host.Outcome State Fault Refusal :=
  .next (whenRunning (serve p kindReadCards serveReadCards) s)

end Sys2Proof.Machine
end

