-- ==== Sys2Proof/Machine/Delivery.lean ====
section
/-! DEFINITION. The slot planner and the downstream frame: slot plans, truncation at a rate change, the slots of a
frame, clip notices and meters, the talk slot (chapter 7, R149), and the start of a frame period (R1, R2), with
SET_PLAN, READ_PLAN, RATE_MUTE_END and DOWNSTREAM_FRAME. -/

namespace Sys2Proof.Machine

/-! ### Plans (R112 to R116) -/

/-- Whether a plan fits a rate (R114). -/
def Plan.fits (r : Rate) (p : Plan) : Bool := p.total ≤ Config.capacity r

/-- A window as SET PLAN gives it: presence, start and end, in a range that ends at `top`. None where it is refused with
RANGE (R115, step 1). -/
def windowGiven (top presence start stop : Nat) : Option (Option Window) :=
  if presence = 0 then some none
  else if presence = 1 ∧ 1 ≤ start ∧ start ≤ top ∧ 1 ≤ stop ∧ stop ≤ top then some (some { start := start, stop := stop })
  else none

/-- The result fields of SET PLAN: the plan, its total length and the capacity (R115). -/
def planFields (r : Rate) (p : Plan) : List Byte :=
  windowBytes p.mic ++ windowBytes p.ret ++ [byte p.total, byte (Config.capacity r)]

/-- SET PLAN (R115). -/
def servePlan (p : Port) (m : Message) (s : State) : Served :=
  match windowGiven 64 (u8 m.body 0) (u8 m.body 1) (u8 m.body 2),
        windowGiven 96 (u8 m.body 3) (u8 m.body 4) (u8 m.body 5) with
  | some mic, some ret =>
      let plan : Plan := { mic := mic, ret := ret }
      if plan.fits s.rate then taken .done (planFields s.rate plan) (modPort p (fun u => { u with plan := plan }) s)
      else refuse .planSize s
  | _, _ => refuse .range s

def execSetPlan (p : Port) (s : State) : Host.Outcome State Fault Refusal :=
  .next (whenRunning (serve p kindSetPlan (servePlan p)) s)

/-- How many slots an item of a plan takes (R117). -/
def slotsPerItem : Rate → Nat
  | .single => 1
  | .double => 2

/-- READ PLAN (R116). -/
def serveReadPlan (m : Message) (s : State) : Served :=
  match portOf (u8 m.body 0) with
  | none => refuse .range s
  | some q =>
      let plan := (s.port q).plan
      taken .done
        ([byte (rateCode s.rate)] ++ windowBytes plan.mic ++ [byte plan.micLength] ++ windowBytes plan.ret ++
          [byte plan.retLength, byte (Config.capacity s.rate), byte (slotsPerItem s.rate * plan.total)] ++
          bytesOf 3 (s.rateMute.getD 0)) s

def execReadPlan (p : Port) (s : State) : Host.Outcome State Fault Refusal :=
  .next (whenRunning (serve p kindReadPlan serveReadPlan) s)

/-! ### Truncation (R121, R122) -/

/-- A window of a range that ends at `top` cut to its first `n` members (R121). -/
def Window.cutTo (top n : Nat) (w : Window) : Window := { w with stop := (w.start + n - 2) % top + 1 }

/-- A window cut by `e` from its end: none where nothing of it is left (R121). -/
def cutWindow (top e : Nat) : Option Window → Option Window
  | none => none
  | some w => if e < w.length top then some (w.cutTo top (w.length top - e)) else none

/-- A plan truncated to a capacity: the return window is cut first, then the mic window (R121). -/
def Plan.truncate (cap : Nat) (p : Plan) : Plan :=
  let e := p.total - cap
  if e = 0 then p
  else
    let mic := if p.retLength < e then cutWindow 64 (e - p.retLength) p.mic else p.mic
    { mic := mic, ret := cutWindow 96 e p.ret }

/-- One port's plan truncated to the rate in force, with PLAN TRUNCATED when it was cut (R121, R122). -/
def truncatePlan (q : Port) (s : State) : State :=
  let before := (s.port q).plan
  let after := before.truncate (Config.capacity s.rate)
  if after = before then s
  else s |> modPort q (fun u => { u with plan := after }) |> postTo q (.planTruncated s.rate before after)

/-- What the slot planner does when a RATE change is carried (R120). -/
def changeRate (r : Rate) (s : State) : State :=
  forEach truncatePlan (indexes 3) { s with rate := r, rateMute := some Config.rateMute }

/-- The default plan at a rate (R112). -/
def defaultPlan (r : Rate) : Plan := { mic := some { start := 1, stop := min 64 (Config.capacity r) }, ret := none }

/-- RATE_MUTE_END (R120): the 4,800 frame periods have run out. -/
def endRateMute (s : State) : State := if s.rateMute = some 0 then { s with rateMute := none } else s

def execRateMuteEnd (s : State) : Host.Outcome State Fault Refusal := .next (whenRunning endRateMute s)

/-! ### Samples of the frame just ended (R117, R119, R128) -/

/-- The first and the second sample that a return gives in a played-out frame: at SINGLE its one slot, at DOUBLE the
pair of slots 2r − 1 and 2r, and silence for returns 17 to 32 (R119). -/
def returnPair (rate : Rate) (handed : Bank 33 Slot) (r : Fin 32) : Slot × Slot :=
  match rate with
  | .single => (handed.get (Fin.ofNat 33 r.val), handed.get (Fin.ofNat 33 r.val))
  | .double =>
      if r.val < 16 then (handed.get (Fin.ofNat 33 (2 * r.val)), handed.get (Fin.ofNat 33 (2 * r.val + 1)))
      else (silentSlot, silentSlot)

/-- The slots an item takes at a rate, from its first and second sample (R117). -/
def itemSlots (rate : Rate) (x : Slot × Slot) : List Slot :=
  match rate with
  | .single => [x.1]
  | .double => [x.1, x.2]

/-- A sample scaled by a coefficient, as a slot: CLIPPED where it had to be saturated (R86, R118). -/
def scaledSlot (k : Nat) (x : Int) : Slot :=
  let y := scale k x
  if saturate y = y then { sample := y, cond := .normal } else { sample := saturate y, cond := .clipped }

/-- Port p's copy of one converter sample of a channel, as delivered (the table of R118). -/
def micSlot (s : State) (p : Port) (c : Chan) (x : Sample24) : Slot :=
  if s.rateMute.isSome ∨ silenced s c then silentSlot else scaledSlot (s.desk p c).coefficient x.toInt

/-- The slots of one channel of a mic window (R117, R118). -/
def micSlots (s : State) (p : Port) (c : Chan) : List Slot :=
  itemSlots s.rate (micSlot s p c (s.mics.get c).first, micSlot s p c (s.mics.get c).second)

/-- The port and the return that a pool number names (R113). -/
def poolSource (q : Nat) : Source := { port := Fin.ofNat 3 ((q - 1) / 32), ret := Fin.ofNat 32 (q - 1) }

/-- The slots of one pool number of a return window (R119, R120). -/
def returnSlots (s : State) (q : Nat) : List Slot :=
  let src := poolSource q
  itemSlots s.rate
    (if s.rateMute.isSome then (silentSlot, silentSlot) else returnPair s.rate (s.port src.port).merge.handed src.ret)

/-- The slots that a port's plan fills, in order (R117). -/
def planSlots (s : State) (p : Port) : List Slot :=
  let plan := (s.port p).plan
  (windowItems 64 plan.mic).flatMap (fun n => micSlots s p (chanNumbered n)) ++
    (windowItems 96 plan.ret).flatMap (returnSlots s)

/-- The talk slot of a port's frame (R149). -/
def talkSlot (s : State) (p : Port) : Slot :=
  match s.talk.active, s.settings.stageChannel, liveTalker s with
  | true, some c, _ =>
      if silenced s c then silentSlot else { sample := (s.mics.get c).first.toInt, cond := .normal }
  | _, _, some t => if p = t then silentSlot else (s.port t).merge.handed.get (Fin.ofNat 33 32)
  | _, _, none => silentSlot

/-- The 96 slots of a port's downstream frame: the plan, silence up to slot 95, and the talk slot (R117). -/
def frameSlots (s : State) (p : Port) : Bank 96 Slot :=
  Bank.ofList 96 silentSlot (((planSlots s p ++ List.replicate 95 silentSlot).take 95) ++ [talkSlot s p])

/-! ### Meters and clip notices (R123, R125) -/

/-- A peak meter raised by the slots of its channel (R125). -/
def raisedPeak (peak : Nat) (slots : List Slot) : Nat :=
  slots.foldl (fun a x => if x.cond = .silenced then a else max a (magnitude x.sample)) peak

/-- The clip notice of a channel one of whose slots is CLIPPED (R123). -/
def clipNotice (p : Port) (c : Chan) (slots : List Slot) (s : State) : State :=
  match slots.find? fun x => x.cond = .clipped with
  | none => s
  | some x =>
      if (s.desk p c).clipArmed ∧ s.portState p ≠ .vacant then
        s |> postTo p (.clip c s.hubFrame (decide (x.sample < 0)) (s.desk p c).comp (s.channel c).net)
          |> modDesk p c (fun r => { r with clipArmed := false })
      else s

/-- The meter and the clip notice of one delivered channel. -/
def judgeChannel (p : Port) (c : Chan) (s : State) : State :=
  let slots := micSlots s p c
  s |> modDesk p c (fun r => { r with peak := raisedPeak r.peak slots }) |> clipNotice p c slots

/-- The meters and clip notices of a port's mic window. -/
def judgeWindow (p : Port) (s : State) : State :=
  forEach (fun n => judgeChannel p (chanNumbered n)) (windowItems 64 (s.port p).plan.mic) s

/-! ### The downstream frame (R1, R2) -/

/-- The frame with its check (R168). -/
def DownFrame.checked (f : DownFrame) : DownFrame := { f with check := checkOf f.covered }

/-- A port's frame built and sent on both lanes: its slots are judged, the outbound arbiter fills its control field,
and the check closes it (R1, R49). -/
def sendFrame (seq : Nat) (p : Port) (s : State) : State :=
  let slots := frameSlots s p
  let t := judgeWindow p s
  let u := t.port p
  let field := Control.fill u.merge.deskHold 4 u.control
  let f : DownFrame :=
    { seq := seq, hold := u.control.hold, rate := t.rate, stageTalk := t.talk.active, slots := slots, control := field.1,
      check := 0 }
  modPort p (fun u => { u with control := field.2, sent := some f.checked }) t

/-- The frames of all three ports. -/
def sendFrames (seq : Nat) (s : State) : State := forEach (sendFrame seq) (indexes 3) s

/-! ### What counts in every frame period -/

/-- A running timer counts one frame period. -/
def tickTimer (t : Option Nat) : Option Nat := t.map (· + 1)

def PortUnit.tick (u : PortUnit) : PortUnit := { u with record := { u.record with lossHold := tickTimer u.record.lossHold } }

def PhantomRecord.tick (r : PhantomRecord) : PhantomRecord := { r with timer := tickTimer r.timer }

/-- A crossfade takes its next step, up to step 480 (R132). -/
def Crossfade.advance (x : Crossfade) : Crossfade := { x with steps := satSucc Config.fadeSteps x.steps }

/-- A dim ramp takes its next step, and the dim coefficient its value (R133). -/
def Output.dimStep (o : Output) : Output :=
  match o.dimRamp with
  | some x =>
      if x.steps < Config.rampSteps then { o with dimCoefficient := x.advance.value, dimRamp := some x.advance } else o
  | none => o

/-- An output's delay timer, crossfade and dim in a new frame period (R129, R132, R133). -/
def Output.tick (o : Output) : Output :=
  { o with timer := tickTimer o.timer, crossfade := o.crossfade.map Crossfade.advance }.dimStep

/-- The retained store's counts in a new frame period (R163). -/
def Retained.tick (r : Retained) : Retained :=
  { r with quiet := tickTimer r.quiet, write := r.write.map fun w => { w with elapsed := w.elapsed + 1 } }

/-- A new frame period begins: the hub frame count rises, running timers count, and ramps and crossfades take their
steps (R2, R29, R85, R104, R120, R129, R132, R133, R163). -/
def tickFrame (s : State) : State :=
  { s with hubFrame := s.hubFrame + 1, ports := s.ports.each PortUnit.tick, phantom := s.phantom.each PhantomRecord.tick,
           outputs := s.outputs.each Output.tick, retained := s.retained.tick,
           desks := s.desks.each fun b => b.each DeskRecord.nextFrame, rateMute := s.rateMute.map (· - 1) }

/-- DOWNSTREAM_FRAME: the start of a frame period. Before the first, nothing has been counted, and the hub frame count
stays 0 (R1, R2). -/
def startFrame (s : State) : State :=
  if s.begun ∧ ¬ s.played then s
  else
    let seq := (if s.begun then s.hubFrame + 1 else s.hubFrame) % Config.seqMod
    let t := sendFrames seq s
    { (if s.begun then tickFrame t else t) with begun := true, played := false }

def execDownstreamFrame (s : State) : Host.Outcome State Fault Refusal := .next (whenRunning startFrame s)

end Sys2Proof.Machine
end

