-- ==== Sys2Proof/Machine/Playout.lean ====
section
/-! DEFINITION. The end of a frame period: the playouts of the merge buffers (R16 to R18, R21), the judging of UP lanes
(R11), the control bytes of the played-out frames (R39, R40), the stage-output samples (R128, R132, R134), and what
counts at the end of a frame (R141, R147, R155), with PLAYOUT. -/

namespace Sys2Proof.Machine

/-! ### Choosing the copy (R17) -/

/-- A usable copy of a lane in an entry: its lane is UP, and the entry holds the sequence number that is played. -/
def usableCopy (u : PortUnit) (e : Entry) (n : LaneName) : Option Copy :=
  if u.lanes.isUp n ∧ e.seq = some u.merge.next then e.get n else none

/-- The copy played out: the active lane's, or else the other lane's (R17). -/
def chooseCopy (u : PortUnit) (e : Entry) : Option Copy :=
  usableCopy u e u.merge.active <|> usableCopy u e u.merge.active.other

/-! ### Judging the lanes (R11) -/

/-- A lane judged at a playout, given whether the played entry holds its copy (R11). -/
def Lane.judge (present : Bool) (l : Lane) : Lane :=
  if l.state = .up then { l with misses := if present then 0 else satSucc Config.missTarget l.misses } else l

/-- Whether the entry of the sequence number played holds a copy from a lane. -/
def Entry.holds (q : Nat) (e : Entry) (n : LaneName) : Bool := e.seq = some q && (e.get n).isSome

/-- Both lanes judged. -/
def Lanes.judge (q : Nat) (e : Entry) (ls : Lanes) : Lanes :=
  { a := ls.a.judge (e.holds q .A), b := ls.b.judge (e.holds q .B) }

/-! ### The frame handed on (R18, R21) -/

/-- The slots handed on for a missing frame, by its position in the run (R18). -/
def concealed (position : Nat) (last : Bank 33 Int) : Bank 33 Slot :=
  if position ≤ 2 then last.each fun x => { sample := x, cond := .concealed } else Bank.const 33 silentSlot

/-- The slots handed on: those of the copy or of the concealment, silenced while the playout-change mute runs (R18, R21). -/
def handedSlots (m : Merge) (c : Option Copy) : Bank 33 Slot :=
  if m.mute.isSome then Bank.const 33 silentSlot
  else
    match c with
    | some c => c.slots
    | none => concealed (m.missing + 1) m.last

/-- An entry after its playout (R16). -/
def Entry.empty : Entry := { seq := none, a := none, b := none }

/-- The mute of a change of P starts at 32 with its first playout, and a mute still running restarts (R21, step 2). -/
def Merge.startMute (m : Merge) : Merge :=
  if m.muteDue then { m with mute := some Config.playoutMute, muteDue := false } else m

/-- The merge buffer after the playout of an entry with the chosen copy (R16, R18, R21). -/
def Merge.play (c : Option Copy) (m : Merge) : Merge :=
  let m := m.startMute
  let slots := handedSlots m c
  { m with entries := m.entries.put (Fin.ofNat 8 m.next) Entry.empty,
           next := (m.next + 1) % Config.seqMod,
           missing := match c with | some _ => 0 | none => satSucc 3 m.missing,
           last := slots.each Slot.sample,
           deskHold := match c with | some c => c.deskHold | none => m.deskHold,
           mute := m.mute.map (· - 1),
           handed := slots }

/-- The playout of a port (R16): the copy is chosen, the lanes are judged, the frame is handed on, and its control bytes
go to the control channel unit. -/
def playPort (p : Port) (s : State) : State :=
  let u := s.port p
  let e := u.merge.entries.get (Fin.ofNat 8 u.merge.next)
  let c := chooseCopy u e
  let t := modPort p (fun u => { u with lanes := u.lanes.judge u.merge.next e, merge := u.merge.play c }) s
  match c with
  | some c => takeControl p c.control t
  | none => dropAssembly p .missingFrame t

/-! ### Skipped and held playouts (R21) -/

/-- How many hub frames the playout of sequence `q` under the offset `offset` lies ahead of hub frame `f`, modulo
65,536. -/
def framesAhead (f q offset : Nat) : Nat := (q + offset + Config.seqMod - f % Config.seqMod) % Config.seqMod

/-- How many sequence numbers from `q` on the playout under the offset `offset` skips at the end of hub frame `f`: none when
the playout of `q` lies ahead or is due in this frame (R21, step 1). -/
def skipped (f q offset : Nat) : Nat :=
  let d := framesAhead f q offset
  if d < Config.seqMod / 2 then 0 else Config.seqMod - d

/-- An entry of a sequence number among the `k` from `q` on is cleared unplayed (R21). -/
def Entry.skip (q k : Nat) (e : Entry) : Entry :=
  match e.seq with
  | some x => if (x + Config.seqMod - q % Config.seqMod) % Config.seqMod < k then { seq := none, a := none, b := none } else e
  | none => e

/-- The read position moved on by `k` sequence numbers, whose entries are cleared unplayed (R21, step 1). -/
def Merge.skip (k : Nat) (m : Merge) : Merge :=
  { m with next := (m.next + k) % Config.seqMod, entries := m.entries.each (Entry.skip m.next k) }

/-- The sequence numbers that a lowered offset has left behind are skipped as the first playout under it is made: no lane is
judged for them, and the control channel unit is told of one missing frame (R21, step 1; R40). -/
def skipPort (p : Port) (s : State) : State :=
  let m := (s.port p).merge
  let k := skipped s.hubFrame m.next m.offset
  let t := modMerge p (Merge.skip k) s
  if k = 0 then t else dropAssembly p .missingFrame t

/-- Whether a raised offset holds the playout of a port at the end of this hub frame: the one it makes next lies ahead
(R16, R21). -/
def playoutHeld (s : State) (p : Port) : Bool :=
  let m := (s.port p).merge
  let d := framesAhead s.hubFrame m.next m.offset
  decide (0 < d) && decide (d < Config.seqMod / 2)

/-- The slots of a frame period without a playout, where neither a mute nor the want of a lane makes them silence: free
values, since the manual states none (Assumption 8). -/
def heldSlots (k : Nat) : Bank 33 Slot :=
  Bank.tabulate fun i => { sample := (Config.heldSample k i.val).toInt, cond := condOf (Config.heldCond k i.val) }

/-- The merge buffer after a frame period that a raised offset holds: silence is handed on while the mute of an earlier
change still runs (R21, step 2) and where no lane was UP for three frame periods or more (R18), and otherwise the slots
given. -/
def Merge.hold (slots : Bank 33 Slot) (m : Merge) : Merge :=
  { m with mute := m.mute.map (· - 1),
           handed := if m.mute.isSome ∨ Config.silentAfter ≤ m.withoutLane then Bank.const 33 silentSlot else slots }

/-- A frame period that a raised offset holds: no playout, no lane judged, no control bytes (R21). -/
def holdPort (p : Port) (s : State) : State :=
  { s with freeReads := s.freeReads + 1 } |> modMerge p (Merge.hold (heldSlots s.freeReads)) |> idleAssembly p

/-- The frame periods in a row that ended with no lane UP, with the one that ends now (R18). -/
def Merge.countWithout (anyUp : Bool) (m : Merge) : Merge :=
  { m with withoutLane := if anyUp then 0 else satSucc Config.silentAfter m.withoutLane }

/-- The end of a frame period at one port. -/
def endPort (p : Port) (s : State) : State :=
  let t := modMerge p (Merge.countWithout (s.port p).lanes.anyUp) s
  if playoutHeld t p then holdPort p t else t |> skipPort p |> playPort p

/-! ### The stage outputs (R128, R132, R134) -/

/-- The first and second sample of a stream (R128). -/
def streamPair (s : State) : Stream → Int × Int
  | .silence => (0, 0)
  | .ret src =>
      let x := returnPair s.rate (s.port src.port).merge.handed src.ret
      (x.1.sample, x.2.sample)
  | .fallback c l =>
      if silenced s c then (0, 0)
      else
        let k := coefficientOf l
        (scale k (s.mics.get c).first.toInt, scale k (s.mics.get c).second.toInt)

/-- One sample of a crossfade after `i` steps (R132). -/
def mixed (i : Nat) (old new : Int) : Int := roundDiv (old * ((Config.fadeSteps : Int) - i) + new * i) Config.fadeSteps

/-- The source part of an output's samples (R134, step 1). -/
def sourcePair (s : State) (o : Output) : Int × Int :=
  match o.crossfade with
  | none => streamPair s o.stream
  | some x =>
      let old := streamPair s x.old
      let new := streamPair s x.new
      (mixed x.steps old.1 new.1, mixed x.steps old.2 new.2)

/-- The talker sample: slot 33 of the live talker's played-out frame (8.5). -/
def talkerSample (s : State) : Option Int :=
  (liveTalker s).map fun t => ((s.port t).merge.handed.get (Fin.ofNat 33 32)).sample

/-- One sample of an output from its source part: dim, talk and saturation (R134, steps 2 to 4). -/
def outputSample (s : State) (o : Output) (x : Int) : Int :=
  saturate (scale o.dimCoefficient x + (if o.listen then (talkerSample s).getD 0 else 0))

/-- The samples at a rate, from the first and the second. -/
def linesOf (rate : Rate) (x : Int × Int) : List Int :=
  match rate with
  | .single => [x.1]
  | .double => [x.1, x.2]

/-- The samples of one output for the frame: 0 while the rate-change mute runs (R134). -/
def outputLine (s : State) (o : Output) : List Int :=
  if s.rateMute.isSome then linesOf s.rate (0, 0)
  else
    let x := sourcePair s o
    linesOf s.rate (outputSample s o x.1, outputSample s o x.2)

/-! ### Counts at the end of a frame (R141, R147, R155) -/

/-- The live time of the claim at the head rises by one (R141). -/
def Talk.countLive (t : Talk) : Talk :=
  { t with claims := match t.claims with
      | c :: cs => { c with live := c.live + 1 } :: cs
      | [] => [] }

/-- The elapsed count of a pending proposal rises by one, from the frame after the one in which it opened (R155). -/
def Consent.count (f : Nat) (c : Consent) : Consent :=
  { c with proposal := c.proposal.map fun pr => if pr.opened = f then pr else { pr with elapsed := pr.elapsed + 1 } }

/-- PLAYOUT: the end of a frame period. Every merge buffer makes its playout, then the output lines take their samples,
then the counts of the frame's end are made (R16, R134). It follows the start of its frame period, once (Assumption 4). The live
time of the head rises here, before the row of a TALK OFF that completes at this playout can be taken; R143 and 9.9 allow that
row to come first (DESIGN CHOICE, Assumption 52). -/
def endFrame (inp : FrameInputs) (s : State) : State :=
  if s.begun ∧ ¬ s.played then
    let t := forEach endPort (indexes 3) s
    let t := { t with mics := inp.mics }
    { t with lines := t.outputs.each (outputLine t),
             talk := (t.talk.countLive).sampleButton inp.buttonPressed,
             consent := t.consent.count t.hubFrame,
             played := true }
  else s

def execPlayout (inp : FrameInputs) (s : State) : Host.Outcome State Fault Refusal :=
  .next (whenRunning (endFrame inp) s)

end Sys2Proof.Machine
end

