-- ==== Sys2Proof/Machine/Consent.lean ====
section
/-! DEFINITION. The hub settings and what a change of each does (R54 to R56), and the consent unit: opening, objection,
withdrawal, the window, and the execution of RATE, RESET and GRANT (chapter 10), with SET_HUB, READ_HUB, PROPOSE, OBJECT,
WITHDRAW, READ_CONSENT and CONSENT_WINDOW_EXPIRED. -/

namespace Sys2Proof.Machine

/-! ### The effects of changed settings (R55, R160) -/

/-- An effect made when one setting differs between the settings before and those in force. -/
def whenChanged {α : Type} [DecidableEq α] (field : Settings → α) (old : Settings) (f : State → State) (s : State) : State :=
  if field old = field s.settings then s else f s

/-- Every QUALIFYING lane tested against the qualify time (R10). That ports are tested in order, and of a port's two lanes A
before B, which decides the active lane when both rise at once, is the model's choice (DESIGN CHOICE, Assumption 36). -/
def qualifyAll (s : State) : State := forEach (fun p s => s |> qualify p .A |> qualify p .B) (indexes 3) s

/-- Every running loss-hold timer tested (R29). -/
def expireHolds (s : State) : State := forEach expireHold (indexes 3) s

/-- Every running phantom transition tested (R105). -/
def endTransitions (s : State) : State := forEach endIfDue (indexes 64) s

/-- What the blocks do after the settings have changed from `old`: HUB SETTING is posted, and each block whose setting
changed acts by its own rule. The consent window is the caller's (R54, R55, R160). -/
def settingEffects (old : Settings) (s : State) : State :=
  if old = s.settings then s
  else
    s |> post (.hubSetting s.settings)
      |> whenChanged Settings.qualifyTime old qualifyAll
      |> whenChanged Settings.lossHold old expireHolds
      |> whenChanged Settings.source old sourceChanged
      |> whenChanged (fun h => (h.rampTime, h.settleTime)) old endTransitions
      |> whenChanged Settings.liveLimit old testHead
      |> whenChanged Settings.priority old resortTalk
      |> whenChanged Settings.stageChannel old recomputeStage

/-- The settings replaced as one change, with its effects. -/
def changeSettings (h : Settings) (s : State) : State := settingEffects s.settings { s with settings := h }

/-! ### Carrying a proposal (R155, R159 to R161) -/

/-- A carried RATE (R159). -/
def carryRate (r : Rate) (pr : Proposal) (s : State) : State :=
  s |> changeRate r |> postSetRate r |> post (.rate r s.rate pr.number pr.proposer)

/-- The report queue emptied and the lost marker cleared (R57, R160, step 1). -/
def Control.emptyReports (k : Control) : Control := { k with reports := [], lost := false }

/-- A carried RESET (R160). -/
def carryReset (pr : Proposal) (s : State) : State :=
  { s with ports := s.ports.each fun u =>
      { u with control := u.control.emptyReports, plan := defaultPlan s.rate } }
    |> forEach resetRecords (indexes 3)
    |> resetOutputs
    |> emptyTalk
    |> changeSettings { Settings.reset with source := s.settings.source }
    |> post (.hubResetDone pr.number pr.proposer)

/-- The channels first..last. -/
def channelRange (first last : Chan) : List Chan := (indexes 64).filter fun c => first ≤ c ∧ c ≤ last

/-- A carried GRANT (R161). -/
def carryGrant (first last : Chan) (pr : Proposal) (s : State) : State :=
  forEach (fun c => changeSetting c fun h => { h with authority := h.authority.put pr.proposer true })
    (channelRange first last) s

/-- A proposal carried: it ends, CONSENT ENDED is posted but for RESET, and the action is executed (R155). -/
def carry (pr : Proposal) (s : State) : State :=
  let t := endProposal pr .carried s
  let ended := post (.consentEnded pr.number pr.action pr.proposer .carried none none) t
  match pr.action with
  | .rate r => carryRate r pr ended
  | .grant f l => carryGrant f l pr ended
  | .reset => carryReset pr t

/-- A pending proposal whose elapsed count meets the window target is carried (R155). -/
def testWindow (s : State) : State :=
  match s.consent.proposal with
  | some pr => if s.settings.consentTarget ≤ pr.elapsed then carry pr s else s
  | none => s

/-- CONSENT_WINDOW_EXPIRED (R155). -/
def execConsentWindowExpired (s : State) : Host.Outcome State Fault Refusal := .next (whenRunning testWindow s)

/-! ### SET HUB and READ HUB (R55, R56) -/

/-- A number clamped into a range, with whether it was. -/
def clampedTo (lo hi n : Nat) : Nat × Bool := (clampNat lo hi n, decide (clampNat lo hi n ≠ n))

/-- A field of SET HUB: the clamped number when its presence bit is set, the setting in force otherwise. -/
def hubField (b : List Byte) (bit lo hi n now : Nat) : Nat × Bool :=
  (whenSet (u16 b 0) bit (clampedTo lo hi n)).getD (now, false)

/-- The priority order of a SET HUB body, where it names each port once (R55, step 1). -/
def orderGiven (b : List Byte) : Option (List Port) :=
  match portOf (u8 b 7), portOf (u8 b 8), portOf (u8 b 9) with
  | some x, some y, some z => if x ≠ y ∧ y ≠ z ∧ x ≠ z then some [x, y, z] else none
  | _, _, _ => none

/-- The clock source a code names (R169). -/
def sourceOf : Nat → Option ClockSource
  | 0 => some .internal
  | 1 => some .wordclock
  | _ => none

/-- The settings a SET HUB asks for, with whether a field was clamped; none where the order or the source is refused
(R55, steps 1 and 2; R169). -/
def settingsGiven (b : List Byte) (h : Settings) : Option (Settings × Bool) :=
  match (whenSet (u16 b 0) 5 (orderGiven b)).getD (some h.priority),
        (whenSet (u16 b 0) 8 (sourceOf (u8 b 13))).getD (some h.source) with
  | some order, some source =>
      let delay := hubField b 0 0 63 (u8 b 2) h.converterDelay
      let ramp := hubField b 1 1 20 (u8 b 3) h.rampTime
      let settle := hubField b 2 2 30 (u8 b 4) h.settleTime
      let window := hubField b 3 1 30 (u8 b 5) h.consentWindow
      let limit := hubField b 4 5 120 (u8 b 6) h.liveLimit
      let hold := hubField b 6 1 20 (u8 b 10) h.lossHold
      let qual := hubField b 7 1 1000 (u16 b 11) h.qualifyTime
      let stage := hubField b 9 0 64 (u8 b 14) (h.stageChannel.elim 0 num)
      some
        ({ converterDelay := delay.1, rampTime := ramp.1, settleTime := settle.1, consentWindow := window.1,
           liveLimit := limit.1, priority := order, lossHold := hold.1, qualifyTime := qual.1, source := source,
           stageChannel := ofNum 64 stage.1 },
         delay.2 || ramp.2 || settle.2 || window.2 || limit.2 || hold.2 || qual.2 || stage.2)
  | _, _ => none

/-- SET HUB (R55). -/
def serveSetHub (m : Message) (s : State) : Served :=
  match settingsGiven m.body s.settings with
  | none => refuse .range s
  | some (h, clamped) =>
      taken (if clamped then .clamped else .done) []
        (s |> changeSettings h |> whenChanged Settings.consentWindow s.settings testWindow)

def execSetHub (p : Port) (s : State) : Host.Outcome State Fault Refusal :=
  .next (whenRunning (serve p kindSetHub serveSetHub) s)

/-- The counts of one port's control channel in READ HUB (R56). -/
def controlCounts (k : Control) : List Byte :=
  [byte k.requests.length, byte k.replies.length, byte k.reports.length] ++ flagByte k.hold ++ flagByte k.lost

/-- READ HUB (R56). -/
def serveReadHub (_ : Message) (s : State) : Served :=
  taken .done
    (settingBytes s.settings ++ [byte s.clock.state.code, byte (rateCode s.rate)] ++
      (indexes 3).flatMap fun q => controlCounts (s.port q).control) s

def execReadHub (p : Port) (s : State) : Host.Outcome State Fault Refusal :=
  .next (whenRunning (serve p kindReadHub serveReadHub) s)

/-! ### PROPOSE (R153, R154) -/

/-- The rate a code names (R169). -/
def rateOf : Nat → Option Rate
  | 0 => some .single
  | 1 => some .double
  | _ => none

/-- The action a PROPOSE body names: none where it is refused with RANGE (R153, step 1). -/
def actionOf (b : List Byte) : Option Action :=
  match u8 b 0 with
  | 1 => (rateOf (u8 b 1)).map .rate
  | 2 => some .reset
  | 3 =>
      match ofNum 64 (u8 b 1), ofNum 64 (u8 b 2) with
      | some f, some l => if f ≤ l then some (.grant f l) else none
      | _, _ => none
  | _ => none

/-- Whether a port is in the authority set of every channel of a GRANT (R153, step 3). -/
def alreadyHeld (p : Port) (a : Action) (s : State) : Bool :=
  match a with
  | .grant f l => (channelRange f l).all fun c => (s.channel c).authority.get p
  | .rate _ | .reset => false

/-- Whether a port has a stake in an action: any port in RATE and RESET, a holder of one of its channels in GRANT (R154). -/
def hasStake (q : Port) (a : Action) (s : State) : Bool :=
  match a with
  | .grant f l => (channelRange f l).any fun c => (s.channel c).authority.get q
  | .rate _ | .reset => true

/-- The voter set formed when a proposal opens (R154). -/
def votersFor (p : Port) (a : Action) (s : State) : PortSet :=
  Bank.tabulate fun q => decide (s.portState q = .attached) && decide (q ≠ p) && hasStake q a s

/-- The number the next proposal takes: 255 is followed by 1 (R152). -/
def nextNumber (last : Nat) : Nat := last % 255 + 1

/-- A proposal recorded (R153, step 4). -/
def openProposal (p : Port) (a : Action) (s : State) : Proposal :=
  { number := nextNumber s.consent.lastNumber, action := a, proposer := p, voters := votersFor p a s, elapsed := 0,
    opened := s.hubFrame }

/-- CONSENT ASKED to each voter (R154). -/
def askVoters (pr : Proposal) (s : State) : State :=
  forEach (fun q s =>
    if pr.voters.get q then
      postTo q (.consentAsked pr.number pr.action pr.proposer pr.voters s.settings.consentWindow) s
    else s) (indexes 3) s

/-- Whether a proposal has no voters. -/
def Proposal.unopposed (pr : Proposal) : Bool := (indexes 3).all fun q => !pr.voters.get q

/-- The result fields of PROPOSE: number, voter set, window and outcome (R153), the window in one byte (DESIGN CHOICE,
Assumption 58). -/
def proposeFields (pr : Proposal) (window outcome : Nat) : List Byte :=
  [byte pr.number] ++ setByte pr.voters ++ [byte window, byte outcome]

/-- PROPOSE (R153). A taken GRANT, which names a range, counts one step done as the other actions do, whatever the length of
its range (DESIGN CHOICE, Assumption 43). -/
def servePropose (p : Port) (m : Message) (s : State) : Served :=
  match actionOf m.body with
  | none => refuse .range s
  | some a =>
      if s.consent.proposal.isSome then refuse .busy s
      else if alreadyHeld p a s then refuse .range s
      else
        let pr := openProposal p a s
        let t := modConsent (fun c => { c with proposal := some pr, lastNumber := pr.number }) s
        if pr.unopposed then taken .done (proposeFields pr s.settings.consentWindow Ending.carried.code) (carry pr t)
        else taken .done (proposeFields pr s.settings.consentWindow 0) (askVoters pr t)

def execPropose (p : Port) (s : State) : Host.Outcome State Fault Refusal :=
  .next (whenRunning (serve p kindPropose (servePropose p)) s)

/-! ### OBJECT and WITHDRAW (R156, R157) -/

/-- OBJECT (R156). -/
def serveObject (p : Port) (m : Message) (s : State) : Served :=
  match s.consent.proposal with
  | none => refuse .tooLate s
  | some pr =>
      if pr.number ≠ u8 m.body 0 then refuse .tooLate s
      else if ¬ pr.voters.get p then refuse .notVoter s
      else
        taken .done []
          (s |> endProposal pr .refused
             |> post (.consentEnded pr.number pr.action pr.proposer .refused (some p) none))

def execObject (p : Port) (s : State) : Host.Outcome State Fault Refusal :=
  .next (whenRunning (takeImmediate p kindObject (serveObject p)) s)

/-- WITHDRAW (R157). -/
def serveWithdraw (p : Port) (m : Message) (s : State) : Served :=
  match s.consent.proposal with
  | none => refuse .tooLate s
  | some pr =>
      if pr.proposer = p ∧ pr.number = u8 m.body 0 then taken .done [] (withdrawProposal pr .request s)
      else refuse .tooLate s

def execWithdraw (p : Port) (s : State) : Host.Outcome State Fault Refusal :=
  .next (whenRunning (serve p kindWithdraw (serveWithdraw p)) s)

/-! ### READ CONSENT (R158) -/

/-- The fields of the pending proposal: zeros and FFFFh for none. -/
def proposalBytes (h : Settings) (p : Port) : Option Proposal → List Byte
  | none => [0, 0, 0, 0, 0, 0] ++ msBytes none ++ flagByte false
  | some pr =>
      [byte pr.number] ++ actionBytes pr.action ++ [byte (num pr.proposer)] ++ setByte pr.voters ++
        msBytes (some (msRoundedUp (h.consentTarget - pr.elapsed))) ++ flagByte (pr.voters.get p)

/-- The fields of the last outcome, number, action, proposer and outcome (R152, R158): zeros for none (Assumption 20). -/
def outcomeBytes : Option LastOutcome → List Byte
  | none => [0, 0, 0, 0]
  | some o => [byte o.number, byte o.action.code, byte (num o.proposer), byte o.ending.code]

/-- READ CONSENT (R158). -/
def serveReadConsent (p : Port) (_ : Message) (s : State) : Served :=
  taken .done
    (proposalBytes s.settings p s.consent.proposal ++ [byte s.settings.consentWindow, byte s.consent.lastNumber] ++
      outcomeBytes s.consent.lastOutcome) s

def execReadConsent (p : Port) (s : State) : Host.Outcome State Fault Refusal :=
  .next (whenRunning (serve p kindReadConsent (serveReadConsent p)) s)

end Sys2Proof.Machine
end

