-- ==== Sys2Proof/Machine/StartUp.lean ====
section
/-! DEFINITION. The retained store, power loss, the reset input and power-on reset (chapter 11), with
QUIET_TIMER_EXPIRED, RETAINED_WRITE_END, POWER_LOSS, RESET_INPUT_ASSERT and POWER_ON_RESET. -/

namespace Sys2Proof.Machine

/-! ### Writing the image (R162, R163) -/

/-- The entries as they stand in the channel table (R163, step 1). -/
def imageEntries (s : State) : Bank 64 RetainedEntry :=
  s.channels.each fun h => { desired := h.desired, phantom := h.phantom, authority := h.authority }

/-- QUIET_TIMER_EXPIRED: the timer has reached 96,000 and stops, and a write starts with the entries as they stand; the
image is failed until its end (R163). -/
def startWriting (s : State) : State :=
  match s.retained.quiet with
  | some e =>
      if Config.quietTarget ≤ e then
        modRetained (fun r =>
          { r with valid := false, quiet := none, write := some { elapsed := 0, entries := imageEntries s } }) s
      else s
  | none => s

def execQuietTimerExpired (s : State) : Host.Outcome State Fault Refusal := .next (whenRunning startWriting s)

/-- RETAINED_WRITE_END: the write has run 1,920 frame periods, and the image is valid with its entries (R163). Up to here the
failed image has kept the entries it had, all of them, and a write cut short leaves those; R163 does not say how far the storing
has come at any moment of the write (DESIGN CHOICE, Assumption 54). -/
def Retained.finish (r : Retained) : Retained :=
  match r.write with
  | some w => if Config.writeLength ≤ w.elapsed then { r with entries := w.entries, valid := true, write := none } else r
  | none => r

def execRetainedWriteEnd (s : State) : Host.Outcome State Fault Refusal :=
  .next (whenRunning (modRetained Retained.finish) s)

/-! ### Power loss and the reset input (R164, R165) -/

/-- The image as a power loss leaves it: a write in progress ends unfinished and the image has failed; the quiet timer
is gone (R164). An image that has failed already, and whose write is still to come, has failed at the next power-on too, though
the table of R164 says of every running quiet timer that the image is valid (DEDUCED, Assumption 56). -/
def Retained.cut (r : Retained) : Retained := { r with valid := r.valid && r.write.isNone, quiet := none, write := none }

/-- POWER_LOSS: the image is cut (R164). That without power there is no transaction either, the supply guard is low and the
output lines carry 0, as R165 has it of an asserted reset input, is DEDUCED (Assumption 10). The reset input stands as it
is. -/
def losePower (s : State) : State :=
  { s with power := .off, supplyGuard := false, lines := Bank.const 32 [0], bus := { s.bus with transaction := none },
           retained := s.retained.cut }

def execPowerLoss (s : State) : Host.Outcome State Fault Refusal := .next (losePower s)

/-- The reset input asserted: no frames, no transaction, the supply guard released, every output at 0, and a power loss
toward the retained store (R164, R165). -/
def holdReset (s : State) : State := { losePower s with power := .held }

/-- An assertion of the reset input that is taken: the pin is asserted and the hub, where it has power, is held (R165).
Without power the pin alone changes; it is looked at as power returns (Assumption 10). -/
def takeReset (s : State) : State :=
  let t := { s with resetInput := true }
  if s.power = .off then t else holdReset t

/-- RESET_INPUT_ASSERT: held for 1 ms or more it is taken; of a shorter pulse either outcome may occur (R165; Assumption
7). -/
def assertReset (pulse : ResetPulse) (s : State) : State :=
  match pulse with
  | .full => takeReset s
  | .short =>
      let t := { s with freeReads := s.freeReads + 1 }
      if Config.shortPulseTaken s.freeReads then takeReset t else t

def execResetInputAssert (pulse : ResetPulse) (s : State) : Host.Outcome State Fault Refusal := .next (assertReset pulse s)

/-! ### Power-on reset (R166) -/

/-- A channel record at power-on, with the entry restored to it (R58, R166, steps 3 and 4). -/
def restoredChannel (e : RetainedEntry) : Channel :=
  { Channel.reset with desired := e.desired, phantom := e.phantom, authority := e.authority }

/-- The entries the channels take: the image's when it is valid, the defaults when it has failed (R166, step 3). -/
def restoredEntries (r : Retained) : Bank 64 RetainedEntry :=
  if r.valid then r.entries else Bank.const 64 RetainedEntry.default

/-- The phantom record of a restored entry: QUEUED where phantom is wanted (R166, step 5). -/
def restoredPhantom (e : RetainedEntry) : PhantomRecord :=
  { state := if e.phantom then .queued else .off, timer := none, fault := false }

/-- A lane unit at power-on with its loss-of-light input as it stands (R14). -/
def Lane.poweredOn (l : Lane) : Lane := { Lane.reset with lossOfLight := l.lossOfLight }

/-- A port at power-on, its loss-of-light inputs as they stand. -/
def PortUnit.poweredOn (u : PortUnit) : PortUnit :=
  { PortUnit.reset with lanes := { a := u.lanes.a.poweredOn, b := u.lanes.b.poweredOn } }

/-- A lane that has light at power-on enters SEEKING at once (R14). -/
def seekIfLit (p : Port) (n : LaneName) (s : State) : State :=
  if (s.lane p n).lossOfLight then s else lightReturned p n s

/-- Every lane that has light. -/
def seekLit (s : State) : State := forEach (fun p s => s |> seekIfLit p .A |> seekIfLit p .B) (indexes 3) s

/-- The state that power-on reset sets (R166): every field at its power-on value, but for the image, the input
pins and what is the model's own. -/
def powerOnState (s : State) : State :=
  let entries := restoredEntries s.retained
  { State.reset with
    pending := s.pending, freeReads := s.freeReads, resetInput := s.resetInput, ports := s.ports.each PortUnit.poweredOn,
    channels := entries.each restoredChannel, phantom := entries.each restoredPhantom,
    startQueue := (indexes 64).filter fun c => (entries.get c).phantom,
    retained := { s.retained.cut with quiet := if s.retained.valid then none else some 0 } }

/-- Power-on reset (R166), a write in progress having ended unfinished. While the reset input is asserted the hub is held
in the state it sets, until the release makes another (R165; Assumption 10). -/
def powerOn (s : State) : State :=
  let t := powerOnState { s with retained := s.retained.cut }
  if s.resetInput then holdReset t else seekLit t

/-- The release of the reset input: with power a power-on reset follows (R165). An input that is not asserted cannot be
released (Assumption 10). -/
def releaseReset (s : State) : State :=
  if s.resetInput then
    let t := { s with resetInput := false }
    if s.power = .off then t else powerOn t
  else s

/-- POWER_ON_RESET: made when the supplies rise within range, and at each release of the reset input (R165). -/
def powerOnReset (cause : ResetCause) (s : State) : State :=
  match cause with
  | .supplies => powerOn s
  | .release => releaseReset s

def execPowerOnReset (cause : ResetCause) (s : State) : Host.Outcome State Fault Refusal := .next (powerOnReset cause s)

end Sys2Proof.Machine
end

