-- ==== Sys2Proof/Machine/Dispatch.lean ====
section
/-! DEFINITION. The dispatch of the commands: one arm for each constructor of Instr, one direct call of its meaning. -/

namespace Sys2Proof.Machine

def exec (i : Instr) (s : State) : Host.Outcome State Fault Refusal :=
  match i with
  | .powerOnReset cause => Sys2Proof.Machine.execPowerOnReset cause s
  | .resetInputAssert pulse => Sys2Proof.Machine.execResetInputAssert pulse s
  | .powerLoss => Sys2Proof.Machine.execPowerLoss s
  | .downstreamFrame => Sys2Proof.Machine.execDownstreamFrame s
  | .lightLost p l => Sys2Proof.Machine.execLightLost p l s
  | .lightReturned p l => Sys2Proof.Machine.execLightReturned p l s
  | .upstreamFrame p l bytes => Sys2Proof.Machine.execUpstreamFrame p l bytes s
  | .badSync p l => Sys2Proof.Machine.execBadSync p l s
  | .acquired p l => Sys2Proof.Machine.execAcquired p l s
  | .syncLost p l => Sys2Proof.Machine.execSyncLost p l s
  | .qualified p l => Sys2Proof.Machine.execQualified p l s
  | .laneDrop p l => Sys2Proof.Machine.execLaneDrop p l s
  | .playout inputs => Sys2Proof.Machine.execPlayout inputs s
  | .playoutMuteEnd p => Sys2Proof.Machine.execPlayoutMuteEnd p s
  | .assemblyTimeout p => Sys2Proof.Machine.execAssemblyTimeout p s
  | .wordclockEdge => Sys2Proof.Machine.execWordclockEdge s
  | .wordclockMissing => Sys2Proof.Machine.execWordclockMissing s
  | .clockLocked => Sys2Proof.Machine.execClockLocked s
  | .clockHoldover => Sys2Proof.Machine.execClockHoldover s
  | .holdExpired p => Sys2Proof.Machine.execHoldExpired p s
  | .attach p => Sys2Proof.Machine.execAttach p s
  | .detach p => Sys2Proof.Machine.execDetach p s
  | .readPort p => Sys2Proof.Machine.execReadPort p s
  | .readLanes p => Sys2Proof.Machine.execReadLanes p s
  | .clearLaneCounters p => Sys2Proof.Machine.execClearLaneCounters p s
  | .setPort p => Sys2Proof.Machine.execSetPort p s
  | .readHub p => Sys2Proof.Machine.execReadHub p s
  | .setHub p => Sys2Proof.Machine.execSetHub p s
  | .unknownRequest p => Sys2Proof.Machine.execUnknownRequest p s
  | .readChannels p => Sys2Proof.Machine.execReadChannels p s
  | .readCards p => Sys2Proof.Machine.execReadCards p s
  | .setGain p => Sys2Proof.Machine.execSetGain p s
  | .stepGain p => Sys2Proof.Machine.execStepGain p s
  | .setPad p => Sys2Proof.Machine.execSetPad p s
  | .setAuthority p => Sys2Proof.Machine.execSetAuthority p s
  | .setPhantom p => Sys2Proof.Machine.execSetPhantom p s
  | .setTrim p => Sys2Proof.Machine.execSetTrim p s
  | .setTracking p => Sys2Proof.Machine.execSetTracking p s
  | .armNotices p => Sys2Proof.Machine.execArmNotices p s
  | .readMeters p => Sys2Proof.Machine.execReadMeters p s
  | .setPlan p => Sys2Proof.Machine.execSetPlan p s
  | .readPlan p => Sys2Proof.Machine.execReadPlan p s
  | .patchOutput p => Sys2Proof.Machine.execPatchOutput p s
  | .setOutput p => Sys2Proof.Machine.execSetOutput p s
  | .readOutputs p => Sys2Proof.Machine.execReadOutputs p s
  | .talkOn p => Sys2Proof.Machine.execTalkOn p s
  | .talkOff p => Sys2Proof.Machine.execTalkOff p s
  | .readTalk p => Sys2Proof.Machine.execReadTalk p s
  | .propose p => Sys2Proof.Machine.execPropose p s
  | .object p => Sys2Proof.Machine.execObject p s
  | .withdraw p => Sys2Proof.Machine.execWithdraw p s
  | .readConsent p => Sys2Proof.Machine.execReadConsent p s
  | .poll => Sys2Proof.Machine.execPoll s
  | .write => Sys2Proof.Machine.execWrite s
  | .phantomOffAll => Sys2Proof.Machine.execPhantomOffAll s
  | .setRate => Sys2Proof.Machine.execSetRate s
  | .broadcastEnd => Sys2Proof.Machine.execBroadcastEnd s
  | .pollReply k data => Sys2Proof.Machine.execPollReply k data s
  | .writeAck k c => Sys2Proof.Machine.execWriteAck k c s
  | .transactionTimeout => Sys2Proof.Machine.execTransactionTimeout s
  | .applicationDue c => Sys2Proof.Machine.execApplicationDue c s
  | .coefficientRampEnd p c => Sys2Proof.Machine.execCoefficientRampEnd p c s
  | .ramped c => Sys2Proof.Machine.execRamped c s
  | .settled c => Sys2Proof.Machine.execSettled c s
  | .discharged c => Sys2Proof.Machine.execDischarged c s
  | .rateMuteEnd => Sys2Proof.Machine.execRateMuteEnd s
  | .delayExpired o => Sys2Proof.Machine.execDelayExpired o s
  | .crossfadeEnd o => Sys2Proof.Machine.execCrossfadeEnd o s
  | .dimRampEnd o => Sys2Proof.Machine.execDimRampEnd o s
  | .talkTimedOut => Sys2Proof.Machine.execTalkTimedOut s
  | .stageTalkTaken => Sys2Proof.Machine.execStageTalkTaken s
  | .consentWindowExpired => Sys2Proof.Machine.execConsentWindowExpired s
  | .quietTimerExpired => Sys2Proof.Machine.execQuietTimerExpired s
  | .retainedWriteEnd => Sys2Proof.Machine.execRetainedWriteEnd s

end Sys2Proof.Machine
end

