-- ==== Sys2Proof/Safety.lean ====
section
/-! DEFINITION. What counts as a safe state: the laws that the manual sets in bold, and the bounds of its tables, block by
block; which parts of the state each command may touch; and the words the statements are written in. -/

namespace Sys2Proof.Machine

/-! ### The laws -/

/-- A window lies in a range that ends at `top` (R112). -/
def Window.within (top : Nat) (w : Window) : Prop := 1 ≤ w.start ∧ w.start ≤ top ∧ 1 ≤ w.stop ∧ w.stop ≤ top

/-- A lane: DARK exactly while its loss-of-light input reads loss; a DARK lane holds no lag and no reference (R4, R5, R6),
and the saturating counts keep their ranges (R12). -/
def Lane.lawful (l : Lane) : Prop :=
  (l.state = .dark ↔ l.lossOfLight = true) ∧ (l.state = .dark → l.lastLag = none ∧ l.reference = none) ∧
    l.errors ≤ 65535 ∧ l.drops ≤ 255 ∧ l.misses ≤ 3 ∧ l.acquisition ≤ 4 ∧ l.badSyncs ≤ 4 ∧
    (l.overBudget = true → l.state = .qualifying)

/-- The hub runs only with its reset input released, and is held only by an asserted one (R165). -/
def PowerLaw (s : State) : Prop :=
  (s.power = .running → s.resetInput = false) ∧ (s.power = .held → s.resetInput = true)

/-- The lane units, while the hub runs. -/
def LaneLaw (s : State) : Prop := s.power = .running → ∀ p, (s.port p).lanes.a.lawful ∧ (s.port p).lanes.b.lawful

/-- An entry of a merge buffer holds only copies of the sequence number it records, in the place of that number (R15). -/
def Entry.lawful (i : Fin 8) (e : Entry) : Prop :=
  match e.seq with
  | none => e.a = none ∧ e.b = none
  | some q => q < 65536 ∧ q % 8 = i.val ∧ (∀ c, e.a = some c → c.echo = q) ∧ (∀ c, e.b = some c → c.echo = q)

/-- The merge buffers: P lies in 1 to 7, the next sequence number and the sequence number of a frame that waits to be
stored below 65,536 (R6, R15, R20, R22). -/
def MergeLaw (s : State) : Prop :=
  ∀ p, 1 ≤ (s.port p).merge.offset ∧ (s.port p).merge.offset ≤ 7 ∧ (s.port p).merge.next < 65536 ∧
    (∀ i, ((s.port p).merge.entries.get i).lawful i) ∧ ∀ n c, (s.lane p n).fourth = some c → c.echo < 65536

/-- The port controller: LINKED or ATTACHED exactly while a lane is UP (R26); the serial is held in ATTACHED and ISOLATED
alone, and the loss hold runs in ISOLATED alone (R25, R29 to R33). -/
def PortLaw (s : State) : Prop :=
  ∀ p, ((s.port p).lanes.anyUp = true ↔ s.portState p = .linked ∨ s.portState p = .attached) ∧
    ((s.port p).record.serial.isSome = true ↔ s.portState p = .attached ∨ s.portState p = .isolated) ∧
    ((s.port p).record.lossHold.isSome = true ↔ s.portState p = .isolated)

/-- A control channel: at most 8 requests, HOLD from 6 on until the queue is empty, at most 8 replies, at most 32
reports, no two of one kind and subject (R43, R48, R52, R53). -/
def Control.lawful (k : Control) : Prop :=
  k.requests.length ≤ 8 ∧ (6 ≤ k.requests.length → k.hold = true) ∧ (k.hold = true → k.requests ≠ []) ∧
    k.replies.length ≤ 8 ∧ k.reports.length ≤ 32 ∧ (k.reports.map Report.key).Nodup

def ControlLaw (s : State) : Prop := ∀ p, (s.port p).control.lawful

/-- The hub settings lie in the ranges of R54. -/
def SettingsLaw (s : State) : Prop :=
  s.settings.converterDelay ≤ 63 ∧ (1 ≤ s.settings.rampTime ∧ s.settings.rampTime ≤ 20) ∧
    (2 ≤ s.settings.settleTime ∧ s.settings.settleTime ≤ 30) ∧
    (1 ≤ s.settings.consentWindow ∧ s.settings.consentWindow ≤ 30) ∧
    (5 ≤ s.settings.liveLimit ∧ s.settings.liveLimit ≤ 120) ∧ s.settings.priority.Perm [0, 1, 2] ∧
    (1 ≤ s.settings.lossHold ∧ s.settings.lossHold ≤ 20) ∧
    (1 ≤ s.settings.qualifyTime ∧ s.settings.qualifyTime ≤ 1000)

def GainPad.inRange (v : GainPad) : Prop := v.gain ≤ 63

/-- Every analog gain lies within 0 to 63 dB (R58): in the channel records, in the transaction in progress, and in the
image, from which power-on takes the desired gains. -/
def GainLaw (s : State) : Prop :=
  (∀ c, (s.channel c).desired.inRange ∧ (∀ v, (s.channel c).switched = some v → v.inRange) ∧
    (∀ v, (s.channel c).applied = some v → v.inRange) ∧ ∀ e ∈ (s.channel c).applications, e.value.inRange) ∧
    (∀ c v ph a f, s.bus.transaction = some (.write c v ph a f) → v.inRange) ∧
    (∀ c, (s.retained.entries.get c).desired.inRange) ∧
    ∀ w, s.retained.write = some w → ∀ c, (w.entries.get c).desired.inRange

/-- Whether a set of ports holds one. -/
def PortSet.inhabited (a : PortSet) : Prop := ∃ p, a.get p = true

/-- Every channel's authority set holds at least one port (R62), and so does every entry of the image. -/
def AuthorityLaw (s : State) : Prop :=
  (∀ c, PortSet.inhabited (s.channel c).authority) ∧ (∀ c, PortSet.inhabited (s.retained.entries.get c).authority) ∧
    ∀ w, s.retained.write = some w → ∀ c, PortSet.inhabited (w.entries.get c).authority

/-- The values of a card's channels are known exactly when the card's are, and no application waits for an unknown one;
a PRESENT card, and a card written to, is a known one (R58, R74, R77). -/
def KnownLaw (s : State) : Prop :=
  (∀ c, ((s.channel c).switched.isSome = true ↔ (s.card (cardOf c)).known = true) ∧
    ((s.channel c).applied.isSome = true ↔ (s.card (cardOf c)).known = true) ∧
    ((s.channel c).cardPhantom.isSome = true ↔ (s.card (cardOf c)).known = true) ∧
    ((s.channel c).applications ≠ [] → (s.card (cardOf c)).known = true)) ∧
    (∀ k, (s.card k).state = .present → (s.card k).known = true) ∧
    ∀ c v ph a f, s.bus.transaction = some (.write c v ph a f) → (s.card (cardOf c)).known = true

/-- The write queue holds a channel at most once, and at most one broadcast of each kind waits (R70, R76). -/
def BusLaw (s : State) : Prop :=
  s.bus.writeQueue.Nodup ∧ (s.bus.broadcasts.filter Broadcast.isSetRate).length ≤ 1 ∧
    (s.bus.broadcasts.filter fun b => !b.isSetRate).length ≤ 1

/-- For every port and channel, the trim lies within ±24.0 dB and the compensation in force within ±40.0 dB (R80), and the
limited flag says that the compensation was limited (R82). -/
def CompensationLaw (s : State) : Prop :=
  ∀ p c, (-240 ≤ (s.desk p c).trim ∧ (s.desk p c).trim ≤ 240) ∧ (-400 ≤ (s.desk p c).comp ∧ (s.desk p c).comp ≤ 400) ∧
    ((s.desk p c).limited = true ↔ (s.desk p c).comp ≠ (s.desk p c).wanted)

/-- The start queue holds each channel at most once, and a channel is in it exactly when it is QUEUED (R102). -/
def StartQueueLaw (s : State) : Prop := s.startQueue.Nodup ∧ ∀ c, c ∈ s.startQueue ↔ (s.phantomOf c).state = .queued

/-- No start is left to make: with fewer than four channels in RAMP_UP, no queued channel's card is PRESENT (R103). -/
def StartsLaw (s : State) : Prop :=
  s.power = .running → rampingCount s < 4 → ∀ c, (s.phantomOf c).state = .queued → s.cardPresent c = false

/-- At most four channels are in RAMP_UP, and the supply guard is asserted exactly when at least one is (R109). -/
def SupplyGuardLaw (s : State) : Prop :=
  s.power = .running → rampingCount s ≤ 4 ∧ (s.supplyGuard = true ↔ 0 < rampingCount s)

/-- Every slot plan lies in its ranges and fits the rate in force (R112, R114). -/
def PlanLaw (s : State) : Prop :=
  ∀ p, (∀ w, (s.port p).plan.mic = some w → w.within 64) ∧ (∀ w, (s.port p).plan.ret = some w → w.within 96) ∧
    (s.port p).plan.total ≤ (match s.rate with | .single => 95 | .double => 47)

/-- An output is NORMAL exactly while it has no source or its source port is ATTACHED; its delay timer runs in WAITING
alone (R129 to R131, R135, R139); and its values lie in the ranges of R127. -/
def OutputLaw (s : State) : Prop :=
  ∀ o, ((s.output o).state = .normal ↔ ∀ src, (s.output o).source = some src → s.portState src.port = .attached) ∧
    ((s.output o).timer.isSome = true ↔ (s.output o).state = .waiting) ∧
    (-400 ≤ (s.output o).fallbackLevel ∧ (s.output o).fallbackLevel ≤ 0) ∧ (s.output o).fallbackDelay ≤ 50 ∧
    ∀ t, (s.output o).dim = .level t → -400 ≤ t ∧ t ≤ 0

/-- The talk claim list holds at most one claim per port, no claim of a port that is not ATTACHED, and stands in priority
order (R141). -/
def TalkLaw (s : State) : Prop :=
  (s.talk.claims.map Claim.port).Nodup ∧ (∀ c ∈ s.talk.claims, s.portState c.port = .attached) ∧
    s.talk.claims.Pairwise fun c d => rank s.settings.priority c.port ≤ rank s.settings.priority d.port

/-- Stage talk is active exactly while the button is taken as pressed and a channel is set (R148). -/
def StageLaw (s : State) : Prop :=
  s.talk.active = true ↔ s.talk.taken = true ∧ s.settings.stageChannel.isSome = true

/-- A pending proposal: its proposer is ATTACHED and no voter, its voters are ATTACHED, and its number is the last one
given (R152, R154, R157). -/
def ConsentLaw (s : State) : Prop :=
  s.consent.lastNumber ≤ 255 ∧
    ∀ pr, s.consent.proposal = some pr →
      s.portState pr.proposer = .attached ∧ pr.voters.get pr.proposer = false ∧ pr.number = s.consent.lastNumber ∧
        1 ≤ pr.number ∧ ∀ q, pr.voters.get q = true → s.portState q = .attached

/-- A safe state: all the laws. -/
def Safe (s : State) : Prop :=
  PowerLaw s ∧ LaneLaw s ∧ MergeLaw s ∧ PortLaw s ∧ ControlLaw s ∧ SettingsLaw s ∧ GainLaw s ∧ AuthorityLaw s ∧ KnownLaw s ∧ BusLaw s ∧
    CompensationLaw s ∧ StartQueueLaw s ∧ StartsLaw s ∧ SupplyGuardLaw s ∧ PlanLaw s ∧ OutputLaw s ∧ TalkLaw s ∧ StageLaw s ∧
    ConsentLaw s

/-! ### What each command may touch -/

/-- The parts of the state. -/
inductive Part where
  | pending
  | power
  | resetInput
  | hubFrame
  | begun
  | played
  | freeReads
  | clock
  | settings
  | ports
  | channels
  | cards
  | bus
  | desks
  | phantom
  | startQueue
  | supplyGuard
  | rate
  | rateMute
  | outputs
  | lines
  | talk
  | consent
  | retained
  | mics
  deriving DecidableEq, Repr

/-- Two states hold the same in one part. -/
def Part.same (x : Part) (s t : State) : Prop :=
  match x with
  | .pending => t.pending = s.pending
  | .power => t.power = s.power
  | .resetInput => t.resetInput = s.resetInput
  | .hubFrame => t.hubFrame = s.hubFrame
  | .begun => t.begun = s.begun
  | .played => t.played = s.played
  | .freeReads => t.freeReads = s.freeReads
  | .clock => t.clock = s.clock
  | .settings => t.settings = s.settings
  | .ports => t.ports = s.ports
  | .channels => t.channels = s.channels
  | .cards => t.cards = s.cards
  | .bus => t.bus = s.bus
  | .desks => t.desks = s.desks
  | .phantom => t.phantom = s.phantom
  | .startQueue => t.startQueue = s.startQueue
  | .supplyGuard => t.supplyGuard = s.supplyGuard
  | .rate => t.rate = s.rate
  | .rateMute => t.rateMute = s.rateMute
  | .outputs => t.outputs = s.outputs
  | .lines => t.lines = s.lines
  | .talk => t.talk = s.talk
  | .consent => t.consent = s.consent
  | .retained => t.retained = s.retained
  | .mics => t.mics = s.mics

/-- Two states hold the same in every part but those named. -/
def Agree (touched : List Part) (s t : State) : Prop := ∀ x, x ∉ touched → x.same s t

/-- What a lane that enters or leaves UP may reach: the ports, talk, consent and the outputs (R34, R35). -/
def touchedByLanes : List Part := [.ports, .talk, .consent, .outputs]

/-- What the phantom sequencer may reach (R102 to R109). -/
def touchedByPhantom : List Part := [.ports, .phantom, .startQueue, .supplyGuard, .bus]

/-- What a carried proposal may reach (R159 to R161). -/
def touchedByCarry : List Part :=
  [.ports, .talk, .consent, .outputs, .phantom, .startQueue, .supplyGuard, .bus, .settings, .rate, .rateMute, .desks,
    .channels, .retained]

/-- The parts of the state that a command may touch; every other part stays as it is. -/
def footprint : Instr → List Part
  | .powerOnReset _ =>
      [.power, .resetInput, .hubFrame, .begun, .played, .clock, .settings, .ports, .channels, .cards, .bus, .desks, .phantom,
        .startQueue, .supplyGuard, .rate, .rateMute, .outputs, .lines, .talk, .consent, .retained, .mics]
  | .resetInputAssert _ => [.power, .resetInput, .freeReads, .bus, .supplyGuard, .lines, .retained]
  | .powerLoss => [.power, .bus, .supplyGuard, .lines, .retained]
  | .downstreamFrame => [.hubFrame, .begun, .played, .ports, .phantom, .outputs, .retained, .desks, .rateMute]
  | .lightLost _ _ | .lightReturned _ _ | .acquired _ _ | .syncLost _ _ | .qualified _ _ | .laneDrop _ _ => touchedByLanes
  | .upstreamFrame _ _ _ | .badSync _ _ | .playoutMuteEnd _ | .assemblyTimeout _ | .holdExpired _ => [.ports]
  | .playout _ => [.ports, .freeReads, .mics, .lines, .talk, .consent, .played]
  | .wordclockEdge | .wordclockMissing => [.clock]
  | .clockLocked | .clockHoldover => [.clock, .ports]
  | .attach _ => .desks :: touchedByLanes
  | .detach _ | .setPort _ => touchedByLanes
  | .readPort _ | .readLanes _ | .clearLaneCounters _ | .readHub _ | .unknownRequest _ | .readChannels _ | .readCards _
  | .setPlan _ | .readPlan _ | .readOutputs _ | .readTalk _ | .readConsent _ => [.ports]
  | .setHub _ => .clock :: touchedByCarry
  | .setGain _ | .stepGain _ | .setPad _ => [.ports, .channels, .retained, .bus]
  | .setAuthority _ => [.ports, .channels, .retained]
  | .setPhantom _ => .channels :: .retained :: touchedByPhantom
  | .setTrim _ | .setTracking _ | .armNotices _ | .readMeters _ => [.ports, .desks]
  | .patchOutput _ | .setOutput _ => [.ports, .outputs]
  | .talkOn _ | .talkOff _ => [.ports, .talk, .outputs]
  | .propose _ | .consentWindowExpired => touchedByCarry
  | .object _ | .withdraw _ => [.ports, .consent]
  | .poll | .write | .phantomOffAll | .setRate | .broadcastEnd => [.bus]
  | .pollReply _ _ => .cards :: .channels :: .retained :: .desks :: .freeReads :: touchedByPhantom
  | .writeAck _ _ => [.bus, .cards, .channels, .phantom]
  | .transactionTimeout => .cards :: touchedByPhantom
  | .applicationDue _ => [.ports, .channels, .desks]
  | .coefficientRampEnd _ _ => [.desks]
  | .ramped _ | .settled _ | .discharged _ => touchedByPhantom
  | .rateMuteEnd => [.rateMute]
  | .delayExpired _ => [.ports, .outputs]
  | .crossfadeEnd _ | .dimRampEnd _ => [.outputs]
  | .talkTimedOut => [.ports, .talk, .outputs]
  | .stageTalkTaken => [.ports, .talk]
  | .quietTimerExpired | .retainedWriteEnd => [.retained]

/-! ### What each command may touch inside the ports, and among numbered records -/

/-- The parts of one port's unit. -/
inductive PortPart where
  | record
  | laneA
  | laneB
  | merge
  | assembly
  | requests
  | arrived
  | replies
  | reports
  | outbound
  | plan
  | sent
  deriving DecidableEq, Repr

/-- Two units of a port hold the same in one part. HOLD goes with the requests, the lost marker with the reports. -/
def PortPart.same (x : PortPart) (u v : PortUnit) : Prop :=
  match x with
  | .record => v.record = u.record
  | .laneA => v.lanes.a = u.lanes.a
  | .laneB => v.lanes.b = u.lanes.b
  | .merge => v.merge = u.merge
  | .assembly => v.control.assembly = u.control.assembly
  | .requests => v.control.requests = u.control.requests ∧ v.control.hold = u.control.hold
  | .arrived => v.control.arrived = u.control.arrived
  | .replies => v.control.replies = u.control.replies
  | .reports => v.control.reports = u.control.reports ∧ v.control.lost = u.control.lost
  | .outbound => v.control.outbound = u.control.outbound
  | .plan => v.plan = u.plan
  | .sent => v.sent = u.sent

/-- The part that is one lane. -/
def lanePart : LaneName → PortPart
  | .A => .laneA
  | .B => .laneB

/-- What an entry to VACANT may reach in the port that enters it (R30). -/
def vacating : List PortPart := [.record, .assembly, .requests, .arrived, .replies, .reports]

/-- What a carried proposal, or a changed setting, may reach in any port (R55, R159 to R161). -/
def carrying : List PortPart := .plan :: .laneA :: .laneB :: .merge :: vacating

/-- The parts of port q's unit that a command may touch; `own` is what it may touch in its own port, and every other
port can only be given reports. -/
def atPort (p q : Port) (own : List PortPart) : List PortPart := if p = q then .reports :: own else [.reports]

/-- The parts of a port's unit that a command may touch. -/
def portFootprint (c : Instr) (q : Port) : List PortPart :=
  match c with
  | .powerOnReset _ =>
      [.record, .laneA, .laneB, .merge, .assembly, .requests, .arrived, .replies, .reports, .outbound, .plan, .sent]
  | .resetInputAssert _ | .powerLoss | .wordclockEdge | .wordclockMissing | .poll | .write | .phantomOffAll | .setRate
  | .broadcastEnd | .writeAck _ _ | .coefficientRampEnd _ _ | .rateMuteEnd | .crossfadeEnd _ | .dimRampEnd _
  | .quietTimerExpired | .retainedWriteEnd => []
  | .downstreamFrame => [.record, .replies, .reports, .outbound, .sent]
  | .lightLost p n | .lightReturned p n | .acquired p n | .syncLost p n | .qualified p n | .laneDrop p n =>
      atPort p q (lanePart n :: .merge :: vacating)
  | .upstreamFrame p n _ => atPort p q [lanePart n, .merge]
  | .badSync p n => if p = q then [lanePart n] else []
  | .playout _ => [.laneA, .laneB, .merge, .assembly, .requests, .arrived, .reports]
  | .playoutMuteEnd p => if p = q then [.merge] else []
  | .assemblyTimeout p => if p = q then [.assembly, .reports] else []
  | .clockLocked | .clockHoldover | .pollReply _ _ | .transactionTimeout | .applicationDue _ | .ramped _ | .settled _
  | .discharged _ | .delayExpired _ | .talkTimedOut | .stageTalkTaken => [.reports]
  | .holdExpired p => atPort p q vacating
  | .attach p => atPort p q [.record, .requests, .replies]
  | .detach p => atPort p q vacating
  | .readPort p | .readLanes p | .readHub p | .readChannels p | .readCards p | .readMeters p | .readPlan p
  | .readOutputs p | .readTalk p | .readConsent p | .unknownRequest p => if p = q then [.requests, .replies] else []
  | .setPlan p => if p = q then [.plan, .requests, .replies] else []
  | .setTrim p | .setTracking p | .armNotices p => if p = q then [.reports, .requests, .replies] else []
  | .clearLaneCounters p => if p = q then [.laneA, .laneB, .requests, .replies] else [.laneA, .laneB]
  | .setPort _ => .laneA :: .laneB :: .merge :: vacating
  | .setHub _ | .propose _ | .consentWindowExpired => carrying
  | .setGain p | .stepGain p | .setPad p | .setAuthority p | .setPhantom p | .patchOutput p | .setOutput p | .talkOn p
  | .withdraw p => atPort p q [.requests, .replies]
  | .talkOff p | .object p => atPort p q [.arrived, .replies]

/-- Whether a command may touch the record of channel c. -/
def touchesChannel (i : Instr) (c : Chan) : Bool :=
  match i with
  | .pollReply k _ => cardOf c = k
  | .writeAck _ d | .applicationDue d => c = d
  | _ => (footprint i).contains .channels

/-- Whether a command may touch port p's record of channel c. -/
def touchesDesk (i : Instr) (p : Port) (c : Chan) : Bool :=
  match i with
  | .attach q | .setTrim q | .setTracking q | .armNotices q | .readMeters q => p = q
  | .pollReply k _ => cardOf c = k
  | .applicationDue d => c = d
  | .coefficientRampEnd q d => p = q && c = d
  | _ => (footprint i).contains .desks

/-- Whether a command may touch the record of output o. -/
def touchesOutput (i : Instr) (o : OutNo) : Bool :=
  match i with
  | .delayExpired x | .crossfadeEnd x | .dimRampEnd x => o = x
  | _ => (footprint i).contains .outputs

/-! ### Words of the statements -/

/-- The request at the head of a port's queue is m, of the kind given, and the reply queue has a free place (R44). -/
def Waiting (p : Port) (kind : Byte) (m : Message) (s : State) : Prop :=
  s.power = .running ∧ (s.port p).control.requests.head? = some m ∧ m.kind = kind ∧ (s.port p).control.replies.length < 8

/-- The request at the head has the length of its kind as well, and is available in the port's state (R44, R45). -/
def Accepted (p : Port) (kind : Byte) (m : Message) (s : State) : Prop :=
  Waiting p kind m s ∧ bodyLengthRight kind m.body = true ∧ available kind (s.portState p) = true

/-- The state in which the request at the head of port p's queue has gone and its reply has joined the reply queue; HOLD
clears when the request queue has become empty (R43, R44, R47, R48). -/
def answered (p : Port) (m : Message) (st : Status) (steps : Nat) (result : List Byte) (s : State) : State :=
  modControl p (fun k =>
    { k with requests := k.requests.drop 1, hold := if k.requests.drop 1 = [] then false else k.hold,
             replies := k.replies ++ [{ kind := m.kind, tag := m.tag, status := st, steps := steps, result := result }] }) s

/-- The oldest immediate request of port p is m, of the kind given. -/
def Arrived (p : Port) (kind : Byte) (m : Message) (rest : List Message) (s : State) : Prop :=
  s.power = .running ∧ (s.port p).control.arrived = m :: rest ∧ m.kind = kind

/-- The state in which an immediate request has been taken and its reply has joined the reply queue (R46, R48). -/
def answeredNow (p : Port) (m : Message) (st : Status) (steps : Nat) (result : List Byte) (s : State) : State :=
  modControl p (fun k =>
    { k with replies := k.replies ++ [{ kind := m.kind, tag := m.tag, status := st, steps := steps, result := result }] }) s

/-- The state in which the oldest immediate request of a port has been taken. -/
def taking (p : Port) (rest : List Message) (s : State) : State := modControl p (fun k => { k with arrived := rest }) s

/-- A report has reached a port's report queue, or was dropped there with the lost marker set (R53). -/
def Heard (r : Report) (q : Port) (s : State) : Prop :=
  r ∈ (s.port q).control.reports ∨ (s.port q).control.lost = true

/-- Every port whose desk is present has heard a report (R37, R50). -/
def Posted (r : Report) (t : State) : Prop := ∀ q, (t.portState q).present = true → Heard r q t

/-- The PORT STATE report of a port as it stands (R37). -/
def portReport (p : Port) (why : PortReason) (t : State) : Report :=
  .portState p (t.portState p) why (t.port p).record.serial (t.port p).record.name (t.port p).merge.offset
    (t.port p).merge.preferred (t.port p).merge.active

/-- A copy has been stored as a lane's in the entry of its sequence number: the other lane's copy of that number stands
beside it, and the other entries are as they were (R15). -/
def Stored (p : Port) (n : LaneName) (c : Copy) (s t : State) : Prop :=
  (t.port p).merge = { (s.port p).merge with entries := (t.port p).merge.entries } ∧
    ∀ i : Fin 8, (t.port p).merge.entries.get i =
      if i = Fin.ofNat 8 c.echo then
        { seq := some c.echo,
          a := if n = .A then some c
            else if ((s.port p).merge.entries.get i).seq = some c.echo then ((s.port p).merge.entries.get i).a else none,
          b := if n = .B then some c
            else if ((s.port p).merge.entries.get i).seq = some c.echo then ((s.port p).merge.entries.get i).b else none }
      else (s.port p).merge.entries.get i

/-- A port's unit with the read position moved on by k sequence numbers, whose entries are cleared unplayed (R21, step 1). -/
def PortUnit.movedOn (k : Nat) (u : PortUnit) : PortUnit :=
  { u with merge := { u.merge with
      next := (u.merge.next + k) % 65536,
      entries := u.merge.entries.each fun e =>
        if e.seq.any (fun x => decide ((x + 65536 - u.merge.next % 65536) % 65536 < k)) then { seq := none, a := none, b := none }
        else e } }

/-- The CLIP notices of the frame that a port is sent in this state, in window order: one for each armed channel of the mic
window with a CLIPPED slot, about the first such slot; none to a VACANT port (R50, R123). -/
def clipReports (s : State) (p : Port) : List Report :=
  (windowItems 64 (s.port p).plan.mic).filterMap fun n =>
    if (s.desk p (chanNumbered n)).clipArmed ∧ s.portState p ≠ .vacant then
      ((micSlots s p (chanNumbered n)).find? fun x => decide (x.cond = .clipped)).map fun x =>
        .clip (chanNumbered n) s.hubFrame (decide (x.sample < 0)) (s.desk p (chanNumbered n)).comp
          (s.channel (chanNumbered n)).net
    else none

/-- The request kinds that are queued, each with the command that serves it (R41, R169). -/
def queuedKinds : List (Byte × (Port → Instr)) :=
  [(kindAttach, .attach), (kindDetach, .detach), (kindReadPort, .readPort), (kindReadLanes, .readLanes),
    (kindClearLaneCounters, .clearLaneCounters), (kindSetPort, .setPort), (kindReadHub, .readHub), (kindSetHub, .setHub),
    (kindReadChannels, .readChannels), (kindReadCards, .readCards), (kindSetGain, .setGain), (kindStepGain, .stepGain),
    (kindSetPad, .setPad), (kindSetPhantom, .setPhantom), (kindSetAuthority, .setAuthority), (kindSetTrim, .setTrim),
    (kindSetTracking, .setTracking), (kindArmNotices, .armNotices), (kindReadMeters, .readMeters), (kindSetPlan, .setPlan),
    (kindReadPlan, .readPlan), (kindPatchOutput, .patchOutput), (kindSetOutput, .setOutput),
    (kindReadOutputs, .readOutputs), (kindTalkOn, .talkOn), (kindReadTalk, .readTalk), (kindPropose, .propose),
    (kindWithdraw, .withdraw), (kindReadConsent, .readConsent)]

/-- The immediate request kinds, each with the command that takes it (R41, R169). -/
def immediateKinds : List (Byte × (Port → Instr)) := [(kindTalkOff, .talkOff), (kindObject, .object)]

/-- The commands that a lane's own unit makes, for one lane (chapter 1). -/
def laneCommands (p : Port) (n : LaneName) : List Instr :=
  [.lightLost p n, .lightReturned p n, .acquired p n, .syncLost p n, .qualified p n, .laneDrop p n]

/-- Whether the condition of a threshold event holds: the count has met its target, the reply is awaited, or the bus is
free for that transaction. Commands that are no such events are always due. -/
def due (c : Instr) (s : State) : Bool :=
  match c with
  | .downstreamFrame => !s.begun || s.played
  | .playout _ => s.begun && !s.played
  | .acquired p n =>
      decide ((s.lane p n).state = .seeking) && decide (4 ≤ (s.lane p n).acquisition) && (s.lane p n).fourth.isSome
  | .syncLost p n => decide ((s.lane p n).state = .qualifying) && decide (4 ≤ (s.lane p n).badSyncs)
  | .qualified p n =>
      decide ((s.lane p n).state = .qualifying) && decide (480 * s.settings.qualifyTime ≤ (s.lane p n).qualify)
  | .laneDrop p n => decide ((s.lane p n).state = .up) && decide (3 ≤ (s.lane p n).misses)
  | .playoutMuteEnd p => decide ((s.port p).merge.mute = some 0)
  | .assemblyTimeout p => (s.port p).control.assembly.any fun a => decide (64 ≤ a.idle)
  | .clockLocked => decide (s.clock.state = .holdover) && decide (48000 ≤ s.clock.requalify)
  | .clockHoldover => decide (s.clock.state = .locked) && decide (4 ≤ s.clock.missing)
  | .holdExpired p =>
      decide (s.portState p = .isolated) && (s.port p).record.lossHold.any fun e => decide (24000 * s.settings.lossHold ≤ e)
  | .poll => s.bus.transaction.isNone && (match busChoice s with | .poll _ => true | _ => false)
  | .write => s.bus.transaction.isNone && (match busChoice s with | .write _ => true | _ => false)
  | .phantomOffAll => s.bus.transaction.isNone && decide (busChoice s = .broadcast .phantomOffAll)
  | .setRate =>
      s.bus.transaction.isNone && (match busChoice s with | .broadcast (.setRate _) => true | _ => false)
  | .broadcastEnd =>
      match s.bus.transaction with
      | some (.broadcast _ start) => decide (start + 4 ≤ s.hubFrame)
      | _ => false
  | .pollReply k _ =>
      match s.bus.transaction with
      | some (.poll j start) => decide (j = k) && decide (start + 24 ≤ s.hubFrame) && decide (s.hubFrame ≤ start + 96)
      | _ => false
  | .writeAck k c =>
      match s.bus.transaction with
      | some (.write d _ _ _ start) =>
          decide (d = c) && decide (cardOf c = k) && decide (start + 12 ≤ s.hubFrame) && decide (s.hubFrame ≤ start + 96)
      | _ => false
  | .transactionTimeout =>
      match s.bus.transaction with
      | some (.poll _ start) => decide (start + 96 ≤ s.hubFrame)
      | some (.write _ _ _ _ start) => decide (start + 96 ≤ s.hubFrame)
      | _ => false
  | .applicationDue c => (s.channel c).applications.head?.any fun e => decide (e.due ≤ s.hubFrame)
  | .coefficientRampEnd p c => (s.desk p c).ramp.any fun x => decide (32 ≤ x.steps)
  | .ramped c =>
      decide ((s.phantomOf c).state = .rampUp) && (s.phantomOf c).timer.any fun e => decide (4800 * s.settings.rampTime ≤ e)
  | .settled c =>
      decide ((s.phantomOf c).state = .settleUp) &&
        (s.phantomOf c).timer.any fun e => decide (4800 * s.settings.settleTime ≤ e)
  | .discharged c =>
      decide ((s.phantomOf c).state = .rampDown) &&
        (s.phantomOf c).timer.any fun e => decide (4800 * (s.settings.rampTime + s.settings.settleTime) ≤ e)
  | .rateMuteEnd => decide (s.rateMute = some 0)
  | .delayExpired o =>
      decide ((s.output o).state = .waiting) &&
        (s.output o).timer.any fun e => decide (4800 * (s.output o).fallbackDelay ≤ e)
  | .crossfadeEnd o => (s.output o).crossfade.any fun x => decide (480 ≤ x.steps)
  | .dimRampEnd o => (s.output o).dimRamp.any fun x => decide (32 ≤ x.steps)
  | .talkTimedOut => s.talk.claims.head?.any fun c => decide (48000 * s.settings.liveLimit ≤ c.live)
  | .stageTalkTaken => decide (960 ≤ s.talk.steady)
  | .consentWindowExpired => s.consent.proposal.any fun pr => decide (48000 * s.settings.consentWindow ≤ pr.elapsed)
  | .quietTimerExpired => s.retained.quiet.any fun e => decide (96000 ≤ e)
  | .retainedWriteEnd => s.retained.write.any fun w => decide (1920 ≤ w.elapsed)
  | _ => true

/-- How long ago a card's last POLL ended (R71). That a card never polled counts as longer ago than any other is DEDUCED
(Assumption 17). -/
def pollAge (s : State) (k : Card) : Nat := (s.card k).lastPoll.elim (s.hubFrame + 1) fun e => s.hubFrame - e

/-- Whether a card is overdue for a POLL (R71, case 2); one never polled always is (Assumption 17). -/
def overdue (s : State) (k : Card) : Bool := (s.card k).lastPoll = none || decide (4800 < pollAge s k)

/-- A gain or pad request on a range, or STEP GAIN (R61, R63, R67): the channels up to the first without authority take the
new value, each that changes with its desired-by, its report and its place in the write queue; the reply gives how many
were taken, the cards that wait, and how many saturated. -/
def TakesTheRange (p : Port) (m : Message) (cs : List Chan) (f : GainPad → GainPad) (clamped : Bool) (sat : Chan → Bool)
    (s : State) (o : Host.Outcome State Fault Refusal) : Prop :=
  let taken := cs.takeWhile fun c => (s.channel c).authority.get p
  let waiting := taken.filter fun c => !s.cardPresent c
  ∃ u, o = .next (answered p m
      (if taken.length < cs.length then .noAuthority
        else if clamped || taken.any sat then .clamped
        else if waiting = [] then .done else .deferred)
      taken.length
      (setByte (Bank.tabulate fun k => waiting.any fun c => decide (cardOf c = k)) ++ [byte (taken.filter sat).length]) u) ∧
    ∀ c, (u.channel c = if c ∈ taken ∧ f (s.channel c).desired ≠ (s.channel c).desired then
        { s.channel c with desired := f (s.channel c).desired, desiredBy := some p } else s.channel c) ∧
      (c ∈ taken → f (s.channel c).desired ≠ (s.channel c).desired → c ∈ u.bus.writeQueue ∧ u.retained.quiet = some 0 ∧
        Posted (.settingChanged c (f (s.channel c).desired) (s.channel c).phantom (some p) (s.channel c).authority) u)

/-- What the limit of one record, computed by an event that leads from s to t, does (R82, R83): the limited flag says whether
the compensation was limited; a limited record that was armed posts TRACK LIMITED to its port, unless that is VACANT, and is
then disarmed; in every other case limit-armed stands. -/
def LimitTold (p : Port) (c : Chan) (s t : State) : Prop :=
  ((t.desk p c).limited = true ↔ (t.desk p c).comp ≠ (t.desk p c).wanted) ∧
    ((t.desk p c).limited = true → (s.desk p c).limitArmed = true → s.portState p ≠ .vacant →
      (t.desk p c).limitArmed = false ∧
        Heard (.trackLimited c (t.desk p c).mode (t.desk p c).wanted (t.desk p c).comp (t.desk p c).anchor (t.channel c).net)
          p t) ∧
    ((t.desk p c).limited = false ∨ (s.desk p c).limitArmed = false ∨ s.portState p = .vacant →
      (t.desk p c).limitArmed = (s.desk p c).limitArmed)

/-- The ramp of a record that a ramping event gives the target k (R88, R89): toward the target it has, it goes on as it was;
toward another it starts from the coefficient in force, at step 0. The coefficient in force does not move by itself. Where a
first step still waits, its value takes the place of the ramp's target (the model's choice, Assumption 51). -/
def RampsTo (k : Nat) (r r' : DeskRecord) : Prop :=
  r'.coefficient = r.coefficient ∧ (r.goal = k → r'.ramp = r.ramp ∧ r'.stepNext = r.stepNext) ∧
    (r.goal ≠ k → r'.ramp = some { start := r.coefficient, target := k, steps := 0 } ∧ r'.stepNext = none)

/-- PHANTOM STATE of a channel has been posted with a state and a reason (R111): it carries the desired and the card phantom
as they stand, and a position in the start queue exactly when the state is QUEUED. The position and the number of channels in
RAMP_UP are those of the moment of posting. -/
def PhantomPosted (c : Chan) (st : PhantomState) (why : PhantomReason) (t : State) : Prop :=
  ∃ (pos : Option Nat) (ramping : Nat), (pos.isSome = true ↔ st = .queued) ∧
    Posted (.phantomState c st why (t.channel c).phantom (t.channel c).cardPhantom pos ramping) t

/-- The channels of a range up to, and not including, the first one whose authority set lacks the port (R61, R63). -/
def authorised (p : Port) (s : State) (cs : List Chan) : List Chan := cs.takeWhile fun c => (s.channel c).authority.get p

end Sys2Proof.Machine
end

