-- ==== Sys2Proof/Certificates/Slice0/Obligations.lean ====
section
/-! DEFINITION. The statements for the provers. Each says what a command, or every command, does to the state; the rule of
the manual it rests on stands in its docstring. -/

section
open Sys2Proof Sys2Proof.Machine

/-! ### The machine as a whole -/

/-- A step takes the command at the front of the queue and makes its effect on the state with the rest of the queue; with
no command waiting the block idles (the model's choice, Assumption 4). -/
def Obligations.StepTakesTheFrontCommand : Prop :=
  (∀ (c : Instr) (rest : List Instr) (s : State), s.pending = c :: rest → step s = exec c { s with pending := rest }) ∧
    ∀ s : State, s.pending = [] → step s = .next s

/-- Every command runs to a next state, and changes nothing outside its footprint; the queue of waiting commands is in no
footprint. -/
def Obligations.CommandsRunWithinTheirFootprint : Prop :=
  ∀ (c : Instr) (s : State), ∃ t, exec c s = .next t ∧ Agree (footprint c) s t

/-- Finer than the parts of the state: in the units of the ports, among the channel records, the desk-channel records and
the outputs, a command changes nothing but what it may touch there. A port that a command does not act on is at most given
reports (R50). -/
def Obligations.CommandsLeaveOtherRecordsAlone : Prop :=
  ∀ (c : Instr) (s t : State), exec c s = .next t →
    (∀ (q : Port) (x : PortPart), x ∉ portFootprint c q → x.same (s.port q) (t.port q)) ∧
      (∀ d, touchesChannel c d = false → t.channel d = s.channel d) ∧
      (∀ p d, touchesDesk c p d = false → t.desk p d = s.desk p d) ∧
      ∀ o, touchesOutput c o = false → t.output o = s.output o

/-- With the reset input asserted or without power the hub stands still (R164, R165): but for the three commands of reset
and power, and the loss-of-light pins, no command changes anything. That the pins are followed meanwhile, and the rest is
taken as no effect, is the model's choice (Assumption 2). -/
def Obligations.StoppedHubStandsStill : Prop :=
  ∀ (c : Instr) (s : State), s.power ≠ .running →
    (∀ x, c ≠ .powerOnReset x) → (∀ x, c ≠ .resetInputAssert x) → c ≠ .powerLoss →
      exec c s = .next (match c with
        | .lightLost p n => setLossPin p n true s
        | .lightReturned p n => setLossPin p n false s
        | _ => s)

/-- A threshold command taken before its count has met its target, a reply that is not awaited or comes before its time, a
transaction the bus is not free for, and a DOWNSTREAM_FRAME or PLAYOUT out of turn change nothing. Each is the model's choice:
that an event is a command of its own (Assumption 1), that the two ends of a frame period alternate (Assumption 4), and that a
reply counts from 24 or 12 to 96 frame periods after its start (Assumption 16). -/
def Obligations.EventsNotDueChangeNothing : Prop :=
  ∀ (c : Instr) (s : State), due c s = false → exec c s = .next s

/-! ### Power, reset and the retained store (chapter 11) -/

/-- Power-on reset (R166): the desired values and the authority sets come from a valid image, and otherwise are the
defaults; the channels whose phantom is wanted are queued in number order; values and cards are unknown; a lane that has
light seeks, every other is DARK (R14). A write that the power-on finds in progress has ended unfinished (R164), the failed
image keeping the entries from before it (the model's choice, Assumption 54). A release of the asserted reset input does the
same where there is power (R165). The model's choices (Assumption 10): with the input still
asserted the hub is held in the state the reset sets; without power a release is the input's level alone; and an input that
is not asserted has no release. The single 0 on each line is the model's choice too (Assumption 22), and that an image which had
failed before a power loss has failed still is deduced (Assumption 56). The fields that the tables of the manual do not list take
the values of Assumptions 4, 5, 22, 24, 28 and 30. -/
def Obligations.PowerOnRestoresTheImage : Prop :=
  ∀ s : State, ∃ t, exec (.powerOnReset .supplies) { s with resetInput := false } = .next t ∧
    t.power = .running ∧ t.resetInput = false ∧ t.hubFrame = 0 ∧ t.begun = false ∧ t.played = false ∧
    t.clock = { state := .internal, requalify := 0, missing := 0 } ∧
    t.settings = Settings.reset ∧ t.rate = .single ∧ t.rateMute = none ∧ t.supplyGuard = false ∧
    (∀ o, t.lines.get o = [0]) ∧
    t.bus = { writeQueue := [], broadcasts := [.phantomOffAll], transaction := none, lastPolled := none } ∧
    t.retained.valid = (s.retained.valid && s.retained.write.isNone) ∧ t.retained.entries = s.retained.entries ∧
    t.retained.write = none ∧ t.retained.quiet = (if t.retained.valid then none else some 0) ∧
    (∀ c, (t.channel c).desired = (if t.retained.valid then (s.retained.entries.get c).desired else { gain := 0, pad := false }) ∧
      (t.channel c).phantom = (t.retained.valid && (s.retained.entries.get c).phantom) ∧
      (t.channel c).authority = (if t.retained.valid then (s.retained.entries.get c).authority else defaultAuthority) ∧
      (t.channel c).desiredBy = none ∧ (t.channel c).switched = none ∧ (t.channel c).cardPhantom = none ∧
      (t.channel c).applied = none ∧ (t.channel c).applications = [] ∧
      t.phantomOf c = { state := if (t.channel c).phantom then .queued else .off, timer := none, fault := false }) ∧
    t.startQueue = (indexes 64).filter (fun c => (t.channel c).phantom) ∧
    (∀ k, t.card k = { state := .absent, known := false, timeouts := 0, lastPoll := none, status := none }) ∧
    (∀ p n, t.lane p n = { Lane.reset with state := if (s.lane p n).lossOfLight then .dark else .seeking,
                                           lossOfLight := (s.lane p n).lossOfLight }) ∧
    (∀ p, (t.port p).record = { state := .vacant, serial := none, name := [], lastSerial := none, lossHold := none } ∧
      (t.port p).merge = Merge.reset ∧ (t.port p).control = Control.reset ∧
      (t.port p).plan = { mic := some { start := 1, stop := 64 }, ret := none } ∧ (t.port p).sent = none) ∧
    (∀ o, t.output o = Output.reset o) ∧ (∀ p c, t.desk p c = DeskRecord.reset) ∧
    t.talk = { claims := [], taken := false, steady := 0, active := false } ∧
    t.consent = { proposal := none, lastNumber := 0, lastOutcome := none } ∧
    (s.resetInput = true → s.power ≠ .off → exec (.powerOnReset .release) s = .next t) ∧
    (s.resetInput = true → s.power = .off → exec (.powerOnReset .release) s = .next { s with resetInput := false }) ∧
    (s.resetInput = false → exec (.powerOnReset .release) s = .next s) ∧
    (s.resetInput = true → ∃ h, exec (.powerOnReset .supplies) s = .next h ∧ h.power = .held ∧ h.resetInput = true ∧
      h.hubFrame = 0 ∧ h.supplyGuard = false ∧ h.bus = t.bus ∧ (∀ o, h.lines.get o = [0]) ∧ h.channels = t.channels ∧
      h.phantom = t.phantom ∧ h.startQueue = t.startQueue ∧ h.retained.valid = t.retained.valid ∧
      h.retained.entries = t.retained.entries)

/-- Power loss and the reset input (R164, R165): no transaction, the supply guard released, every stage output at 0, a write
of the image ended unfinished and its image failed. That the failed image then holds the entries from before the write is the
model's choice (Assumption 54), and that one which had failed already is not valid after is deduced (Assumption 56). R165 names
these of an asserted reset input; of a power loss the rules name the image alone, and the rest is the model's (Assumption 10), as
are the single 0 on each line at either rate (Assumption 22) and an assertion without power being the pin's level alone
(Assumption 10). A pulse shorter than 1 ms is taken whole or
not at all, which of the two being a free value (R165, Assumption 7). -/
def Obligations.PowerLossAndResetInputCutTheWrite : Prop :=
  ∀ s : State,
    (∃ t, exec .powerLoss s = .next t ∧ t.power = .off ∧ t.supplyGuard = false ∧ t.bus.transaction = none ∧
      (∀ o, t.lines.get o = [0]) ∧ t.retained.entries = s.retained.entries ∧ t.retained.write = none ∧
      t.retained.quiet = none ∧ t.retained.valid = (s.retained.valid && s.retained.write.isNone) ∧
      t.resetInput = s.resetInput) ∧
    (s.power ≠ .off →
      ∃ t, exec (.resetInputAssert .full) s = .next t ∧ t.power = .held ∧ t.resetInput = true ∧ t.supplyGuard = false ∧
        t.bus.transaction = none ∧ (∀ o, t.lines.get o = [0]) ∧ t.retained.entries = s.retained.entries ∧
        t.retained.write = none ∧ t.retained.quiet = none ∧
        t.retained.valid = (s.retained.valid && s.retained.write.isNone)) ∧
    (s.power = .off → exec (.resetInputAssert .full) s = .next { s with resetInput := true }) ∧
    ∃ t, exec (.resetInputAssert .short) s = .next t ∧
      (t = { s with freeReads := s.freeReads + 1 } ∨
        exec (.resetInputAssert .full) { s with freeReads := s.freeReads + 1 } = .next t)

/-- Writing the image (R163): at 96,000 the quiet timer stops and a write takes the entries as they stand, the image failed
meanwhile; at 1,920 the image is valid with the entries taken. That the failed image keeps the entries it had is the model's
choice: R163 does not say how far the storing has come (Assumption 54). -/
def Obligations.ImageIsWrittenAfterQuiet : Prop :=
  ∀ s : State, s.power = .running →
    (∀ e, s.retained.quiet = some e → 96000 ≤ e →
      ∃ t, exec .quietTimerExpired s = .next t ∧ t.retained.quiet = none ∧ t.retained.valid = false ∧
        t.retained.entries = s.retained.entries ∧
        ∃ w, t.retained.write = some w ∧ w.elapsed = 0 ∧ ∀ c, w.entries.get c =
          { desired := (s.channel c).desired, phantom := (s.channel c).phantom, authority := (s.channel c).authority }) ∧
    ∀ w, s.retained.write = some w → 1920 ≤ w.elapsed →
      ∃ t, exec .retainedWriteEnd s = .next t ∧
        t.retained = { entries := w.entries, valid := true, quiet := s.retained.quiet, write := none }

/-! ### The laws that every step keeps -/

/-- The machine after reset holds what the table of 11.4 gives, and obeys every law. That its image has failed, its entries
being the defaults, and that its pins read loss of light and a released reset input is the model's choice (Assumption 3). So are
the values of the fields that the table does not list (Assumptions 5, 24, 28 and 30). -/
def Obligations.ResetIsSafe : Prop :=
  Safe State.reset ∧ State.reset.power = .running ∧ State.reset.resetInput = false ∧ State.reset.hubFrame = 0 ∧
    State.reset.supplyGuard = false ∧ State.reset.rate = .single ∧ State.reset.rateMute = none ∧
    State.reset.clock = { state := .internal, requalify := 0, missing := 0 } ∧
    State.reset.bus = { writeQueue := [], broadcasts := [.phantomOffAll], transaction := none, lastPolled := none } ∧
    State.reset.talk = { claims := [], taken := false, steady := 0, active := false } ∧
    State.reset.consent = { proposal := none, lastNumber := 0, lastOutcome := none } ∧
    State.reset.settings =
      { converterDelay := 38, rampTime := 5, settleTime := 10, consentWindow := 5, liveLimit := 30, priority := [1, 0, 2],
        lossHold := 4, qualifyTime := 100, source := .internal, stageChannel := none } ∧
    State.reset.retained.valid = false ∧ State.reset.retained.quiet = some 0 ∧ State.reset.retained.write = none ∧
    State.reset.startQueue = [] ∧
    (∀ k, State.reset.card k = { state := .absent, known := false, timeouts := 0, lastPoll := none, status := none }) ∧
    (∀ c, (State.reset.channel c).desired = { gain := 0, pad := false } ∧ (State.reset.channel c).phantom = false ∧
      (State.reset.channel c).desiredBy = none ∧ (State.reset.channel c).switched = none ∧
      (State.reset.channel c).cardPhantom = none ∧ (State.reset.channel c).applied = none ∧
      (State.reset.channel c).applications = [] ∧
      (∀ p, (State.reset.channel c).authority.get p = decide (p ≠ 2)) ∧
      State.reset.phantomOf c = { state := .off, timer := none, fault := false } ∧
      (State.reset.retained.entries.get c).desired = { gain := 0, pad := false } ∧
      (State.reset.retained.entries.get c).phantom = false ∧
      ∀ p, (State.reset.retained.entries.get c).authority.get p = decide (p ≠ 2)) ∧
    (∀ p c, State.reset.desk p c =
      { trim := 0, mode := .track, anchor := none, wanted := 0, comp := 0, coefficient := 65536, ramp := none,
        stepNext := none, limited := false, limitArmed := true, clipArmed := true, peak := 0 }) ∧
    (∀ p n, State.reset.lane p n =
      { state := .dark, acquisition := 0, qualify := 0, badSyncs := 0, misses := 0, overBudget := false,
        reference := none, lastLag := none, errors := 0, drops := 0, lossOfLight := true, synced := false,
        fourth := none }) ∧
    (∀ p, (State.reset.port p).record =
        { state := .vacant, serial := none, name := [], lastSerial := none, lossHold := none } ∧
      (State.reset.port p).merge.offset = 3 ∧ (State.reset.port p).merge.next = 65533 ∧
      (State.reset.port p).merge.active = .A ∧ (State.reset.port p).merge.preferred = none ∧
      (State.reset.port p).merge.missing = 3 ∧ (State.reset.port p).merge.mute = none ∧
      (State.reset.port p).merge.deskHold = false ∧
      (∀ i, (State.reset.port p).merge.entries.get i = { seq := none, a := none, b := none }) ∧
      (∀ i, (State.reset.port p).merge.last.get i = 0) ∧
      (State.reset.port p).control =
        { assembly := none, requests := [], arrived := [], hold := false, replies := [], reports := [], lost := false,
          outbound := [] } ∧
      (State.reset.port p).plan = { mic := some { start := 1, stop := 64 }, ret := none } ∧
      (State.reset.port p).sent = none) ∧
    ∀ o, State.reset.output o =
      { source := some { port := 1, ret := o }, patchedBy := none, fallbackChannel := none, fallbackLevel := -100,
        fallbackDelay := 5, listen := true, dim := .level (-200), state := .fallback, timer := none, crossfade := none,
        dimCoefficient := 65536, dimRamp := none }

/-- Every step keeps the law of the lanes (R4 to R12), and that of the ports: a port is LINKED or ATTACHED only while at
least one of its lanes is UP, and ISOLATED only while none is (R26). It keeps the law of power too: the hub runs only with
its reset input released, and is held only by an asserted one (R165). -/
def Obligations.StepKeepsLaneAndPortLaws : Prop :=
  ∀ s t : State, step s = .next t →
    (LaneLaw s → LaneLaw t) ∧ (PortLaw s → PortLaw t) ∧ (PowerLaw s → PowerLaw t)

/-- Every step keeps the law of the merge buffers: an entry holds copies of the sequence number it records alone (R15). -/
def Obligations.StepKeepsMergeLaw : Prop := ∀ s t : State, MergeLaw s → step s = .next t → MergeLaw t

/-- Every step keeps the law of the control channels: at most 8 requests, with HOLD from 6 on (R43), and no two reports of
one kind and subject (R52). -/
def Obligations.StepKeepsControlLaw : Prop := ∀ s t : State, ControlLaw s → step s = .next t → ControlLaw t

/-- Every step keeps the ranges of the hub settings (R54), of trim and compensation (R80), and the fit of every slot plan to
the rate in force (R114). -/
def Obligations.StepKeepsRangeLaws : Prop :=
  ∀ s t : State, step s = .next t →
    (SettingsLaw s → SettingsLaw t) ∧ (CompensationLaw s → CompensationLaw t) ∧ (PlanLaw s → PlanLaw t)

/-- Every step keeps the laws of the channel table and the card bus: gains within 0 to 63 dB (R58), no authority set empty
(R62), values known from a card's first reply on (R74), and queues without repeats (R70, R76). -/
def Obligations.StepKeepsChannelLaws : Prop :=
  ∀ s t : State, step s = .next t →
    (GainLaw s → GainLaw t) ∧ (AuthorityLaw s → AuthorityLaw t) ∧ (KnownLaw s → KnownLaw t) ∧ (BusLaw s → BusLaw t)

/-- Every step keeps the laws of the phantom sequencer: the start queue holds exactly the QUEUED channels, once each (R102);
no start is left to make (R103); at most four channels are in RAMP_UP, and the supply guard is asserted exactly when one is
(R109). -/
def Obligations.StepKeepsPhantomLaws : Prop :=
  ∀ s t : State, step s = .next t → StartQueueLaw s →
    StartQueueLaw t ∧ (StartsLaw s → StartsLaw t) ∧ (SupplyGuardLaw s → SupplyGuardLaw t)

/-- Every step keeps the law of the outputs: an output is NORMAL exactly while its source port is ATTACHED, or it has none
(R129 to R131, R135). -/
def Obligations.StepKeepsOutputLaw : Prop := ∀ s t : State, OutputLaw s → step s = .next t → OutputLaw t

/-- Every step keeps the laws of the talk claim list (R141), of stage talk (R148), and of the pending proposal, whose
proposer is an ATTACHED port (R152). -/
def Obligations.StepKeepsTalkAndConsentLaws : Prop :=
  ∀ s t : State, step s = .next t →
    (TalkLaw s → TalkLaw t) ∧ (StageLaw s → StageLaw t) ∧ (ConsentLaw s → ConsentLaw t)

/-! ### Lanes, merge buffers and the clock (chapter 1) -/

/-- Loss and return of light (R5): the counts, the over-budget mark, the reference and the last lag go, the error count and
the drop count stay but for the drop of an UP lane. The fields `synced` and `fourth` are the model's own (Assumption 30). -/
def Obligations.LightMovesTheLane : Prop :=
  ∀ (p : Port) (n : LaneName) (s : State), s.power = .running →
    ((s.lane p n).state ≠ .dark → ∃ t, exec (.lightLost p n) s = .next t ∧
      t.lane p n = { state := .dark, acquisition := 0, qualify := 0, badSyncs := 0, misses := 0, overBudget := false,
                     reference := none, lastLag := none, errors := (s.lane p n).errors,
                     drops := if (s.lane p n).state = .up then min 255 ((s.lane p n).drops + 1) else (s.lane p n).drops,
                     lossOfLight := true, synced := false, fourth := none } ∧
      (t.port p).merge.entries = (s.port p).merge.entries ∧
      Posted (.laneState p n .dark .lightLost none (t.port p).merge.active) t) ∧
    ((s.lane p n).state = .dark → exec (.lightLost p n) s = .next (setLossPin p n true s)) ∧
    ((s.lane p n).state = .dark → ∃ t, exec (.lightReturned p n) s = .next t ∧
      (t.lane p n).state = .seeking ∧ (t.lane p n).acquisition = 0 ∧ (t.lane p n).reference = none ∧
      (t.lane p n).lossOfLight = false ∧ (t.lane p n).errors = (s.lane p n).errors ∧
      (t.lane p n).drops = (s.lane p n).drops ∧
      Posted (.laneState p n .seeking .lightReturned (s.lane p n).lastLag (t.port p).merge.active) t) ∧
    ((s.lane p n).state ≠ .dark → exec (.lightReturned p n) s = .next (setLossPin p n false s))

/-- An upstream frame with its sync pattern (R3, R4, R6 to R8, R15): a bad check counts an error and sets the counts of
SEEKING and QUALIFYING to 0; a good frame has its lag measured and is counted, and is stored when the lane is QUALIFYING or
UP and the lag is P or less. A good-sync result in QUALIFYING or UP ends a run of bad-sync results (R7, R9). A bad-sync result
outside QUALIFYING sets the count of SEEKING to 0 and leaves UP as it is. The lag of an answer that arrives k hub frames after
its frame was sent is k (R4). The acquisition count that stays at 4 (Assumption 29), the clearing of what an entry holds of
another sequence number (Assumption 26), that a frame taken after the playouts of hub frame n arrives in hub frame n + 1
(Assumption 37), that a good frame in UP leaves the reference as it is (Assumption 48), the fields `synced` and `fourth`
(Assumption 30), and that a good frame after the fourth takes its place there (Assumption 57) are the model's. -/
def Obligations.UpstreamFrameIsJudged : Prop :=
  ∀ (p : Port) (n : LaneName) (b : UpBytes) (s : State),
    s.power = .running → (s.lane p n).state ≠ .dark → b.get 0 = 0xA7 → b.get 1 = 0xC5 →
      ((s.lane p n).synced = true → (s.lane p n).state ≠ .qualifying → ∃ t, exec (.badSync p n) s = .next t ∧
        t.lane p n = { s.lane p n with
          acquisition := if (s.lane p n).state = .seeking then 0 else (s.lane p n).acquisition,
          synced := if (s.lane p n).state = .seeking then false else true,
          fourth := if (s.lane p n).state = .seeking then none else (s.lane p n).fourth }) ∧
      ∃ t, exec (.upstreamFrame p n b) s = .next t ∧
        (upCheckGood b = false → (t.port p).merge = (s.port p).merge ∧
          t.lane p n = { s.lane p n with
            errors := min 65535 ((s.lane p n).errors + 1), synced := true,
            acquisition := if (s.lane p n).state = .seeking then 0 else (s.lane p n).acquisition,
            fourth := if (s.lane p n).state = .seeking then none else (s.lane p n).fourth,
            qualify := if (s.lane p n).state = .qualifying then 0 else (s.lane p n).qualify,
            badSyncs := if (s.lane p n).state = .qualifying ∨ (s.lane p n).state = .up then 0 else (s.lane p n).badSyncs }) ∧
        (upCheckGood b = true → (s.lane p n).state = .seeking → (t.port p).merge = (s.port p).merge ∧
          t.lane p n = { s.lane p n with
            synced := true, lastLag := some (lagOf (frameNow s) (upCopy b).echo),
            acquisition := min 4 ((s.lane p n).acquisition + 1),
            fourth := if 3 ≤ (s.lane p n).acquisition then some (upCopy b) else none }) ∧
        (upCheckGood b = true → (s.lane p n).state = .qualifying →
          lagOf (frameNow s) (upCopy b).echo ≤ (s.port p).merge.offset → Stored p n (upCopy b) s t ∧
          t.lane p n = { s.lane p n with
            synced := true, lastLag := some (lagOf (frameNow s) (upCopy b).echo), badSyncs := 0, overBudget := false,
            reference := some (upCopy b).echo,
            qualify := if (s.lane p n).reference.map (fun r => (r + 1) % 65536) = some (upCopy b).echo
              then (s.lane p n).qualify + 1 else 0 }) ∧
        (upCheckGood b = true → (s.lane p n).state = .qualifying →
          (s.port p).merge.offset < lagOf (frameNow s) (upCopy b).echo → (t.port p).merge = (s.port p).merge ∧
          t.lane p n = { s.lane p n with
            synced := true, lastLag := some (lagOf (frameNow s) (upCopy b).echo), badSyncs := 0, overBudget := true,
            reference := some (upCopy b).echo, qualify := 0 } ∧
          ((s.lane p n).overBudget = false → Posted (.laneState p n .qualifying .overBudget
            (some (lagOf (frameNow s) (upCopy b).echo)) (s.port p).merge.active) t)) ∧
        (upCheckGood b = true → (s.lane p n).state = .up →
          t.lane p n = { s.lane p n with
            synced := true, lastLag := some (lagOf (frameNow s) (upCopy b).echo), badSyncs := 0 } ∧
          (lagOf (frameNow s) (upCopy b).echo ≤ (s.port p).merge.offset → Stored p n (upCopy b) s t) ∧
          ((s.port p).merge.offset < lagOf (frameNow s) (upCopy b).echo → (t.port p).merge = (s.port p).merge)) ∧
        frameNow s = (if s.played then s.hubFrame + 1 else s.hubFrame) ∧
        ∀ i k : Nat, k < 65536 → lagOf (i + k) (i % 65536) = k

/-- Four bad-sync results in a row in QUALIFYING (R9), counted one by one. That SYNC_LOST is a command without effect before
the fourth (Assumption 1), that the count stays at 4 (Assumption 29), and that a bad-sync result is taken only where frame
positions are expected (Assumption 30) are the model's. -/
def Obligations.BadSyncsSendTheLaneBack : Prop :=
  ∀ (p : Port) (n : LaneName) (s : State), s.power = .running → (s.lane p n).state = .qualifying →
    ((s.lane p n).synced = true → ∃ t, exec (.badSync p n) s = .next t ∧
      t.lane p n = { s.lane p n with badSyncs := min 4 ((s.lane p n).badSyncs + 1) }) ∧
    (∀ b : UpBytes, b.get 0 = 0xA7 → b.get 1 = 0xC5 → ∃ t, exec (.upstreamFrame p n b) s = .next t ∧
      (t.lane p n).state = .qualifying ∧ (t.lane p n).badSyncs = 0) ∧
    ((s.lane p n).badSyncs < 4 → exec (.syncLost p n) s = .next s) ∧
    (4 ≤ (s.lane p n).badSyncs → ∃ t, exec (.syncLost p n) s = .next t ∧
      (t.lane p n).state = .seeking ∧ (t.lane p n).acquisition = 0 ∧ (t.lane p n).qualify = 0 ∧
      (t.lane p n).overBudget = false ∧ (t.lane p n).reference = none ∧
      Posted (.laneState p n .seeking .syncLost (s.lane p n).lastLag (t.port p).merge.active) t)

/-- A lane moves when its count has met its target: the fourth good frame of SEEKING is the first of QUALIFYING (R6, R8),
the qualify time raises the lane to UP (R10), and the third miss drops it (R11). What an entry holds of another sequence
number gives way to the copy stored (Assumption 26). The field `fourth`, which keeps the fourth frame, or the last good one after
it, until ACQUIRED is taken, is the model's own (Assumptions 30 and 57). -/
def Obligations.LanesMoveWhenDue : Prop :=
  ∀ (p : Port) (n : LaneName) (s : State), s.power = .running →
    (∀ c, (s.lane p n).state = .seeking → 4 ≤ (s.lane p n).acquisition → (s.lane p n).fourth = some c →
      ∃ t, exec (.acquired p n) s = .next t ∧
        t.lane p n = { s.lane p n with
          state := .qualifying, qualify := 0, badSyncs := 0, reference := some c.echo, fourth := none,
          overBudget := decide ((s.port p).merge.offset < (s.lane p n).lastLag.getD 0) } ∧
        ((s.lane p n).lastLag.getD 0 ≤ (s.port p).merge.offset → Stored p n c s t ∧
          Posted (.laneState p n .qualifying .acquired (s.lane p n).lastLag (s.port p).merge.active) t) ∧
        ((s.port p).merge.offset < (s.lane p n).lastLag.getD 0 → (t.port p).merge = (s.port p).merge ∧
          Posted (.laneState p n .qualifying .overBudget (s.lane p n).lastLag (s.port p).merge.active) t)) ∧
    ((s.lane p n).state = .qualifying → 480 * s.settings.qualifyTime ≤ (s.lane p n).qualify →
      ∃ t, exec (.qualified p n) s = .next t ∧
        t.lane p n = { s.lane p n with state := .up, misses := 0, overBudget := false } ∧
        Posted (.laneState p n .up .qualified (s.lane p n).lastLag (t.port p).merge.active) t) ∧
    ((s.lane p n).state = .up → 3 ≤ (s.lane p n).misses →
      ∃ t, exec (.laneDrop p n) s = .next t ∧
        (t.lane p n).state = .seeking ∧ (t.lane p n).acquisition = 0 ∧ (t.lane p n).qualify = 0 ∧
        (t.lane p n).drops = min 255 ((s.lane p n).drops + 1) ∧ (t.lane p n).errors = (s.lane p n).errors ∧
        Posted (.laneState p n .seeking .dropped (s.lane p n).lastLag (t.port p).merge.active) t)

/-- The active lane of a port after an event of one of its lanes (R19); if the other lane becomes active as a result, a LANE
STATE with reason ACTIVE is posted for it (R13). -/
def Obligations.ActiveLaneFollowsTheLanes : Prop :=
  ∀ (p : Port) (n : LaneName) (c : Instr) (s t : State), c ∈ laneCommands p n → exec c s = .next t →
    ((s.port p).lanes.isUp (s.port p).merge.active = true → (t.port p).lanes.isUp (s.port p).merge.active = false →
      (t.port p).lanes.isUp (s.port p).merge.active.other = true →
        (t.port p).merge.active = (s.port p).merge.active.other) ∧
    ((s.port p).lanes.isUp n = false → (t.port p).lanes.isUp n = true →
      (t.port p).lanes.isUp (s.port p).merge.active = false ∨ (s.port p).merge.preferred = some n ∨
        (s.port p).merge.active = n → (t.port p).merge.active = n) ∧
    ((s.port p).lanes.isUp n = false → (t.port p).lanes.isUp n = true →
      (t.port p).lanes.isUp (s.port p).merge.active = true → (s.port p).merge.preferred ≠ some n →
        (t.port p).merge.active = (s.port p).merge.active) ∧
    ((s.port p).lanes.isUp n = true → (t.port p).lanes.isUp n = false →
      (s.port p).merge.active ≠ n ∨ (t.port p).lanes.isUp n.other = false →
        (t.port p).merge.active = (s.port p).merge.active) ∧
    ((t.port p).lanes.isUp n = (s.port p).lanes.isUp n → (t.port p).merge.active = (s.port p).merge.active) ∧
    ((t.port p).merge.active ≠ (s.port p).merge.active → (t.port p).merge.active = n.other →
      Posted (.laneState p n.other (s.lane p n.other).state .active (s.lane p n.other).lastLag n.other) t)

/-- The playout of a port (R16 to R18, R21): the usable copy of the active lane, or else of the other lane, or a missing frame; a
copy is usable when its lane is UP and the entry holds it under the sequence number played. The entry is cleared, and the next
sequence number follows. Every UP lane is judged (R11). The control bytes of the copy go to the assembly, and a missing frame
discards one in progress (R39, R40). Where a lowered offset has put k playouts into the past, they are skipped first: their
entries are cleared, no lane is judged, and an assembly is discarded (R21, R40). In a frame period that a raised offset holds,
nothing is played, no lane is judged, and the idle count of an assembly rises (R21, R40); the slots handed on are then silence
while the mute of an earlier change runs (R21) and where no lane was UP for three frame periods or more (R18), and free values
otherwise (Assumption 8). The mute of a change starts with its first playout (R21). A mute at 0 that still silences, the
counts that stay at 3 (Assumption 29), a copy under another sequence number as no usable copy (Assumption 26), and the fields
`muteDue` and `withoutLane` (Assumption 30) are the model's. -/
def Obligations.PlayoutTakesTheCopy : Prop :=
  (∀ (u : PortUnit) (e : Entry),
    (∀ c, u.lanes.isUp u.merge.active = true → e.seq = some u.merge.next → e.get u.merge.active = some c →
      chooseCopy u e = some c) ∧
    (∀ c, u.lanes.isUp u.merge.active = false ∨ e.get u.merge.active = none →
      u.lanes.isUp u.merge.active.other = true → e.seq = some u.merge.next → e.get u.merge.active.other = some c →
        chooseCopy u e = some c) ∧
    (e.seq ≠ some u.merge.next ∨
      ((u.lanes.isUp u.merge.active = false ∨ e.get u.merge.active = none) ∧
        (u.lanes.isUp u.merge.active.other = false ∨ e.get u.merge.active.other = none)) → chooseCopy u e = none)) ∧
  ∀ (inp : FrameInputs) (p : Port) (s : State) (k : Nat), s.power = .running → s.begun = true → s.played = false →
    (0 < k → k < 32768 → ((s.port p).merge.next + (s.port p).merge.offset) % 65536 = (s.hubFrame + k) % 65536 →
      ∃ t, exec (.playout inp) s = .next t ∧ (t.port p).lanes = (s.port p).lanes ∧
        (t.port p).merge = { (s.port p).merge with
          handed := (t.port p).merge.handed, mute := (s.port p).merge.mute.map (fun k => k - 1),
          withoutLane := if (s.port p).lanes.anyUp then 0 else min 3 ((s.port p).merge.withoutLane + 1) } ∧
        ((s.port p).merge.mute.isSome = true ∨
            ((s.port p).lanes.anyUp = false ∧ 2 ≤ (s.port p).merge.withoutLane) →
          ∀ i, (t.port p).merge.handed.get i = { sample := 0, cond := .silenced }) ∧
        (t.port p).control = { (s.port p).control with
          assembly := (s.port p).control.assembly.map fun a => { a with idle := a.idle + 1 } }) ∧
    (k ≤ 32768 → ((s.port p).merge.next + (s.port p).merge.offset + k) % 65536 = s.hubFrame % 65536 →
      ∀ u, u = (s.port p).movedOn k → ∀ e, e = u.merge.entries.get (Fin.ofNat 8 u.merge.next) →
      ∀ v, v = (if k = 0 then s else dropAssembly p .missingFrame s) → ∃ t, exec (.playout inp) s = .next t ∧
        (t.port p).merge.next = (u.merge.next + 1) % 65536 ∧
        (t.port p).merge.withoutLane =
          (if (s.port p).lanes.anyUp then 0 else min 3 ((s.port p).merge.withoutLane + 1)) ∧
        (∀ i : Fin 8, (t.port p).merge.entries.get i =
          if i = Fin.ofNat 8 u.merge.next then { seq := none, a := none, b := none } else u.merge.entries.get i) ∧
        (∀ c, chooseCopy u e = some c →
          (t.port p).merge.missing = 0 ∧ (t.port p).merge.deskHold = c.deskHold ∧
          (t.port p).control = ((takeControl p c.control v).port p).control ∧
          ((s.port p).merge.muteDue = false → (s.port p).merge.mute = none → (t.port p).merge.handed = c.slots)) ∧
        (chooseCopy u e = none →
          (t.port p).merge.missing = min 3 ((s.port p).merge.missing + 1) ∧
          (t.port p).merge.deskHold = (s.port p).merge.deskHold ∧
          (t.port p).control = ((dropAssembly p .missingFrame v).port p).control ∧
          ((s.port p).merge.muteDue = false → (s.port p).merge.mute = none → ∀ i, (t.port p).merge.handed.get i =
            if (s.port p).merge.missing < 2 then { sample := (s.port p).merge.last.get i, cond := .concealed }
            else { sample := 0, cond := .silenced })) ∧
        ((s.port p).merge.muteDue = true ∨ (s.port p).merge.mute.isSome = true →
          ∀ i, (t.port p).merge.handed.get i = { sample := 0, cond := .silenced }) ∧
        (t.port p).merge.muteDue = false ∧
        (t.port p).merge.mute =
          (if (s.port p).merge.muteDue then some 31 else (s.port p).merge.mute.map (fun k => k - 1)) ∧
        (∀ i, (t.port p).merge.last.get i = ((t.port p).merge.handed.get i).sample) ∧
        ∀ n, t.lane p n = { s.lane p n with
          misses := if (s.lane p n).state ≠ .up then (s.lane p n).misses
            else if e.seq = some u.merge.next ∧ (e.get n).isSome = true then 0
            else min 3 ((s.lane p n).misses + 1) })

/-- The clock unit (the table of R23), with the two rows that SET HUB makes: a change of the source to WORDCLOCK goes to
HOLDOVER, one to INTERNAL to INTERNAL, each with CLOCK STATE, and naming the source in force moves nothing. Counts that stay
at 48,000 and 4 are the model's (Assumption 29). -/
def Obligations.ClockFollowsItsTable : Prop :=
  ∀ s : State, s.power = .running →
    (s.clock.state = .holdover →
      exec .wordclockEdge s = .next { s with clock := { s.clock with requalify := min 48000 (s.clock.requalify + 1) } } ∧
      exec .wordclockMissing s = .next { s with clock := { s.clock with requalify := 0 } } ∧
      (48000 ≤ s.clock.requalify → ∃ t, exec .clockLocked s = .next t ∧
        t.clock = { s.clock with state := .locked, missing := 0 } ∧ Posted (.clockState .locked s.settings.source) t)) ∧
    (s.clock.state = .locked →
      exec .wordclockEdge s = .next { s with clock := { s.clock with missing := 0 } } ∧
      exec .wordclockMissing s = .next { s with clock := { s.clock with missing := min 4 (s.clock.missing + 1) } } ∧
      (4 ≤ s.clock.missing → ∃ t, exec .clockHoldover s = .next t ∧
        t.clock = { s.clock with state := .holdover, requalify := 0 } ∧
        Posted (.clockState .holdover s.settings.source) t)) ∧
    (s.clock.state = .internal → exec .wordclockEdge s = .next s ∧ exec .wordclockMissing s = .next s) ∧
    ∀ (p : Port) (m : Message), Accepted p kindSetHub m s → u16 m.body 0 = 256 → u8 m.body 13 ≤ 1 → ∃ u,
      exec (.setHub p) s = .next (answered p m .done 1 [] u) ∧
      (s.settings.source = .internal → u8 m.body 13 = 1 →
        u.clock = { s.clock with state := .holdover, requalify := 0 } ∧ Posted (.clockState .holdover .wordclock) u) ∧
      (s.settings.source = .wordclock → u8 m.body 13 = 0 →
        u.clock = { s.clock with state := .internal } ∧ Posted (.clockState .internal .internal) u) ∧
      ((s.settings.source = .internal ∧ u8 m.body 13 = 0) ∨ (s.settings.source = .wordclock ∧ u8 m.body 13 = 1) → u = s)

/-- SET PORT (R13, R19 to R21, R37): the offset, brought into 1 to 7, and the preferred lane, each where its presence bit is
set. A preferred lane that is UP becomes active, with LANE STATE. A new offset leaves the read position, the entries and an
assembly to its first playout, with which the mute starts, and sends every UP or QUALIFYING lane whose last lag is greater back
to QUALIFYING, with LANE STATE; the other lane becomes active where it alone is then still UP. What changes is reported in
PORT STATE; where nothing does, nothing happens. A port number outside 1 to 3 and an unknown lane code are refused. The
model's choices: that the two late lanes of a port return together, before R19 is applied, which shows in the active lane and
in the reports' active field (Assumption 14); that the preferred lane is taken before the offset (Assumption 32); that the new
offset judges copies from the service of SET PORT on (Assumption 38); that a raise sends a late lane back too (Assumption
39); the reference with which a lane returns from UP (Assumption 48); and the field `muteDue` (Assumption 30). -/
def Obligations.SetPortIsTaken : Prop :=
  ∀ (p q : Port) (m : Message) (s : State), Accepted p kindSetPort m s →
    (∀ (offset : Nat) (pref : Option LaneName) (lead : LaneName), u8 m.body 0 = num q →
      (u8 m.body 1 % 2 = 0 ∧ offset = (s.port q).merge.offset) ∨
        (u8 m.body 1 % 2 = 1 ∧ offset = max 1 (min 7 (u8 m.body 2))) →
      (u8 m.body 1 / 2 % 2 = 0 ∧ pref = (s.port q).merge.preferred ∧ lead = (s.port q).merge.active) ∨
        (u8 m.body 1 / 2 % 2 = 1 ∧
          ((u8 m.body 3 = 0 ∧ pref = none) ∨ (u8 m.body 3 = 1 ∧ pref = some .A) ∨ (u8 m.body 3 = 2 ∧ pref = some .B)) ∧
          lead = (pref.filter fun n => (s.port q).lanes.isUp n).getD (s.port q).merge.active) → ∃ u,
      exec (.setPort p) s = .next (answered p m
        (if u8 m.body 1 % 2 = 1 ∧ (u8 m.body 2 < 1 ∨ 7 < u8 m.body 2) then .clamped else .done) 1 [] u) ∧
      (u.port q).merge = { (s.port q).merge with
        offset := offset, preferred := pref, active := (u.port q).merge.active,
        muteDue := if offset = (s.port q).merge.offset then (s.port q).merge.muteDue else true } ∧
      (s.portState q ≠ .linked → (u.port q).control.assembly = (s.port q).control.assembly) ∧
      (offset = (s.port q).merge.offset → pref = (s.port q).merge.preferred → lead = (s.port q).merge.active → u = s) ∧
      (offset ≠ (s.port q).merge.offset ∨ pref ≠ (s.port q).merge.preferred → Posted (portReport q .setting u) u) ∧
      (u.port q).merge.active =
        (if (s.port q).lanes.isUp lead = true ∧ (u.port q).lanes.isUp lead = false ∧
            (u.port q).lanes.isUp lead.other = true then lead.other else lead) ∧
      (lead ≠ (s.port q).merge.active → (u.lane q lead).state = .up →
        Posted (.laneState q lead .up .active (s.lane q lead).lastLag lead) u) ∧
      ((u.port q).merge.active ≠ lead →
        Posted (.laneState q (u.port q).merge.active .up .active (s.lane q (u.port q).merge.active).lastLag
          (u.port q).merge.active) u) ∧
      ∀ n,
        (offset ≠ (s.port q).merge.offset → (s.lane q n).state = .up ∨ (s.lane q n).state = .qualifying →
          (s.lane q n).lastLag.any (fun g => decide (offset < g)) = true →
            u.lane q n = { s.lane q n with state := .qualifying, qualify := 0, overBudget := true } ∧
            Posted (.laneState q n .qualifying .overBudget (s.lane q n).lastLag (u.port q).merge.active) u) ∧
        (offset = (s.port q).merge.offset ∨ ((s.lane q n).state ≠ .up ∧ (s.lane q n).state ≠ .qualifying) ∨
          (s.lane q n).lastLag.any (fun g => decide (offset < g)) = false → u.lane q n = s.lane q n)) ∧
    (u8 m.body 0 = 0 ∨ 3 < u8 m.body 0 ∨ (u8 m.body 1 / 2 % 2 = 1 ∧ 2 < u8 m.body 3) →
      exec (.setPort p) s = .next (answered p m .range 0 [] s))

/-! ### Desk ports (chapter 2) -/

/-- The port controller told of its lanes (R26 to R28): only the moves between no lane UP and at least one move the port.
That the immediate requests waiting for their rows go with the queues of R30 on the way to VACANT is deduced (Assumption 5). -/
def Obligations.PortFollowsItsLanes : Prop :=
  ∀ (p : Port) (n : LaneName) (c : Instr) (s t : State), c ∈ laneCommands p n → exec c s = .next t →
    ((t.port p).lanes.anyUp = (s.port p).lanes.anyUp → (t.port p).record = (s.port p).record) ∧
    ((s.port p).lanes.anyUp = false → (t.port p).lanes.anyUp = true →
      (s.portState p = .vacant → (t.port p).record = { (s.port p).record with state := .linked } ∧
        Posted (portReport p .laneUp t) t) ∧
      (s.portState p = .isolated →
        (t.port p).record = { (s.port p).record with state := .attached, lossHold := none } ∧
        Posted (portReport p .rejoined t) t)) ∧
    ((s.port p).lanes.anyUp = true → (t.port p).lanes.anyUp = false →
      (s.portState p = .linked →
        (t.port p).record = { (s.port p).record with state := .vacant, serial := none, name := [], lossHold := none } ∧
        (t.port p).control = { Control.reset with outbound := (s.port p).control.outbound } ∧
        Posted (portReport p .linkLost t) t) ∧
      (s.portState p = .attached →
        (t.port p).record = { (s.port p).record with state := .isolated, lossHold := some 0 } ∧
        Posted (portReport p .isolated t) t))

/-- A port that leaves ATTACHED by its lanes or by DETACH loses its talk claim, its proposal and its vote, and its outputs
begin to wait, or with a delay of 0 enter FALLBACK at once (R34, R129, R130, R145, R157); one that returns, by ATTACH or by a lane
reaching UP, has its outputs back in NORMAL, and the other outputs stay as they are (R35, R131). A crossfade starts where the
carried stream changes (R132), and each change of an output's state is reported (R137). -/
def Obligations.LeavingAndReturningAreFelt : Prop :=
  ∀ (p : Port) (n : LaneName) (c : Instr) (s t : State), c ∈ .attach p :: .detach p :: laneCommands p n →
    exec c s = .next t →
    (s.portState p = .attached → t.portState p ≠ .attached →
      (∀ x ∈ t.talk.claims, x.port ≠ p) ∧
      (∀ pr, s.consent.proposal = some pr →
        (pr.proposer = p → t.consent.proposal = none ∧ t.consent.lastOutcome = some
          { number := pr.number, action := pr.action, proposer := p, ending := .withdrawn }) ∧
        (pr.proposer ≠ p → t.consent.proposal = some { pr with voters := pr.voters.put p false })) ∧
      ∀ o src, (s.output o).state = .normal → (s.output o).source = some src → src.port = p →
        (t.output o).source = some src ∧
        ((s.output o).fallbackDelay ≠ 0 → (t.output o).state = .waiting ∧ (t.output o).timer = some 0 ∧
          (t.output o).crossfade = (s.output o).crossfade ∧
          Posted (.outputState o .waiting .sourceLeft (some src) (s.output o).fallbackChannel (s.output o).fallbackLevel
            (some (100 * (s.output o).fallbackDelay))) t) ∧
        ((s.output o).fallbackDelay = 0 → (t.output o).state = .fallback ∧ (t.output o).timer = none ∧
          (t.output o).crossfade = fadeTo (s.output o).crossfade (.ret src) (t.output o).stream ∧
          Posted (.outputState o .fallback .delayExpired (some src) (s.output o).fallbackChannel
            (s.output o).fallbackLevel none) t)) ∧
    (s.portState p ≠ .attached → t.portState p = .attached →
      ∀ o, (∀ src, (s.output o).source = some src → src.port = p → (s.output o).state ≠ .normal →
          (t.output o).state = .normal ∧ (t.output o).timer = none ∧ (t.output o).source = some src ∧
          ((s.output o).state = .waiting → (t.output o).crossfade = (s.output o).crossfade) ∧
          (t.output o).crossfade = fadeTo (s.output o).crossfade (s.output o).stream (.ret src) ∧
          Posted (.outputState o .normal .sourceReturned (some src) (s.output o).fallbackChannel
            (s.output o).fallbackLevel none) t) ∧
        ((∀ src, (s.output o).source = some src → src.port ≠ p) → t.output o = s.output o))

/-- An assembly that has taken no byte for 64 frame periods is discarded, with its report to a port that is not VACANT
(R40, R50). The loss hold expires (R29, R30): the port is VACANT, its serial and name are gone, its last serial is kept, and its
control channel keeps the message in progress alone. That the immediate requests waiting for their rows go with the queues of R30
is deduced (Assumption 5). -/
def Obligations.PortTimersExpire : Prop :=
  ∀ (p : Port) (s : State), s.power = .running →
    (∀ a, (s.port p).control.assembly = some a → 64 ≤ a.idle →
      ∃ t, exec (.assemblyTimeout p) s = .next t ∧ (t.port p).control.assembly = none ∧
        (t.port p).control.requests = (s.port p).control.requests ∧
        (s.portState p = .vacant → (t.port p).control.reports = (s.port p).control.reports) ∧
        (s.portState p ≠ .vacant → (s.port p).control.reports = [] →
          (t.port p).control.reports = [.messageDropped .timeout (a.bytes[1]?) 1])) ∧
    ∀ e, s.portState p = .isolated → (s.port p).record.lossHold = some e → 24000 * s.settings.lossHold ≤ e →
      ∃ t, exec (.holdExpired p) s = .next t ∧
        (t.port p).record = { state := .vacant, serial := none, name := [], lastSerial := (s.port p).record.lastSerial,
                              lossHold := none } ∧
        (t.port p).control = { Control.reset with outbound := (s.port p).control.outbound } ∧
        (t.port p).merge = (s.port p).merge ∧ (t.port p).plan = (s.port p).plan ∧ Posted (portReport p .holdExpired t) t

/-- ATTACH (R31, R32, R93): a serial of 0 or a long name is refused; from LINKED the port attaches, and its records are
reset when the serial is not the last one; with another serial an ATTACHED or ISOLATED port changes its identity, which ends
its talk claim, withdraws its pending proposal and takes it out of the voters of another's (R157). A reset takes the anchors of R93
also in a frame in which an application falls due, whatever R90 says of the two orders (Assumption 53). -/
def Obligations.AttachRecordsTheDesk : Prop :=
  ∀ (p : Port) (m : Message) (s : State), Accepted p kindAttach m s →
    (u32 m.body 0 = 0 ∨ 16 < u8 m.body 4 → exec (.attach p) s = .next (answered p m .range 0 [] s)) ∧
    (u32 m.body 0 ≠ 0 → u8 m.body 4 ≤ 16 → ∃ u fresh,
      exec (.attach p) s = .next (answered p m .done 1 [if fresh then 1 else 0] u) ∧
      (fresh = true ↔ if s.portState p = .linked then (s.port p).record.lastSerial ≠ some (u32 m.body 0)
        else (s.port p).record.serial ≠ some (u32 m.body 0)) ∧
      (u.port p).record.serial = some (u32 m.body 0) ∧ (u.port p).record.name = m.body.drop 5 ∧
      (u.port p).record.lossHold = (s.port p).record.lossHold ∧
      (u.portState p = if s.portState p = .linked then .attached else s.portState p) ∧
      (s.portState p = .linked ∨ fresh = true → (u.port p).record.lastSerial = some (u32 m.body 0)) ∧
      (fresh = false → ∀ c, u.desk p c = s.desk p c) ∧
      (fresh = true → ∀ c, (u.desk p c).trim = 0 ∧ (u.desk p c).mode = .track ∧ (u.desk p c).anchor = (s.channel c).net ∧
        (u.desk p c).comp = 0 ∧ (u.desk p c).limited = false ∧ (u.desk p c).limitArmed = true ∧
        (u.desk p c).clipArmed = true ∧ (u.desk p c).peak = 0 ∧ (u.desk p c).goal = 65536) ∧
      (s.portState p ≠ .linked → fresh = true → ∀ x ∈ u.talk.claims, x.port ≠ p) ∧
      (s.portState p ≠ .linked → fresh = true → ∀ pr, s.consent.proposal = some pr →
        (pr.proposer = p → u.consent = { s.consent with
            proposal := none, lastOutcome := some { number := pr.number, action := pr.action, proposer := p,
                                                    ending := .withdrawn } } ∧
          Posted (.consentEnded pr.number pr.action p .withdrawn none (some .departure)) u) ∧
        (pr.proposer ≠ p →
          u.consent = { s.consent with proposal := some { pr with voters := pr.voters.put p false } })) ∧
      (s.portState p = .linked ∨ fresh = false ∨ s.consent.proposal = none → u.consent = s.consent) ∧
      (s.portState p = .linked → Posted (portReport p .attached u) u) ∧
      (s.portState p ≠ .linked → fresh = true → Posted (portReport p .identityChanged u) u))

/-- DETACH (R33): from ATTACHED the port is LINKED, from ISOLATED VACANT with its queues emptied before the reply joins.
That the immediate requests waiting for their rows go with those queues is deduced (Assumption 5). -/
def Obligations.DetachEndsTheAttachment : Prop :=
  ∀ (p : Port) (m : Message) (s : State), Accepted p kindDetach m s → ∃ u,
    exec (.detach p) s = .next (answered p m .done 1 [] u) ∧
    (s.portState p = .attached →
      (u.port p).record = { (s.port p).record with state := .linked, serial := none, name := [] } ∧
      (u.port p).control.requests = (s.port p).control.requests) ∧
    (s.portState p = .isolated →
      (u.port p).record = { (s.port p).record with state := .vacant, serial := none, name := [], lossHold := none } ∧
      (u.port p).control = { Control.reset with outbound := (s.port p).control.outbound }) ∧
    Posted (portReport p .detached u) u

/-! ### The control channel and the hub settings (chapter 3) -/

/-- The control bytes of a whole message, the first marked START, make one queued request at the tail of the request queue
(R39, R41, R42), with HOLD set when 6 or more are then in the queue (R43); with 8 in the queue it is lost, with REQUEST LOST
(R42). An immediate request is set apart (R41), in a list of the model's own (Assumption 5). A START within an assembly, a body
length above 61 and a missing frame discard the assembly, each with MESSAGE DROPPED and its reason (R40); a byte that is no
START begins none (R39). A message runs on over the frames played, each with at most four valid control bytes; a frame with
none raises the idle count (R39, R40, R168). -/
def Obligations.MessageAssembles : Prop :=
  ∀ (p : Port) (s : State),
    (∀ m : Message, (s.port p).control.assembly = none → m.body.length ≤ 61 → ∀ t : State,
      t = takeControl p ({ byte := m.kind, start := true } ::
          ([m.tag, byte m.body.length] ++ m.body).map fun b => { byte := b, start := false }) s →
        (isImmediate m.kind = true ↔ m.kind = kindTalkOff ∨ m.kind = kindObject) ∧
        (isImmediate m.kind = true → t = modControl p (fun k => { k with arrived := k.arrived ++ [m] }) s) ∧
        (isImmediate m.kind = false → (s.port p).control.requests.length < 8 →
          t = modControl p (fun k => { k with requests := k.requests ++ [m],
                                              hold := k.hold || decide (6 ≤ k.requests.length + 1) }) s) ∧
        (isImmediate m.kind = false → 8 ≤ (s.port p).control.requests.length →
          t = postTo p (.requestLost m.kind m.tag 1) s)) ∧
    (∀ b : Byte, (s.port p).control.assembly = none → takeControl p [{ byte := b, start := false }] s = s) ∧
    (∀ l l' : List ControlByte, l ≠ [] → l' ≠ [] → takeControl p (l ++ l') s = takeControl p l' (takeControl p l s)) ∧
    takeControl p [] s = modControl p
      (fun k => { k with assembly := k.assembly.map fun a => { a with idle := a.idle + 1 } }) s ∧
    (∀ b : UpBytes, (upCopy b).control.length ≤ 4) ∧
    ((s.port p).control.assembly = none → ∀ why, dropAssembly p why s = s) ∧
    ∀ a, (s.port p).control.assembly = some a →
      (∀ why, dropAssembly p why s =
        postTo p (.messageDropped why (a.bytes[1]?) 1) (modControl p (fun k => { k with assembly := none }) s)) ∧
      (∀ b, takeControl p [{ byte := b, start := true }] s =
        modControl p (fun k => { k with assembly := some { bytes := [b], idle := 0 } })
          (postTo p (.messageDropped .newStart (a.bytes[1]?) 1) (modControl p (fun k => { k with assembly := none }) s))) ∧
      (∀ b : Byte, a.bytes.length = 2 → 61 < b.toNat → takeControl p [{ byte := b, start := false }] s =
        postTo p (.messageDropped .length (a.bytes[1]?) 1) (modControl p (fun k => { k with assembly := none }) s)) ∧
      ∀ (inp : FrameInputs) (k : Nat), s.power = .running → s.begun = true → s.played = false → k ≤ 32768 →
        ((s.port p).merge.next + (s.port p).merge.offset + k) % 65536 = s.hubFrame % 65536 →
        ∀ u, u = (s.port p).movedOn k → chooseCopy u (u.merge.entries.get (Fin.ofNat 8 u.merge.next)) = none →
          ∃ t, exec (.playout inp) s = .next t ∧ (t.port p).control.assembly = none ∧
            (s.portState p = .vacant → (t.port p).control.reports = (s.port p).control.reports) ∧
            (s.portState p ≠ .vacant → (s.port p).control.reports = [] →
              (t.port p).control.reports = [.messageDropped .missingFrame (a.bytes[1]?) 1])

/-- The refusals of the control channel unit, for every queued kind (R44, R45, R47): an unknown kind, a wrong body length,
and a request not available in the port's state change nothing but the queues. A request waits while the reply queue is
full, or while another kind stands at the head. The immediate requests have their own checks (R46): lost with a full reply
queue, MALFORMED, NOT_ATTACHED. That a row which names another kind than the head's, or finds no request, has no effect is the
model's choice (Assumption 6), and so is the list `arrived` in which an immediate request waits for its row, which makes its
checks (Assumption 5). The UNKNOWN reply's kind byte is Assumption 42. The table of R45 says which kinds a port state makes
available, and that of R169 which length a body must have. -/
def Obligations.RequestsAreCheckedFirst : Prop :=
  ∀ (p : Port) (m : Message) (rest : List Message) (s : State),
    (∀ x ∈ queuedKinds, Waiting p x.1 m s →
      (bodyLengthRight x.1 m.body = false → exec (x.2 p) s = .next (answered p m .malformed 0 [] s)) ∧
      (bodyLengthRight x.1 m.body = true → available x.1 (s.portState p) = false →
        exec (x.2 p) s = .next (answered p m .notAttached 0 [] s))) ∧
    (isRequestKind m.kind = false → Waiting p m.kind m s →
      exec (.unknownRequest p) s = .next (answered p m .unknown 0 [] s)) ∧
    (∀ x ∈ queuedKinds, (s.port p).control.requests = [] ∨ 8 ≤ (s.port p).control.replies.length ∨
      (s.port p).control.requests.head?.any (fun r => decide (r.kind ≠ x.1)) = true → exec (x.2 p) s = .next s) ∧
    (∀ x ∈ immediateKinds, Arrived p x.1 m rest s →
      (8 ≤ (s.port p).control.replies.length →
        exec (x.2 p) s = .next (postTo p (.requestLost m.kind m.tag 1) (taking p rest s))) ∧
      ((s.port p).control.replies.length < 8 → bodyLengthRight x.1 m.body = false →
        exec (x.2 p) s = .next (answeredNow p m .malformed 0 [] (taking p rest s))) ∧
      ((s.port p).control.replies.length < 8 → bodyLengthRight x.1 m.body = true → s.portState p ≠ .attached →
        exec (x.2 p) s = .next (answeredNow p m .notAttached 0 [] (taking p rest s)))) ∧
    queuedKinds.map (fun x => (x.1.toNat, x.2 p)) =
      [(0x01, .attach p), (0x02, .detach p), (0x03, .readPort p), (0x04, .readLanes p), (0x05, .clearLaneCounters p),
        (0x06, .setPort p), (0x07, .readHub p), (0x08, .setHub p), (0x09, .readChannels p), (0x0A, .readCards p),
        (0x0B, .setGain p), (0x0C, .stepGain p), (0x0D, .setPad p), (0x0E, .setPhantom p), (0x0F, .setAuthority p),
        (0x10, .setTrim p), (0x11, .setTracking p), (0x12, .armNotices p), (0x13, .readMeters p), (0x14, .setPlan p),
        (0x15, .readPlan p), (0x16, .patchOutput p), (0x17, .setOutput p), (0x18, .readOutputs p), (0x19, .talkOn p),
        (0x1B, .readTalk p), (0x1C, .propose p), (0x1E, .withdraw p), (0x1F, .readConsent p)] ∧
    immediateKinds.map (fun x => (x.1.toNat, x.2 p)) = [(0x1A, .talkOff p), (0x1D, .object p)] ∧
    (∀ k : Byte,
      (isRequestKind k = true ↔ 1 ≤ k.toNat ∧ k.toNat ≤ 0x1F) ∧ available k .vacant = false ∧
      (available k .linked = true ↔ k.toNat ∈ [0x01, 0x03, 0x04, 0x07, 0x09, 0x0A, 0x13, 0x15, 0x18, 0x1B, 0x1F]) ∧
      available k .attached = true ∧ (available k .isolated = true ↔ k.toNat ≠ 0x19 ∧ k.toNat ≠ 0x1C)) ∧
    ∀ body : List Byte,
      (bodyLengthRight 0x01 body = true ↔ 5 ≤ body.length ∧ body.length = 5 + u8 body 4) ∧
      ∀ x ∈ [(0x02, 0), (0x03, 1), (0x04, 1), (0x05, 2), (0x06, 4), (0x07, 0), (0x08, 15), (0x09, 2), (0x0A, 0), (0x0B, 3),
          (0x0C, 3), (0x0D, 3), (0x0E, 3), (0x0F, 4), (0x10, 4), (0x11, 3), (0x12, 3), (0x13, 2), (0x14, 6), (0x15, 1),
          (0x16, 4), (0x17, 11), (0x18, 2), (0x19, 0), (0x1A, 0), (0x1B, 0), (0x1C, 3), (0x1D, 1), (0x1E, 1), (0x1F, 0)],
        (bodyLengthRight (byte x.1) body = true ↔ body.length = x.2)

/-- A report offered to a report queue (R52, R53): it replaces one of its kind and subject in place, or joins the tail, or
with 32 in the queue is dropped and the lost marker set. What replaces an old report is the new one as it is, but for MESSAGE
DROPPED and REQUEST LOST, which count on. That the 32 places of R53 hold for the reports of one patch too, where R137 counts 64
kept, is the model's choice (Assumption 46). -/
def Obligations.ReportsCoalesce : Prop :=
  ∀ (k : Control) (r : Report),
    (∀ (l l' : List Report) (q : Report), k.reports = l ++ q :: l' → q.key = r.key →
      (∀ x ∈ l ++ l', x.key ≠ r.key) → (k.offer r).reports = l ++ q.replacing r :: l' ∧ (k.offer r).lost = k.lost) ∧
    ((∀ x ∈ k.reports, x.key ≠ r.key) → k.reports.length < 32 →
      k.offer r = { k with reports := k.reports ++ [r] }) ∧
    ((∀ x ∈ k.reports, x.key ≠ r.key) → 32 ≤ k.reports.length → k.offer r = { k with lost := true }) ∧
    (∀ why tag n why' tag', (Report.messageDropped why tag n).replacing (.messageDropped why' tag' 1) =
      .messageDropped why' tag' (min 255 (n + 1))) ∧
    (∀ kind tag n kind' tag', (Report.requestLost kind tag n).replacing (.requestLost kind' tag' 1) =
      .requestLost kind' tag' (min 255 (n + 1))) ∧
    ((∀ why tag n, r ≠ .messageDropped why tag n) → (∀ kind tag n, r ≠ .requestLost kind tag n) →
      ∀ q : Report, q.replacing r = r)

/-- The outbound arbiter (R49): a message in progress goes on whatever DESK HOLD says; with none in progress DESK HOLD stops
it, and otherwise the oldest reply starts, or the oldest report when no reply waits, which takes the lost marker with it
(R53). The places of a control field are filled one byte after the other until there is none to send, never more than there
are; that one message may end and the next begin among them is deduced (Assumption 35), and that a reply to a message
whose kind is outside 01h to 1Fh carries that kind with bit 7 set too is the model's choice (Assumption 42). -/
def Obligations.ArbiterSendsRepliesFirst : Prop :=
  ∀ (k : Control) (deskHold : Bool) (n : Nat),
    (∀ b rest, k.outbound = b :: rest → k.nextByte deskHold = some ({ byte := b, start := false }, { k with outbound := rest })) ∧
    (k.outbound = [] → k.nextByte true = none) ∧
    (∀ r rs, k.outbound = [] → k.replies = r :: rs →
      k.nextByte false = some ({ byte := r.kind ||| 0x80, start := true },
        { k with replies := rs, outbound := [r.tag, byte (2 + r.result.length), byte r.status.code, byte r.steps] ++ r.result })) ∧
    (∀ r rs, k.outbound = [] → k.replies = [] → k.reports = r :: rs →
      k.nextByte false = some ({ byte := byte (0x40 + r.key.1), start := true },
        { k with reports := rs, lost := false,
                 outbound := [byte (if k.lost then 1 else 0), byte r.body.length] ++ r.body })) ∧
    (k.outbound = [] → k.replies = [] → k.reports = [] → k.nextByte deskHold = none) ∧
    Control.fill deskHold 0 k = ([], k) ∧
    (k.nextByte deskHold = none → Control.fill deskHold (n + 1) k = ([], k)) ∧
    (∀ x, k.nextByte deskHold = some x →
      Control.fill deskHold (n + 1) k = (x.1 :: (Control.fill deskHold n x.2).1, (Control.fill deskHold n x.2).2)) ∧
    (Control.fill deskHold n k).1.length ≤ n

/-- SET HUB (R55): a bad priority order or clock source refuses the whole request; otherwise every present field is brought
into its range and taken, every absent one stays, and the reply is CLAMPED exactly where a field was brought in. HUB SETTING
is posted, and each block whose setting changed acts on it: every QUALIFYING lane is tested against the qualify time (R10),
every loss hold (R29), the clock (R23), every phantom transition (R105), the head of the talk claim list and each next (R144),
the order of the list (R146), stage talk (R148), and last the window of a pending proposal, which it may carry at once (R155).
The order in which the lanes are tested is the model's (Assumption 36), and so is that of the blocks (Assumption 12); that the
reply to a request which makes its own port VACANT joins the emptied queue is deduced (Assumption 15). -/
def Obligations.SetHubTakesThePresentFields : Prop :=
  ∀ (p : Port) (m : Message) (s : State), Accepted p kindSetHub m s →
    ((u16 m.body 0 / 32 % 2 = 1 ∧ orderGiven m.body = none) ∨ (u16 m.body 0 / 256 % 2 = 1 ∧ 1 < u8 m.body 13) →
      exec (.setHub p) s = .next (answered p m .range 0 [] s)) ∧
    (∀ order, (u16 m.body 0 / 32 % 2 = 1 → orderGiven m.body = some order) →
      (u16 m.body 0 / 256 % 2 = 1 → u8 m.body 13 ≤ 1) →
      ∃ u v, exec (.setHub p) s = .next (answered p m
          (if (u16 m.body 0 % 2 = 1 ∧ 63 < u8 m.body 2) ∨
              (u16 m.body 0 / 2 % 2 = 1 ∧ (u8 m.body 3 < 1 ∨ 20 < u8 m.body 3)) ∨
              (u16 m.body 0 / 4 % 2 = 1 ∧ (u8 m.body 4 < 2 ∨ 30 < u8 m.body 4)) ∨
              (u16 m.body 0 / 8 % 2 = 1 ∧ (u8 m.body 5 < 1 ∨ 30 < u8 m.body 5)) ∨
              (u16 m.body 0 / 16 % 2 = 1 ∧ (u8 m.body 6 < 5 ∨ 120 < u8 m.body 6)) ∨
              (u16 m.body 0 / 64 % 2 = 1 ∧ (u8 m.body 10 < 1 ∨ 20 < u8 m.body 10)) ∨
              (u16 m.body 0 / 128 % 2 = 1 ∧ (u16 m.body 11 < 1 ∨ 1000 < u16 m.body 11)) ∨
              (u16 m.body 0 / 512 % 2 = 1 ∧ 64 < u8 m.body 14)
            then .clamped else .done) 1 [] u) ∧
        v.settings.converterDelay = (if u16 m.body 0 % 2 = 1 then min 63 (u8 m.body 2) else s.settings.converterDelay) ∧
        v.settings.rampTime =
          (if u16 m.body 0 / 2 % 2 = 1 then max 1 (min 20 (u8 m.body 3)) else s.settings.rampTime) ∧
        v.settings.settleTime =
          (if u16 m.body 0 / 4 % 2 = 1 then max 2 (min 30 (u8 m.body 4)) else s.settings.settleTime) ∧
        v.settings.consentWindow =
          (if u16 m.body 0 / 8 % 2 = 1 then max 1 (min 30 (u8 m.body 5)) else s.settings.consentWindow) ∧
        v.settings.liveLimit =
          (if u16 m.body 0 / 16 % 2 = 1 then max 5 (min 120 (u8 m.body 6)) else s.settings.liveLimit) ∧
        v.settings.priority = (if u16 m.body 0 / 32 % 2 = 1 then order else s.settings.priority) ∧
        v.settings.lossHold =
          (if u16 m.body 0 / 64 % 2 = 1 then max 1 (min 20 (u8 m.body 10)) else s.settings.lossHold) ∧
        v.settings.qualifyTime =
          (if u16 m.body 0 / 128 % 2 = 1 then max 1 (min 1000 (u16 m.body 11)) else s.settings.qualifyTime) ∧
        v.settings.source = (if u16 m.body 0 / 256 % 2 = 1 then
          (if u8 m.body 13 = 1 then .wordclock else .internal) else s.settings.source) ∧
        v.settings.stageChannel = (if u16 m.body 0 / 512 % 2 = 1 then ofNum 64 (min 64 (u8 m.body 14))
          else s.settings.stageChannel) ∧
        (v.settings ≠ s.settings → Posted (.hubSetting v.settings) v) ∧ (v.settings = s.settings → v = s) ∧
        v.consent = s.consent ∧
        (v.settings.consentWindow = s.settings.consentWindow → u = v) ∧
        (v.settings.consentWindow ≠ s.settings.consentWindow → exec .consentWindowExpired v = .next u) ∧
        (∀ q n,
          (v.settings.qualifyTime ≠ s.settings.qualifyTime → (s.lane q n).state = .qualifying →
            480 * v.settings.qualifyTime ≤ (s.lane q n).qualify →
              v.lane q n = { s.lane q n with state := .up, misses := 0, overBudget := false } ∧
              ∃ active, Posted (.laneState q n .up .qualified (s.lane q n).lastLag active) v) ∧
          (v.settings.qualifyTime = s.settings.qualifyTime ∨ (s.lane q n).state ≠ .qualifying ∨
              (s.lane q n).qualify < 480 * v.settings.qualifyTime → v.lane q n = s.lane q n)) ∧
        (∀ q e, (s.port q).record.lossHold = some e → s.portState q = .isolated → (v.port q).lanes.anyUp = false →
          (v.settings.lossHold ≠ s.settings.lossHold → 24000 * v.settings.lossHold ≤ e →
            v.portState q = .vacant ∧ Posted (portReport q .holdExpired v) v) ∧
          (v.settings.lossHold = s.settings.lossHold ∨ e < 24000 * v.settings.lossHold →
            (v.port q).record = (s.port q).record)) ∧
        (v.settings.source = s.settings.source → v.clock = s.clock) ∧
        (v.settings.source ≠ s.settings.source → v.settings.source = .wordclock →
          v.clock = { s.clock with state := .holdover, requalify := 0 } ∧ Posted (.clockState .holdover .wordclock) v) ∧
        (v.settings.source ≠ s.settings.source → v.settings.source = .internal →
          v.clock = { s.clock with state := .internal } ∧ Posted (.clockState .internal .internal) v) ∧
        (v.settings.rampTime = s.settings.rampTime → v.settings.settleTime = s.settings.settleTime →
          v.phantom = s.phantom) ∧
        (v.settings.rampTime ≠ s.settings.rampTime ∨ v.settings.settleTime ≠ s.settings.settleTime → StartQueueLaw s →
          ∀ c e, (s.phantomOf c).timer = some e →
            ((s.phantomOf c).state = .rampUp → (v.phantomOf c).state =
              if 4800 * v.settings.rampTime ≤ e then .settleUp else .rampUp) ∧
            ((s.phantomOf c).state = .settleUp → (v.phantomOf c).state =
              if 4800 * v.settings.settleTime ≤ e then .on else .settleUp) ∧
            ((s.phantomOf c).state = .rampDown → e < 4800 * (v.settings.rampTime + v.settings.settleTime) →
              (v.phantomOf c).state = .rampDown) ∧
            ((s.phantomOf c).state = .rampDown → 4800 * (v.settings.rampTime + v.settings.settleTime) ≤ e →
              ((s.channel c).phantom = false → (v.phantomOf c).state = .off) ∧
              ((s.channel c).phantom = true → (v.phantomOf c).state = .queued ∨ (v.phantomOf c).state = .rampUp))) ∧
        (∀ late : Claim → Bool, late = (fun c => decide (48000 * v.settings.liveLimit ≤ c.live)) → ∀ l : List Claim,
          l = (if v.settings.liveLimit = s.settings.liveLimit then s.talk.claims else s.talk.claims.dropWhile late) →
          (s.talk.claims.map Claim.port).Nodup →
            (v.settings.priority = s.settings.priority → v.talk.claims = l) ∧
            (v.settings.priority ≠ s.settings.priority → ∃ l', l'.Perm l ∧
              l'.Pairwise (fun c d => rank v.settings.priority c.port ≤ rank v.settings.priority d.port) ∧
              v.talk.claims = if l'.head?.map Claim.port = l.head?.map Claim.port then l' else l'.dropWhile late)) ∧
        v.talk.taken = s.talk.taken ∧
        v.talk.active = (if v.settings.stageChannel = s.settings.stageChannel then s.talk.active
          else s.talk.taken && v.settings.stageChannel.isSome) ∧
        (v.talk.active ≠ s.talk.active → Posted (.stageTalk v.talk.active s.talk.taken v.settings.stageChannel) v) ∧
        v.channels = s.channels ∧ v.desks = s.desks ∧ v.rate = s.rate)

/-! ### Channels, cards and the card bus (chapter 4) -/

/-- SET GAIN, STEP GAIN and SET PAD (R61, R63 to R67): a bad range or pad code is refused; otherwise the range is taken with
the gain set, limited to 63, with the gain stepped by at most 10 and limited to 0 and 63, or with the pad set. -/
def Obligations.GainAndPadRequestsTakeTheRange : Prop :=
  ∀ (p : Port) (m : Message) (s : State),
    (Accepted p kindSetGain m s → ∀ cs, rangeOf 64 (u8 m.body 0) (u8 m.body 1) = some cs →
      TakesTheRange p m cs (fun v => { v with gain := min 63 (u8 m.body 2) }) (decide (63 < u8 m.body 2)) (fun _ => false) s
        (exec (.setGain p) s)) ∧
    (Accepted p kindStepGain m s → ∀ cs, rangeOf 64 (u8 m.body 0) (u8 m.body 1) = some cs →
      TakesTheRange p m cs
        (fun v => { v with gain := (max 0 (min 63 ((v.gain : Int) + max (-10) (min 10 (s8 m.body 2))))).toNat })
        (decide (s8 m.body 2 < -10 ∨ 10 < s8 m.body 2))
        (fun c => decide (((s.channel c).desired.gain : Int) + max (-10) (min 10 (s8 m.body 2)) < 0 ∨
          63 < ((s.channel c).desired.gain : Int) + max (-10) (min 10 (s8 m.body 2)))) s
        (exec (.stepGain p) s)) ∧
    (Accepted p kindSetPad m s → ∀ cs, rangeOf 64 (u8 m.body 0) (u8 m.body 1) = some cs → u8 m.body 2 ≤ 1 →
      TakesTheRange p m cs (fun v => { v with pad := decide (u8 m.body 2 = 1) }) false (fun _ => false) s
        (exec (.setPad p) s)) ∧
    (Accepted p kindSetPad m s → 1 < u8 m.body 2 → exec (.setPad p) s = .next (answered p m .range 0 [] s)) ∧
    (∀ x ∈ ([(kindSetGain, .setGain), (kindStepGain, .stepGain), (kindSetPad, .setPad)] : List (Byte × (Port → Instr))),
      Accepted p x.1 m s → rangeOf 64 (u8 m.body 0) (u8 m.body 1) = none →
        exec (x.2 p) s = .next (answered p m .range 0 [] s)) ∧
    ∀ a b cs, rangeOf 64 a b = some cs ↔ 1 ≤ a ∧ a ≤ b ∧ b ≤ 64 ∧
      cs = (indexes 64).filter fun c => decide (a ≤ num c) && decide (num c ≤ b)

/-- SET AUTHORITY (R62): ADD puts a port into the sets of the range, REMOVE SELF takes the requester out of them, up to the
first channel that the requester does not hold, and each set that changes is reported with the quiet timer at 0 (R58); a
removal that would leave a channel of the range with no holder, a bad range and an unknown action are refused whole. -/
def Obligations.SetAuthorityTakesTheRange : Prop :=
  ∀ (p q : Port) (m : Message) (s : State), Accepted p kindSetAuthority m s →
    (rangeOf 64 (u8 m.body 0) (u8 m.body 1) = none ∨ u8 m.body 2 = 0 ∨ 2 < u8 m.body 2 ∨
        (u8 m.body 2 = 1 ∧ (u8 m.body 3 = 0 ∨ 3 < u8 m.body 3)) →
      exec (.setAuthority p) s = .next (answered p m .range 0 [] s)) ∧
    ∀ cs, rangeOf 64 (u8 m.body 0) (u8 m.body 1) = some cs →
    (u8 m.body 2 = 1 → u8 m.body 3 = num q → ∃ u,
      exec (.setAuthority p) s = .next (answered p m
        (if (authorised p s cs).length < cs.length then .noAuthority else .done) (authorised p s cs).length [] u) ∧
      ∀ c, (u.channel c = if c ∈ authorised p s cs then
          { s.channel c with authority := (s.channel c).authority.put q true } else s.channel c) ∧
        (c ∈ authorised p s cs → (s.channel c).authority.get q = false → u.retained.quiet = some 0 ∧
          Posted (.settingChanged c (s.channel c).desired (s.channel c).phantom (s.channel c).desiredBy
            ((s.channel c).authority.put q true)) u)) ∧
    (u8 m.body 2 = 2 → (∃ c ∈ cs, (s.channel c).authority.get p = true ∧
        ∀ r, r ≠ p → (s.channel c).authority.get r = false) →
      exec (.setAuthority p) s = .next (answered p m .lastAuthority 0 [] s)) ∧
    (u8 m.body 2 = 2 → (∀ c ∈ cs, (s.channel c).authority.get p = true → ∃ r, r ≠ p ∧
        (s.channel c).authority.get r = true) → ∃ u,
      exec (.setAuthority p) s = .next (answered p m
        (if (authorised p s cs).length < cs.length then .noAuthority else .done) (authorised p s cs).length [] u) ∧
      ∀ c, (u.channel c = if c ∈ authorised p s cs then
          { s.channel c with authority := (s.channel c).authority.put p false } else s.channel c) ∧
        (c ∈ authorised p s cs → u.retained.quiet = some 0 ∧
          Posted (.settingChanged c (s.channel c).desired (s.channel c).phantom (s.channel c).desiredBy
            ((s.channel c).authority.put p false)) u))

/-- An application that has fallen due (R60, R91): of the entries with the first due frame the last is applied, the named
port's anchor becomes the new net gain, and the three records of the channel are computed (R80), with their limit notices
(R82, R83), and step at once (R87). -/
def Obligations.ApplicationsTakeEffect : Prop :=
  ∀ (c : Chan) (e x : Application) (es : List Application) (s : State), s.power = .running →
    (s.channel c).applications = e :: es → e.due ≤ s.hubFrame →
    ((e :: es).filter fun y => y.due = e.due).getLast? = some x →
      ∃ t, exec (.applicationDue c) s = .next t ∧
        t.channel c = { s.channel c with applied := some x.value, applications := es.filter fun y => y.due ≠ e.due } ∧
        Posted (.gainApplied c x.value ((x.value.gain : Int) - if x.value.pad then 20 else 0) x.author x.due) t ∧
        ∀ p,
          (t.desk p c).anchor = (if x.author = some p then
            some ((x.value.gain : Int) - if x.value.pad then 20 else 0) else (s.desk p c).anchor) ∧
          (t.desk p c).trim = (s.desk p c).trim ∧ (t.desk p c).mode = (s.desk p c).mode ∧
          ((t.desk p c).mode = .follow ∨ (t.desk p c).anchor = none → (t.desk p c).wanted = (t.desk p c).trim) ∧
          (∀ a, (t.desk p c).mode = .track → (t.desk p c).anchor = some a → (t.desk p c).wanted =
            (t.desk p c).trim + 10 * (a - ((x.value.gain : Int) - if x.value.pad then 20 else 0))) ∧
          (t.desk p c).comp = max (-400) (min 400 (t.desk p c).wanted) ∧
          LimitTold p c s t ∧
          (t.desk p c).coefficient = coefficientOf (t.desk p c).comp ∧ (t.desk p c).ramp = none

/-- The arbiter of the card bus (R71) and what it starts (R69, R76): the oldest broadcast, then the most overdue card, then
the oldest write of a PRESENT card, then the next card in rotation. A broadcast ends 4 frame periods after its start. That a
card never polled is the most overdue of all is the model's (Assumption 17). -/
def Obligations.BusServesInOrder : Prop :=
  ∀ s : State,
    (∀ b bs, s.bus.broadcasts = b :: bs → busChoice s = .broadcast b) ∧
    (∀ k, s.bus.broadcasts = [] → overdue s k = true →
      (∀ j, overdue s j = true → pollAge s j < pollAge s k ∨ (pollAge s j = pollAge s k ∧ k ≤ j)) →
        busChoice s = .poll k) ∧
    (∀ c l l', s.bus.broadcasts = [] → (∀ k, overdue s k = false) → s.bus.writeQueue = l ++ c :: l' →
      (∀ x ∈ l, s.cardPresent x = false) → s.cardPresent c = true → busChoice s = .write c) ∧
    (s.bus.broadcasts = [] → (∀ k, overdue s k = false) → (∀ x ∈ s.bus.writeQueue, s.cardPresent x = false) →
      busChoice s = .poll (s.bus.lastPolled.elim 0 (· + 1))) ∧
    (s.power = .running → s.bus.transaction = none →
      (∀ k, busChoice s = .poll k → exec .poll s =
        .next { s with bus := { s.bus with transaction := some (.poll k s.hubFrame), lastPolled := some k } }) ∧
      (∀ c, busChoice s = .write c → exec .write s = .next { s with bus := { s.bus with
        transaction := some (.write c (s.channel c).desired
          (decide ((s.phantomOf c).state = .rampUp ∨ (s.phantomOf c).state = .settleUp ∨ (s.phantomOf c).state = .on))
          (s.channel c).desiredBy s.hubFrame) } }) ∧
      (busChoice s = .broadcast .phantomOffAll → exec .phantomOffAll s = .next { s with bus := { s.bus with
        transaction := some (.broadcast .phantomOffAll s.hubFrame), broadcasts := s.bus.broadcasts.tail } }) ∧
      ∀ r, busChoice s = .broadcast (.setRate r) → exec .setRate s = .next { s with bus := { s.bus with
        transaction := some (.broadcast (.setRate r) s.hubFrame), broadcasts := s.bus.broadcasts.tail } }) ∧
    ∀ b start, s.power = .running → s.bus.transaction = some (.broadcast b start) → start + 4 ≤ s.hubFrame →
      exec .broadcastEnd s = .next { s with bus := { s.bus with transaction := none } }

/-- A poll reply in its time (R74): the card is PRESENT and known, the first reply sets the switched and the applied values
and the anchors (R92), with the limit notices of the records it computes (R82, R83), a later one appends an unattributed
application where the values differ (R59), and the phantom sequencer acts on each channel (R106, R107), with PHANTOM STATE for
each change (R111) and with PHANTOM FAULT once, until a reply has cleared the fault mark; what is then left to write is in the
write queue. That the coefficient waits for the next frame is deduced (Assumption 24); a reply at 96 as one in its time is the
model's choice (Assumption 16). -/
def Obligations.PollRepliesAreTaken : Prop :=
  ∀ (k : Card) (d : PollData) (start : Nat) (s : State), s.power = .running →
    s.bus.transaction = some (.poll k start) → start + 24 ≤ s.hubFrame → s.hubFrame ≤ start + 96 →
      ∃ t, exec (.pollReply k d) s = .next t ∧ t.bus.transaction = none ∧
        t.card k = { state := .present, known := true, timeouts := 0, lastPoll := some s.hubFrame,
                     status := some d.status } ∧
        ((s.card k).state = .absent → Posted (.cardState k .present .replied 0 (some d.status)) t) ∧
        ∀ (c : Chan) (x : CardChannel) (v : GainPad), cardOf c = k → d.channels.get (Fin.ofNat 8 c.val) = x →
          v = { gain := min 63 x.gain.toNat, pad := x.pad } →
            (t.channel c).switched = some v ∧ (t.channel c).cardPhantom = some x.phantomOn ∧
            (t.channel c).desired = (s.channel c).desired ∧ (t.channel c).authority = (s.channel c).authority ∧
            (t.channel c).phantom = ((s.channel c).phantom && !x.phantomFault) ∧
            (t.phantomOf c).fault = x.phantomFault ∧
            ((s.card k).known = false → (t.channel c).applied = some v ∧
              (t.channel c).applications = (s.channel c).applications ∧
              ∀ p, ∀ net : Int, net = (v.gain : Int) - (if v.pad then 20 else 0) →
                (t.desk p c).anchor = some ((s.desk p c).anchor.getD net) ∧
                (t.desk p c).wanted = (match (s.desk p c).mode with
                  | .follow => (s.desk p c).trim
                  | .track => (s.desk p c).trim + 10 * ((s.desk p c).anchor.getD net - net))) ∧
            ((s.card k).known = false → ∀ p, LimitTold p c s t ∧ (t.desk p c).trim = (s.desk p c).trim ∧
              (t.desk p c).mode = (s.desk p c).mode ∧ (t.desk p c).coefficient = (s.desk p c).coefficient ∧
              (t.desk p c).comp = max (-400) (min 400 (t.desk p c).wanted) ∧
              (t.desk p c).goal = coefficientOf (t.desk p c).comp) ∧
            ((s.card k).known = true → (∀ p, t.desk p c = s.desk p c) ∧
              (t.channel c).applied = (s.channel c).applied ∧
              (t.channel c).applications = (s.channel c).applications ++
                if (s.channel c).switched = some v then [] else
                  [{ due := max (s.hubFrame + s.settings.converterDelay)
                        ((s.channel c).applications.getLast?.elim 0 Application.due),
                     value := v, author := none }]) ∧
            ((t.channel c).desired ≠ v ∨ x.phantomOn ≠ commanded t c → c ∈ t.bus.writeQueue) ∧
            (x.phantomFault = true → (s.phantomOf c).fault = false →
              Posted (.phantomFault c (s.phantomOf c).state k d.status) t) ∧
            (x.phantomFault = false ∨ (s.phantomOf c).fault = true → ∀ q, ∀ r ∈ (t.port q).control.reports,
              r.key = (Report.phantomFault c .off k 0).key → r ∈ (s.port q).control.reports) ∧
            (x.phantomFault = true → (s.channel c).phantom = true → t.retained.quiet = some 0 ∧
              Posted (.settingChanged c (s.channel c).desired false (s.channel c).desiredBy (s.channel c).authority) t) ∧
            (StartQueueLaw s →
              (x.phantomFault = true → (t.phantomOf c).state = .off ∧
                ((s.phantomOf c).state ≠ .off → (t.phantomOf c).timer = none ∧ PhantomPosted c .off .fault t)) ∧
              (x.phantomFault = false →
                ((s.phantomOf c).state = .off → (t.phantomOf c).state = if x.phantomOn then .rampDown else .off) ∧
                ((s.phantomOf c).state = .off → x.phantomOn = true → PhantomPosted c .rampDown .cardReported t) ∧
                ((s.phantomOf c).state = .queued → x.phantomOn = true → (t.phantomOf c).state = .on ∧
                  PhantomPosted c .on .cardReported t) ∧
                ((s.phantomOf c).state = .settleUp ∨ (s.phantomOf c).state = .on → x.phantomOn = false →
                  (t.phantomOf c).state = .queued → PhantomPosted c .queued .cardReported t) ∧
                ((s.phantomOf c).state ≠ .rampUp → (t.phantomOf c).state = .rampUp →
                  PhantomPosted c .rampUp .started t) ∧
                ((s.phantomOf c).state = .settleUp ∨ (s.phantomOf c).state = .on → x.phantomOn = true →
                  (t.phantomOf c).state = (s.phantomOf c).state) ∧
                ((s.phantomOf c).state = .queued ∨ (s.phantomOf c).state = .settleUp ∨ (s.phantomOf c).state = .on →
                  x.phantomOn = false → (t.phantomOf c).state = .queued ∨ (t.phantomOf c).state = .rampUp) ∧
                ((s.phantomOf c).state = .rampUp ∨ (s.phantomOf c).state = .rampDown →
                  (t.phantomOf c).state = (s.phantomOf c).state)))

/-- A WRITE ACK in its time (R72), and a timeout at 96 frame periods (R73, R108), with CARD STATE and PHANTOM STATE for what
changes. That at 96 either may be taken, that an ACK before 12 is none (Assumption 16), and that the starts a card's absence
frees follow all of its eight channels (Assumption 44) are the model's choices. -/
def Obligations.AcksAndTimeoutsEndTransactions : Prop :=
  ∀ s : State, s.power = .running →
    (∀ c v ph who start, s.bus.transaction = some (.write c v ph who start) → start + 12 ≤ s.hubFrame →
      s.hubFrame ≤ start + 96 → ∃ t, exec (.writeAck (cardOf c) c) s = .next t ∧
        t.bus = { s.bus with
          transaction := none,
          writeQueue := if v = (s.channel c).desired ∧ ph = commanded s c then
            s.bus.writeQueue.filter (fun d => decide (d ≠ c)) else s.bus.writeQueue } ∧
        t.card (cardOf c) = { s.card (cardOf c) with timeouts := 0 } ∧
        t.channel c = { s.channel c with
          switched := some v, cardPhantom := some ph,
          applications := (s.channel c).applications ++
            if (s.channel c).switched = some v then [] else
              [{ due := max (s.hubFrame + s.settings.converterDelay)
                    ((s.channel c).applications.getLast?.elim 0 Application.due),
                 value := v, author := who }] } ∧
        t.phantomOf c = { s.phantomOf c with
          timer := if (s.phantomOf c).state = .rampUp ∨ (s.phantomOf c).state = .rampDown then
              (if ph = commanded s c then some ((s.phantomOf c).timer.getD 0) else none)
            else (s.phantomOf c).timer }) ∧
    ∀ k start, (s.bus.transaction = some (.poll k start) ∨
        ∃ c v ph who, s.bus.transaction = some (.write c v ph who start) ∧ cardOf c = k) → start + 96 ≤ s.hubFrame →
      ∃ t, exec .transactionTimeout s = .next t ∧ t.bus.transaction = none ∧
        (t.card k).timeouts = min 255 ((s.card k).timeouts + 1) ∧ (t.card k).known = (s.card k).known ∧
        (t.card k).lastPoll = (if s.bus.transaction = some (.poll k start) then some s.hubFrame
          else (s.card k).lastPoll) ∧
        ((t.card k).state = if 2 ≤ (s.card k).timeouts then .absent else (s.card k).state) ∧
        ((s.card k).state = .present → 2 ≤ (s.card k).timeouts → ∀ c, cardOf c = k →
          ((s.phantomOf c).state = .rampUp ∨ (s.phantomOf c).state = .settleUp ∨ (s.phantomOf c).state = .on ∨
            (s.phantomOf c).state = .queued → (t.phantomOf c).state = .queued) ∧
          ((s.phantomOf c).state = .rampDown →
            (t.phantomOf c).state = if (s.channel c).phantom then .queued else .off) ∧
          ((s.phantomOf c).state = .off → (t.phantomOf c).state = .off) ∧
          (StartQueueLaw s → (s.phantomOf c).state ≠ (t.phantomOf c).state →
            PhantomPosted c (t.phantomOf c).state .cardAbsent t)) ∧
        ((s.card k).state = .present → 2 ≤ (s.card k).timeouts →
          Posted (.cardState k .absent .noReply (min 255 ((s.card k).timeouts + 1)) (s.card k).status) t)

/-! ### Gain tracking (chapter 5) -/

/-- The coefficient table (R84): round(65,536 × 10^(c/200)) for c of −400 to 400 tenths, rising strictly; dim and fallback
levels take it too. -/
def Obligations.CoefficientTableIsExact : Prop :=
  (∀ c : Int, -400 ≤ c → c ≤ 400 → (coefficientOf c : Int) = round ((65536 : ℝ) * (10 : ℝ) ^ ((c : ℝ) / 200))) ∧
    (∀ c d : Int, -400 ≤ c → c < d → d ≤ 400 → coefficientOf c < coefficientOf d) ∧
    coefficientTable.length = 801 ∧
    (∀ (o : Output) (t : Int), o.dim = .level t → o.dimTarget true = coefficientOf t) ∧
    ∀ (s : State) (c : Chan) (l : Int), silenced s c = false →
      (streamPair s (.fallback c l)).1 = scale (coefficientOf l) (s.mics.get c).first.toInt

/-- A ramp moves the coefficient in force to its target in 32 frames by the formula of R88; at the end the record holds no
ramp. The crossfade, the dim ramp and the two mutes end likewise at their own counts (R21, R120, R132, R133). That each
ends by a row of its own, its count standing until then, is the model's (Assumptions 1 and 29). -/
def Obligations.RampsRunAndEnd : Prop :=
  (∀ (r : DeskRecord) (start target i : Nat), r.ramp = some { start := start, target := target, steps := 0 } →
    r.stepNext = none → 1 ≤ i → i ≤ 32 → (DeskRecord.nextFrame^[i] r).coefficient =
      ((start : Int) + Int.tdiv (((target : Int) - start) * i) 32).toNat ∧
      (i = 32 → (DeskRecord.nextFrame^[i] r).coefficient = target)) ∧
  ∀ s : State, s.power = .running →
    (∀ p c x, (s.desk p c).ramp = some x → 32 ≤ x.steps → ∃ t, exec (.coefficientRampEnd p c) s = .next t ∧
      t.desk p c = { s.desk p c with coefficient := x.target, ramp := none }) ∧
    (∀ o x, (s.output o).crossfade = some x → 480 ≤ x.steps → ∃ t, exec (.crossfadeEnd o) s = .next t ∧
      t.output o = { s.output o with crossfade := none }) ∧
    (∀ o x, (s.output o).dimRamp = some x → 32 ≤ x.steps → ∃ t, exec (.dimRampEnd o) s = .next t ∧
      t.output o = { s.output o with dimCoefficient := x.target, dimRamp := none }) ∧
    (∀ p, (s.port p).merge.mute = some 0 → ∃ t, exec (.playoutMuteEnd p) s = .next t ∧
      (t.port p).merge = { (s.port p).merge with mute := none }) ∧
    (s.rateMute = some 0 → exec .rateMuteEnd s = .next { s with rateMute := none })

/-- SET TRIM and SET TRACKING (R80, R82, R83, R89, R94 to R96): the requesting port's records of the range take the trim,
limited to ±240 tenths, or the mode; a record that changes is computed, with its limit notice, and its coefficient ramps from
the one in force, a ramp toward the same target going on as it was. A bad range and an unknown mode are refused whole. What a
record does whose first step still waits for the next frame is the model's choice (Assumption 51). A record that enters TRACK takes
the anchor of R95 also in a frame in which an application falls due, whatever R90 says of the two orders (Assumption 53). -/
def Obligations.TrimAndTrackingAreTaken : Prop :=
  ∀ (p : Port) (m : Message) (s : State),
    (rangeOf 64 (u8 m.body 0) (u8 m.body 1) = none →
      (Accepted p kindSetTrim m s → exec (.setTrim p) s = .next (answered p m .range 0 [0, 0] s)) ∧
      (Accepted p kindSetTracking m s → exec (.setTracking p) s = .next (answered p m .range 0 [0, 0] s))) ∧
    (Accepted p kindSetTracking m s → 1 < u8 m.body 2 →
      exec (.setTracking p) s = .next (answered p m .range 0 [0, 0] s)) ∧
    ∀ cs, rangeOf 64 (u8 m.body 0) (u8 m.body 1) = some cs →
    (Accepted p kindSetTrim m s → ∀ x : Int, x = max (-240) (min 240 (s16 m.body 2)) → ∃ u,
      exec (.setTrim p) s = .next (answered p m (if x = s16 m.body 2 then .done else .clamped) cs.length
        (limitedFields p cs u ++ signedBytes 2 x) u) ∧
      ∀ c, (c ∉ cs ∨ (s.desk p c).trim = x → u.desk p c = s.desk p c) ∧
        (c ∈ cs → (s.desk p c).trim ≠ x → (u.desk p c).trim = x ∧ (u.desk p c).mode = (s.desk p c).mode ∧
          (u.desk p c).anchor = (s.desk p c).anchor ∧
          ((s.desk p c).mode = .follow ∨ (s.desk p c).anchor = none ∨ (s.channel c).net = none →
            (u.desk p c).wanted = x) ∧
          (∀ a g, (s.desk p c).mode = .track → (s.desk p c).anchor = some a → (s.channel c).net = some g →
            (u.desk p c).wanted = x + 10 * (a - g)) ∧
          (u.desk p c).comp = max (-400) (min 400 (u.desk p c).wanted) ∧ LimitTold p c s u ∧
          (u.desk p c).goal = coefficientOf (u.desk p c).comp ∧
          RampsTo (coefficientOf (u.desk p c).comp) (s.desk p c) (u.desk p c))) ∧
    (Accepted p kindSetTracking m s → u8 m.body 2 ≤ 1 → ∃ u,
      exec (.setTracking p) s = .next (answered p m .done cs.length (limitedFields p cs u) u) ∧
      ∀ c, (c ∉ cs ∨ (s.desk p c).mode = (if u8 m.body 2 = 1 then .follow else .track) → u.desk p c = s.desk p c) ∧
        (c ∈ cs → (s.desk p c).mode = .follow → u8 m.body 2 = 0 → (u.desk p c).mode = .track ∧
          (u.desk p c).anchor = (s.channel c).net) ∧
        (c ∈ cs → (s.desk p c).mode = .track → u8 m.body 2 = 1 → (u.desk p c).mode = .follow ∧
          (u.desk p c).anchor = (s.desk p c).anchor) ∧
        (c ∈ cs → (s.desk p c).mode ≠ (if u8 m.body 2 = 1 then .follow else .track) →
          (u.desk p c).trim = (s.desk p c).trim ∧ (u.desk p c).wanted = (s.desk p c).trim ∧
          (u.desk p c).comp = max (-400) (min 400 (u.desk p c).wanted) ∧ LimitTold p c s u ∧
          (u.desk p c).goal = coefficientOf (u.desk p c).comp ∧
          RampsTo (coefficientOf (u.desk p c).comp) (s.desk p c) (u.desk p c)))

/-- ARM NOTICES (R124), READ METERS (R126) and CLEAR LANE COUNTERS (R12): the flags named are set, the meters read and then
0, the counts of the named lanes 0. A READ METERS item is one 24-bit number (R170): the peak in tenths of dB below full scale,
rounded, at most 1,200 and 1,200 for a peak of 0 (R126); the compensation in force plus 400; the limited flag; and whether the
channel is in the port's mic window. -/
def Obligations.NoticesMetersAndCounters : Prop :=
  ∀ (p q : Port) (m : Message) (s : State),
    (∀ cs, rangeOf 64 (u8 m.body 0) (u8 m.body 1) = some cs →
      (Accepted p kindArmNotices m s → 1 ≤ u8 m.body 2 → u8 m.body 2 ≤ 3 → ∃ u,
        exec (.armNotices p) s = .next (answered p m .done cs.length (limitedFields p cs s) u) ∧
        ∀ c, u.desk p c = if c ∈ cs then { s.desk p c with
          clipArmed := if u8 m.body 2 = 2 then (s.desk p c).clipArmed else true,
          limitArmed := if u8 m.body 2 = 1 then (s.desk p c).limitArmed else true } else s.desk p c) ∧
      (Accepted p kindReadMeters m s → cs.length ≤ 16 → ∃ u,
        exec (.readMeters p) s = .next (answered p m .done cs.length (cs.flatMap (meterItem p s)) u) ∧
        ∀ c, u.desk p c = if c ∈ cs then { s.desk p c with peak := 0 } else s.desk p c) ∧
      (Accepted p kindReadMeters m s → 16 < cs.length → exec (.readMeters p) s = .next (answered p m .range 0 [] s))) ∧
    (∀ c : Chan, -400 ≤ (s.desk p c).comp → (s.desk p c).comp ≤ 400 → ∃ n, meterItem p s c = bytesOf 3 n ∧ n < 2 ^ 24 ∧
      n / 2 ^ 13 = peakTenthsBelow (s.desk p c).peak ∧ ((n / 2 ^ 3 % 2 ^ 10 : Nat) : Int) = (s.desk p c).comp + 400 ∧
      n / 2 ^ 2 % 2 = (s.desk p c).limited.toNat ∧
      n / 2 % 2 = (decide (num c ∈ windowItems 64 (s.port p).plan.mic)).toNat ∧ n % 2 = 0) ∧
    peakTenthsBelow 0 = 1200 ∧
    (∀ peak : Nat, 1 ≤ peak → (peakTenthsBelow peak : Int) =
      max 0 (min 1200 (-round (200 * Real.logb 10 ((peak : ℝ) / 8388608))))) ∧
    (rangeOf 64 (u8 m.body 0) (u8 m.body 1) = none →
      (Accepted p kindArmNotices m s → exec (.armNotices p) s = .next (answered p m .range 0 [] s)) ∧
      (Accepted p kindReadMeters m s → exec (.readMeters p) s = .next (answered p m .range 0 [] s))) ∧
    (Accepted p kindArmNotices m s → u8 m.body 2 = 0 ∨ 3 < u8 m.body 2 →
      exec (.armNotices p) s = .next (answered p m .range 0 [] s)) ∧
    (Accepted p kindClearLaneCounters m s → u8 m.body 0 = num q → 1 ≤ u8 m.body 1 → u8 m.body 1 ≤ 3 → ∃ u,
      exec (.clearLaneCounters p) s = .next (answered p m .done 1 [] u) ∧
      u.lane q .A = (if u8 m.body 1 = 2 then s.lane q .A else { s.lane q .A with errors := 0, drops := 0 }) ∧
      u.lane q .B = (if u8 m.body 1 = 1 then s.lane q .B else { s.lane q .B with errors := 0, drops := 0 }) ∧
      ∀ r, r ≠ q → u.port r = s.port r) ∧
    (Accepted p kindClearLaneCounters m s →
      u8 m.body 0 = 0 ∨ 3 < u8 m.body 0 ∨ u8 m.body 1 = 0 ∨ 3 < u8 m.body 1 →
        exec (.clearLaneCounters p) s = .next (answered p m .range 0 [] s))

/-! ### Phantom (chapter 6) -/

/-- SET PHANTOM (R99 to R101, R103, R104, R111), in a state whose start queue is as R102 has it: the desired phantom of the
range takes the code, up to the first channel without authority, each change with SETTING CHANGED and the quiet timer at 0; an
OFF channel is queued, and may start at once; a QUEUED one leaves the queue (or, started meanwhile, ramps down), and one under
power ramps down. Channels not taken move only by starting. After ON the channels queued, old and new, have been started from
the head on, those on ABSENT cards passed over, up to four in RAMP_UP; no channel starts before an older one on a PRESENT card.
A changed channel's timer runs from 0 where its card phantom is as commanded, and otherwise a write is queued. A bad range or
code is refused whole. The desired phantom that a STARTED report carries is stated for states with no start left to make
(`StartsLaw`, kept by every step: `StepKeepsPhantomLaws`) and for a channel whose desired phantom is on while it is QUEUED. -/
def Obligations.SetPhantomTakesTheRange : Prop :=
  ∀ (p : Port) (m : Message) (s : State), Accepted p kindSetPhantom m s →
    (rangeOf 64 (u8 m.body 0) (u8 m.body 1) = none ∨ 1 < u8 m.body 2 →
      exec (.setPhantom p) s = .next (answered p m .range 0 [] s)) ∧
    ∀ cs, rangeOf 64 (u8 m.body 0) (u8 m.body 1) = some cs → u8 m.body 2 ≤ 1 → StartQueueLaw s → ∃ u,
      exec (.setPhantom p) s = .next (answered p m
        (if (authorised p s cs).length < cs.length then .noAuthority
          else if (authorised p s cs).all s.cardPresent then .done else .deferred)
        (authorised p s cs).length
        (setByte (Bank.tabulate fun k => (authorised p s cs).any fun c => !s.cardPresent c && decide (cardOf c = k)) ++
          [byte u.startQueue.length]) u) ∧
      (∀ joined, joined = (authorised p s cs).filter (fun c =>
          decide (u8 m.body 2 = 1) && decide ((s.phantomOf c).state = .off)) →
        u.startQueue = (s.startQueue ++ joined).filter (fun c => decide ((u.phantomOf c).state = .queued)) ∧
        (u8 m.body 2 = 1 → ∀ c, ((s.phantomOf c).state ≠ .rampUp ∧ (u.phantomOf c).state = .rampUp ↔
          joined ≠ [] ∧ c ∈ ((s.startQueue ++ joined).filter s.cardPresent).take (4 - rampingCount s)))) ∧
      (∀ c ∈ s.startQueue, (u.phantomOf c).state = .rampUp →
        ∀ d ∈ s.startQueue.takeWhile (fun x => decide (x ≠ c)), s.cardPresent d = true →
          (u.phantomOf d).state ≠ .queued) ∧
      ∀ c, (c ∈ authorised p s cs → (s.channel c).phantom ≠ decide (u8 m.body 2 = 1) → u.retained.quiet = some 0 ∧
          Posted (.settingChanged c (s.channel c).desired (decide (u8 m.body 2 = 1)) (s.channel c).desiredBy
            (s.channel c).authority) u) ∧
        ((s.phantomOf c).state ≠ .rampUp → (u.phantomOf c).state = .rampUp →
          (u.phantomOf c).timer = (if (s.channel c).cardPhantom = some true then some 0 else none) ∧
          c ∈ u.bus.writeQueue ∧
          (StartsLaw s ∨ ((s.phantomOf c).state = .queued → (s.channel c).phantom = true) →
            PhantomPosted c .rampUp .started u)) ∧
        ((s.phantomOf c).state ≠ .rampDown → (u.phantomOf c).state = .rampDown →
          (u.phantomOf c).timer = (if (s.channel c).cardPhantom = some false then some 0 else none) ∧
          ((s.channel c).cardPhantom ≠ some false → c ∈ u.bus.writeQueue) ∧ PhantomPosted c .rampDown .requested u) ∧
        ((s.phantomOf c).state = .off → (u.phantomOf c).state = .queued → (u.phantomOf c).timer = none ∧
          PhantomPosted c .queued .requested u) ∧
        ((s.phantomOf c).state = .queued → (u.phantomOf c).state = .off → (u.phantomOf c).timer = none ∧
          PhantomPosted c .off .requested u) ∧
        u.channel c = (if c ∈ authorised p s cs then { s.channel c with phantom := decide (u8 m.body 2 = 1) }
          else s.channel c) ∧
        ((s.phantomOf c).state = .queued → (c ∉ authorised p s cs ∨ u8 m.body 2 = 1) →
          (u.phantomOf c).state = .queued ∨ (u.phantomOf c).state = .rampUp) ∧
        (c ∉ authorised p s cs → (s.phantomOf c).state ≠ .queued → u.phantomOf c = s.phantomOf c) ∧
        (c ∈ authorised p s cs → u8 m.body 2 = 1 → (s.phantomOf c).state = .off →
          (u.phantomOf c).state = .queued ∨ (u.phantomOf c).state = .rampUp) ∧
        (c ∈ authorised p s cs → u8 m.body 2 = 1 → (s.phantomOf c).state ≠ .off → (s.phantomOf c).state ≠ .queued →
          u.phantomOf c = s.phantomOf c) ∧
        (c ∈ authorised p s cs → u8 m.body 2 = 0 → (s.phantomOf c).state = .off ∨ (s.phantomOf c).state = .rampDown →
          u.phantomOf c = s.phantomOf c) ∧
        (c ∈ authorised p s cs → u8 m.body 2 = 0 → (s.phantomOf c).state = .queued →
          (u.phantomOf c).state = .off ∨ (u.phantomOf c).state = .rampDown) ∧
        (c ∈ authorised p s cs → u8 m.body 2 = 0 → (s.phantomOf c).state = .rampUp ∨ (s.phantomOf c).state = .settleUp ∨
          (s.phantomOf c).state = .on → (u.phantomOf c).state = .rampDown)

/-- The transitions end when their timers meet the targets (the table of R105), in a state whose start queue is as R102 has
it, with PHANTOM STATE for each (R111). A channel that is queued at the end of its discharge may start at once (R103). -/
def Obligations.PhantomTransitionsEnd : Prop :=
  ∀ (c : Chan) (e : Nat) (s : State), s.power = .running → StartQueueLaw s → (s.phantomOf c).timer = some e →
    ((s.phantomOf c).state = .rampUp → 4800 * s.settings.rampTime ≤ e → ∃ t, exec (.ramped c) s = .next t ∧
      t.phantomOf c = { state := .settleUp, timer := some 0, fault := (s.phantomOf c).fault } ∧
      Posted (.phantomState c .settleUp .ramped (s.channel c).phantom (s.channel c).cardPhantom none (rampingCount s - 1)) t) ∧
    ((s.phantomOf c).state = .settleUp → 4800 * s.settings.settleTime ≤ e → ∃ t, exec (.settled c) s = .next t ∧
      t.phantomOf c = { state := .on, timer := none, fault := (s.phantomOf c).fault } ∧
      Posted (.phantomState c .on .settled (s.channel c).phantom (s.channel c).cardPhantom none (rampingCount s)) t) ∧
    ((s.phantomOf c).state = .rampDown → 4800 * (s.settings.rampTime + s.settings.settleTime) ≤ e →
      ∃ t, exec (.discharged c) s = .next t ∧
        ((s.channel c).phantom = false →
          t.phantomOf c = { state := .off, timer := none, fault := (s.phantomOf c).fault } ∧
          Posted (.phantomState c .off .discharged false (s.channel c).cardPhantom none (rampingCount s)) t) ∧
        ((s.channel c).phantom = true →
          ((t.phantomOf c).state = .queued ∧ (t.phantomOf c).timer = none ∧ t.startQueue.getLast? = some c ∧
            PhantomPosted c .queued .discharged t) ∨
          ((t.phantomOf c).state = .rampUp ∧ c ∈ t.bus.writeQueue ∧ PhantomPosted c .rampUp .started t)))

/-! ### Delivery to the desks (chapter 7) -/

/-- The start of a frame period (R1, R2, R117, R168): every port is sent a frame under the new sequence number, with the
flags and slots as they stand, the up to 4 control bytes that the outbound arbiter gives (R49), and its check; but before the
first frame the running timers count, and ramps, the dim ramps among them, and crossfades take a step (R29, R88, R104, R120,
R129, R132, R133, R163). The clause that fixes the control field is the model's choice in one thing: that the CLIP notices of the
frame's slots are in the report queue before the arbiter fills it, where neither rule orders the two (Assumption 25); that
a message may end and the next begin within the field, under the DESK HOLD last played, is deduced (Assumption 35). That a frame
period starts before it ends is the model's order (Assumption 4), the slots are judged as the frame is built (Assumption 23), and
a crossfade stays at 480 and a mute at 0 until their END rows (Assumption 29). -/
def Obligations.FramePeriodStarts : Prop :=
  ∀ s : State, s.power = .running → s.begun = false ∨ s.played = true → ∃ t, exec .downstreamFrame s = .next t ∧
    t.begun = true ∧ t.played = false ∧ t.hubFrame = (if s.begun then s.hubFrame + 1 else s.hubFrame) ∧
    (∀ p, ∃ f, (t.port p).sent = some f ∧ f.seq = t.hubFrame % 65536 ∧ f.hold = (s.port p).control.hold ∧
      f.rate = s.rate ∧ f.stageTalk = s.talk.active ∧ f.slots = frameSlots s p ∧ f.control.length ≤ 4 ∧
      f.check = checkOf f.covered ∧
      ((∀ w, (s.port p).plan.mic = some w → w.within 64) →
        (f.control, (t.port p).control) =
          Control.fill (s.port p).merge.deskHold 4 ((clipReports s p).foldl Control.offer (s.port p).control))) ∧
    (s.begun = true →
      (∀ p, (t.port p).record =
        { (s.port p).record with lossHold := (s.port p).record.lossHold.map fun e => e + 1 }) ∧
      (∀ c, t.phantomOf c = { s.phantomOf c with timer := (s.phantomOf c).timer.map fun e => e + 1 }) ∧
      (∀ o, (t.output o).timer = (s.output o).timer.map (fun e => e + 1) ∧ (t.output o).state = (s.output o).state ∧
        (t.output o).crossfade = ((s.output o).crossfade.map fun x => { x with steps := min 480 (x.steps + 1) }) ∧
        (∀ x, (s.output o).dimRamp = some x → x.steps < 32 →
          (t.output o).dimRamp = some { x with steps := x.steps + 1 } ∧
          (t.output o).dimCoefficient =
            ((x.start : Int) + Int.tdiv (((x.target : Int) - x.start) * ((x.steps : Int) + 1)) 32).toNat) ∧
        ((∀ x, (s.output o).dimRamp = some x → 32 ≤ x.steps) →
          (t.output o).dimRamp = (s.output o).dimRamp ∧ (t.output o).dimCoefficient = (s.output o).dimCoefficient)) ∧
      t.rateMute = s.rateMute.map (fun e => e - 1) ∧ t.retained.quiet = s.retained.quiet.map (fun e => e + 1) ∧
      t.retained.write = s.retained.write.map (fun w => { w with elapsed := w.elapsed + 1 }) ∧
      ∀ p c, (t.desk p c).coefficient = (s.desk p c).nextFrame.coefficient) ∧
    (s.begun = false → t.rateMute = s.rateMute ∧ t.retained = s.retained ∧ t.phantom = s.phantom ∧
      t.outputs = s.outputs ∧ ∀ p c, (t.desk p c).coefficient = (s.desk p c).coefficient)

/-- Meters and clip notices (R123, R125): the peak of a channel in the port's mic window rises to the magnitude of every
slot delivered that is not SILENCED; a CLIPPED slot of an armed channel posts CLIP to a port that is not VACANT, and disarms
it. A channel outside the window meters nothing. (The report is looked for while DESK HOLD keeps it in the queue.) That the slots
are judged under the state in which the frame is built is the model's (Assumption 23). -/
def Obligations.DeliveredSlotsAreMetered : Prop :=
  ∀ (p : Port) (c : Chan) (s : State), s.power = .running → s.begun = false ∨ s.played = true →
    ∃ t, exec .downstreamFrame s = .next t ∧
      ((∀ n ∈ windowItems 64 (s.port p).plan.mic, chanNumbered n ≠ c) →
        (t.desk p c).peak = (s.desk p c).peak ∧ (t.desk p c).clipArmed = (s.desk p c).clipArmed) ∧
      ∀ n ∈ windowItems 64 (s.port p).plan.mic, chanNumbered n = c →
        (s.desk p c).peak ≤ (t.desk p c).peak ∧
        (∀ x ∈ micSlots s p c, x.cond ≠ .silenced → x.sample.natAbs ≤ (t.desk p c).peak) ∧
        ((t.desk p c).peak = (s.desk p c).peak ∨
          ∃ x ∈ micSlots s p c, x.cond ≠ .silenced ∧ (t.desk p c).peak = x.sample.natAbs) ∧
        ((∀ x ∈ micSlots s p c, x.cond ≠ .clipped) ∨ (s.desk p c).clipArmed = false ∨ s.portState p = .vacant →
          (t.desk p c).clipArmed = (s.desk p c).clipArmed) ∧
        ∀ x, (micSlots s p c).find? (fun y => decide (y.cond = .clipped)) = some x → (s.desk p c).clipArmed = true →
          s.portState p ≠ .vacant → (t.desk p c).clipArmed = false ∧
          ((s.port p).merge.deskHold = true → (s.port p).control.outbound = [] →
            Heard (.clip c s.hubFrame (decide (x.sample < 0)) (s.desk p c).comp (s.channel c).net) p t)

/-- The slots of a downstream frame (R86, R117 to R120, R149). The items of the mic window come first and then the pool
numbers of the return window, one slot each at SINGLE and two at DOUBLE, then silence up to slot 95; slot 96 is the talk
slot. That card, phantom state, coefficient and rate are judged as the frame is built (Assumption 23), and that a rate-change
mute at 0 still mutes (Assumption 29), are the model's. -/
def Obligations.FrameSlotsFollowThePlan : Prop :=
  ∀ (s : State) (p : Port),
    (planSlots s p).length = (match s.rate with | .single => 1 | .double => 2) * (s.port p).plan.total ∧
    (∀ i : Fin 96, i.val < 95 → (frameSlots s p).get i = (planSlots s p).getD i.val { sample := 0, cond := .silenced }) ∧
    (∀ j n, (windowItems 64 (s.port p).plan.mic)[j]? = some n →
      (s.rate = .single → (planSlots s p)[j]? =
        some (micSlot s p (chanNumbered n) (s.mics.get (chanNumbered n)).first)) ∧
      (s.rate = .double → (planSlots s p)[2 * j]? =
          some (micSlot s p (chanNumbered n) (s.mics.get (chanNumbered n)).first) ∧
        (planSlots s p)[2 * j + 1]? =
          some (micSlot s p (chanNumbered n) (s.mics.get (chanNumbered n)).second))) ∧
    (∀ (j : Nat) (q : Port) (r : Fin 32),
      (windowItems 96 (s.port p).plan.ret)[j]? = some (32 * q.val + num r) → s.rateMute = none →
      (s.rate = .single → (planSlots s p)[(s.port p).plan.micLength + j]? =
        some ((s.port q).merge.handed.get (Fin.ofNat 33 r.val))) ∧
      (s.rate = .double → ∀ i < 2, (planSlots s p)[2 * ((s.port p).plan.micLength + j) + i]? =
        some (if r.val < 16 then (s.port q).merge.handed.get (Fin.ofNat 33 (2 * r.val + i))
          else { sample := 0, cond := .silenced }))) ∧
    (s.rateMute.isSome = true → ∀ x ∈ planSlots s p, x = { sample := 0, cond := .silenced }) ∧
    (∀ (c : Chan) (x : Sample24),
      (s.rateMute.isSome = true ∨ s.cardPresent c = false ∨ (s.phantomOf c).state = .rampUp ∨
          (s.phantomOf c).state = .settleUp ∨ (s.phantomOf c).state = .rampDown →
        micSlot s p c x = { sample := 0, cond := .silenced }) ∧
      (s.rateMute = none → s.cardPresent c = true → (s.phantomOf c).state = .off ∨ (s.phantomOf c).state = .queued ∨
          (s.phantomOf c).state = .on → ∀ y, y = scale (s.desk p c).coefficient x.toInt →
        (-8388608 ≤ y ∧ y ≤ 8388607 → micSlot s p c x = { sample := y, cond := .normal }) ∧
        (8388607 < y → micSlot s p c x = { sample := 8388607, cond := .clipped }) ∧
        (y < -8388608 → micSlot s p c x = { sample := -8388608, cond := .clipped }))) ∧
    (∀ (k : Nat) (x : Int), 2 * |65536 * scale k x - x * k| ≤ 65536 ∧
      (2 * |65536 * scale k x - x * k| = 65536 → |x * k| < 65536 * |scale k x|)) ∧
    (∀ c, s.talk.active = true → s.settings.stageChannel = some c → (frameSlots s p).get 95 =
      if silenced s c then { sample := 0, cond := .silenced }
      else { sample := (s.mics.get c).first.toInt, cond := .normal }) ∧
    (s.talk.active = false → ∀ x rest, s.talk.claims = x :: rest → (frameSlots s p).get 95 =
      if p = x.port then { sample := 0, cond := .silenced } else (s.port x.port).merge.handed.get 32) ∧
    (s.talk.active = false → s.talk.claims = [] → (frameSlots s p).get 95 = { sample := 0, cond := .silenced })

/-- Windows, SET PLAN and truncation (R113 to R115, R121): a window holds its start and on in window order, past the top of
its range to 1; SET PLAN sets the two windows given where they fit; a plan too long for a rate keeps the first part of its
windows, the return window being cut first. The bytes of the windows in the reply (presence, start, end, zeros for none) are
the model's (Assumption 20). -/
def Obligations.PlansAreSetAndCut : Prop :=
  (∀ (top : Nat) (w : Window), w.within top →
    1 ≤ w.length top ∧ w.length top ≤ top ∧ (windowItems top (some w)).length = w.length top ∧
    (windowItems top (some w)).Nodup ∧ (windowItems top (some w)).getLast? = some w.stop ∧
    ∀ j < w.length top, (windowItems top (some w))[j]? =
      some (if w.start + j ≤ top then w.start + j else w.start + j - top)) ∧
  (∀ top presence a b : Nat,
    windowGiven top 0 a b = some none ∧
    (1 ≤ a → a ≤ top → 1 ≤ b → b ≤ top → windowGiven top 1 a b = some (some { start := a, stop := b })) ∧
    (1 < presence ∨ (presence = 1 ∧ (a = 0 ∨ top < a ∨ b = 0 ∨ top < b)) → windowGiven top presence a b = none)) ∧
  (∀ (p : Port) (m : Message) (s : State), Accepted p kindSetPlan m s →
    (windowGiven 64 (u8 m.body 0) (u8 m.body 1) (u8 m.body 2) = none ∨
        windowGiven 96 (u8 m.body 3) (u8 m.body 4) (u8 m.body 5) = none →
      exec (.setPlan p) s = .next (answered p m .range 0 [] s)) ∧
    ∀ (mic ret : Option Window) (cap : Nat), cap = (match s.rate with | .single => 95 | .double => 47) →
      windowGiven 64 (u8 m.body 0) (u8 m.body 1) (u8 m.body 2) = some mic →
      windowGiven 96 (u8 m.body 3) (u8 m.body 4) (u8 m.body 5) = some ret →
        (cap < windowLength 64 mic + windowLength 96 ret →
          exec (.setPlan p) s = .next (answered p m .planSize 0 [] s)) ∧
        (windowLength 64 mic + windowLength 96 ret ≤ cap →
          exec (.setPlan p) s = .next (answered p m .done 1
            (windowBytes mic ++ windowBytes ret ++ [byte (windowLength 64 mic + windowLength 96 ret), byte cap])
            (modPort p (fun u => { u with plan := { mic := mic, ret := ret } }) s)))) ∧
  ∀ (plan : Plan) (cap : Nat), (∀ w, plan.mic = some w → w.within 64) → (∀ w, plan.ret = some w → w.within 96) →
    (plan.total ≤ cap → plan.truncate cap = plan) ∧
    (cap < plan.total → (plan.truncate cap).total = cap ∧
      windowItems 64 (plan.truncate cap).mic <+: windowItems 64 plan.mic ∧
      windowItems 96 (plan.truncate cap).ret <+: windowItems 96 plan.ret ∧
      ((plan.truncate cap).mic ≠ plan.mic → (plan.truncate cap).ret = none))

/-! ### Stage outputs (chapter 8) -/

/-- PATCH OUTPUT (R130, R135): output first + j of the range takes return r + j of the port, or no source. An output that had
that source changes patched-by alone; another takes the state of its new source's port, WAITING with delay 0 being FALLBACK at
once, with its own report (R130), the last one of the event (Assumption 11), and its crossfade follows its stream. -/
def Obligations.PatchOutputTakesTheRange : Prop :=
  ∀ (p : Port) (m : Message) (s : State), Accepted p kindPatchOutput m s →
    (rangeOf 32 (u8 m.body 0) (u8 m.body 1) = none ∨ 3 < u8 m.body 2 ∨
        (1 ≤ u8 m.body 2 ∧ (u8 m.body 3 = 0 ∨ 32 < u8 m.body 3 + (u8 m.body 1 - u8 m.body 0))) →
      exec (.patchOutput p) s = .next (answered p m .range 0 [] s)) ∧
    ∀ outs, rangeOf 32 (u8 m.body 0) (u8 m.body 1) = some outs → u8 m.body 2 ≤ 3 →
      u8 m.body 2 = 0 ∨ (1 ≤ u8 m.body 3 ∧ u8 m.body 3 + (u8 m.body 1 - u8 m.body 0) ≤ 32) →
      ∃ u, exec (.patchOutput p) s = .next (answered p m .done outs.length [] u) ∧
        ∀ o, (o ∉ outs → u.output o = s.output o) ∧
          ∀ src, o ∈ outs →
            (u8 m.body 2 = 0 ∧ src = none) ∨
              (∃ q r, num q = u8 m.body 2 ∧ num r = u8 m.body 3 + (num o - u8 m.body 0) ∧
                src = some { port := q, ret := r }) →
            ((s.output o).source = src → u.output o = { s.output o with patchedBy := some p }) ∧
            ((s.output o).source ≠ src ∨ (s.output o).patchedBy ≠ some p →
              Posted (.patchChanged o src (some p) (s.output o).fallbackChannel (s.output o).fallbackLevel
                (s.output o).fallbackDelay (s.output o).listen (s.output o).dim p) u) ∧
            ((s.output o).source ≠ src → ∀ st : OutputState × Option Nat,
              st = (match src with
                | none => (.normal, none)
                | some x => match s.portState x.port with
                  | .attached => (.normal, none)
                  | .isolated => if (s.output o).fallbackDelay = 0 then (.fallback, none) else (.waiting, some 0)
                  | .linked => (.fallback, none)
                  | .vacant => (.fallback, none)) →
              ∃ x, u.output o = { s.output o with
                  source := src, patchedBy := some p, state := st.1, timer := st.2, crossfade := x } ∧
                (∀ y, src = some y → s.portState y.port = .isolated → (s.output o).fallbackDelay = 0 →
                  x = fadeTo (fadeTo (s.output o).crossfade (s.output o).stream (.ret y)) (.ret y) (u.output o).stream ∧
                  Posted (.outputState o .fallback .delayExpired src (s.output o).fallbackChannel
                    (s.output o).fallbackLevel none) u) ∧
                ((∀ y, src = some y → s.portState y.port = .isolated → (s.output o).fallbackDelay ≠ 0) →
                  x = fadeTo (s.output o).crossfade (s.output o).stream (u.output o).stream ∧
                  (st.1 ≠ (s.output o).state → Posted (.outputState o st.1 .patched src
                    (s.output o).fallbackChannel (s.output o).fallbackLevel (u.output o).remainingMs) u)))

/-- SET OUTPUT and DELAY EXPIRED (R130, R136): the present fields are brought into their ranges and taken by every output of
the range, and each that changes is reported; a shorter delay may expire a waiting output at once; an expired delay sends the
output to FALLBACK. -/
def Obligations.SetOutputAndDelays : Prop :=
  (∀ (p : Port) (m : Message) (s : State), Accepted p kindSetOutput m s →
    (rangeOf 32 (u8 m.body 0) (u8 m.body 1) = none ∨ (u8 m.body 2 / 8 % 2 = 1 ∧ 1 < u8 m.body 7) ∨
        (u8 m.body 2 / 16 % 2 = 1 ∧ 1 < u8 m.body 8) → exec (.setOutput p) s = .next (answered p m .range 0 [] s)) ∧
    ∀ outs, rangeOf 32 (u8 m.body 0) (u8 m.body 1) = some outs →
      (u8 m.body 2 / 8 % 2 = 1 → u8 m.body 7 ≤ 1) → (u8 m.body 2 / 16 % 2 = 1 → u8 m.body 8 ≤ 1) →
      ∃ u, exec (.setOutput p) s = .next (answered p m
          (if (u8 m.body 2 % 2 = 1 ∧ 64 < u8 m.body 3) ∨
              (u8 m.body 2 / 2 % 2 = 1 ∧ (0 < s16 m.body 4 ∨ s16 m.body 4 < -400)) ∨
              (u8 m.body 2 / 4 % 2 = 1 ∧ 50 < u8 m.body 6) ∨
              (u8 m.body 2 / 16 % 2 = 1 ∧ u8 m.body 8 = 0 ∧ (0 < s16 m.body 9 ∨ s16 m.body 9 < -400))
            then .clamped else .done) outs.length [] u) ∧
        ∀ o, (o ∉ outs → u.output o = s.output o) ∧ (o ∈ outs →
          (u.output o).source = (s.output o).source ∧ (u.output o).patchedBy = (s.output o).patchedBy ∧
          (u.output o).fallbackChannel =
            (if u8 m.body 2 % 2 = 1 then ofNum 64 (min 64 (u8 m.body 3)) else (s.output o).fallbackChannel) ∧
          (u.output o).fallbackLevel =
            (if u8 m.body 2 / 2 % 2 = 1 then max (-400) (min 0 (s16 m.body 4)) else (s.output o).fallbackLevel) ∧
          (u.output o).fallbackDelay =
            (if u8 m.body 2 / 4 % 2 = 1 then min 50 (u8 m.body 6) else (s.output o).fallbackDelay) ∧
          (u.output o).listen = (if u8 m.body 2 / 8 % 2 = 1 then decide (u8 m.body 7 = 1) else (s.output o).listen) ∧
          (u.output o).dim = (if u8 m.body 2 / 16 % 2 = 1 then
              (if u8 m.body 8 = 1 then .mute else .level (max (-400) (min 0 (s16 m.body 9)))) else (s.output o).dim) ∧
          ((u.output o).dim = (s.output o).dim → (u.output o).dimRamp = (s.output o).dimRamp) ∧
          ((u.output o).dim ≠ (s.output o).dim →
            rampGoal (u.output o).dimCoefficient (u.output o).dimRamp = (u.output o).dimTarget (!s.talk.claims.isEmpty)) ∧
          ((u.output o).fallbackDelay = (s.output o).fallbackDelay ∨ (s.output o).state ≠ .waiting →
            (u.output o).state = (s.output o).state ∧ (u.output o).timer = (s.output o).timer ∧
            (u.output o).crossfade = fadeTo (s.output o).crossfade (s.output o).stream (u.output o).stream) ∧
          (∀ e, (s.output o).state = .waiting → (s.output o).timer = some e →
            (u.output o).fallbackDelay ≠ (s.output o).fallbackDelay →
              (4800 * (u.output o).fallbackDelay ≤ e →
                (u.output o).state = .fallback ∧ (u.output o).timer = none) ∧
              (e < 4800 * (u.output o).fallbackDelay →
                (u.output o).state = .waiting ∧ (u.output o).timer = some e)) ∧
          ((u.output o).sameSettings (s.output o) = false → Posted (.patchChanged o (u.output o).source
            (u.output o).patchedBy (u.output o).fallbackChannel (u.output o).fallbackLevel (u.output o).fallbackDelay
            (u.output o).listen (u.output o).dim p) u))) ∧
  ∀ (o : OutNo) (e : Nat) (s : State), s.power = .running → (s.output o).state = .waiting → (s.output o).timer = some e →
    4800 * (s.output o).fallbackDelay ≤ e → ∃ t, exec (.delayExpired o) s = .next t ∧
      t.output o = { s.output o with
        state := .fallback, timer := none,
        crossfade := fadeTo (s.output o).crossfade (s.output o).stream (t.output o).stream } ∧
      Posted (.outputState o .fallback .delayExpired (s.output o).source (s.output o).fallbackChannel
        (s.output o).fallbackLevel none) t

/-- The samples of the stage outputs at the end of a frame period (R128, R132 to R134): the stream, or the crossfade of two,
under the dim coefficient, with the talker's sample added where the output listens, brought to full scale; and 0 while the
rate-change mute runs. And how a crossfade follows a change of stream (the table of R132). That the samples are taken and
judged at PLAYOUT (Assumptions 4 and 23), and a rate-change mute at 0 still mutes (Assumption 29), are the model's. -/
def Obligations.OutputsCarryTheirStreams : Prop :=
  (∀ (inp : FrameInputs) (s : State), s.power = .running → s.begun = true → s.played = false →
    ∃ t, exec (.playout inp) s = .next t ∧ t.mics = inp.mics ∧
      (s.rateMute.isSome = true →
        ∀ o, t.lines.get o = match s.rate with | .single => [0] | .double => [0, 0]) ∧
      (s.rateMute = none → ∀ (o : OutNo) (x : Int × Int) (talker : Int),
        talker = (match s.talk.claims with
          | c :: _ => if (s.output o).listen then ((t.port c.port).merge.handed.get 32).sample else 0
          | [] => 0) →
        ((s.output o).crossfade = none → x = streamPair t (s.output o).stream) →
        (∀ f, (s.output o).crossfade = some f →
          x = (roundDiv ((streamPair t f.old).1 * ((480 : Int) - f.steps) + (streamPair t f.new).1 * f.steps) 480,
            roundDiv ((streamPair t f.old).2 * ((480 : Int) - f.steps) + (streamPair t f.new).2 * f.steps) 480)) →
        t.lines.get o = match s.rate with
          | .single => [max (-8388608) (min 8388607 (scale (s.output o).dimCoefficient x.1 + talker))]
          | .double => [max (-8388608) (min 8388607 (scale (s.output o).dimCoefficient x.1 + talker)),
              max (-8388608) (min 8388607 (scale (s.output o).dimCoefficient x.2 + talker))])) ∧
  (∀ (s : State) (src : Source) (c : Chan) (l : Int), streamPair s .silence = (0, 0) ∧
    (s.rate = .single → (streamPair s (.ret src)).1 =
      ((s.port src.port).merge.handed.get (Fin.ofNat 33 src.ret.val)).sample) ∧
    (s.rate = .double → streamPair s (.ret src) = if src.ret.val < 16 then
        (((s.port src.port).merge.handed.get (Fin.ofNat 33 (2 * src.ret.val))).sample,
          ((s.port src.port).merge.handed.get (Fin.ofNat 33 (2 * src.ret.val + 1))).sample)
      else (0, 0)) ∧
    streamPair s (.fallback c l) = if silenced s c then (0, 0)
      else (scale (coefficientOf l) (s.mics.get c).first.toInt, scale (coefficientOf l) (s.mics.get c).second.toInt)) ∧
  ∀ (old new : Stream) (x : Crossfade),
    (∀ f, fadeTo f old old = f) ∧ (old ≠ new → fadeTo none old new = some { old := old, new := new, steps := 0 }) ∧
    (x.new ≠ x.old → fadeTo (some x) x.new x.old =
      if x.steps = 0 then none else some { old := x.new, new := x.old, steps := 480 - x.steps }) ∧
    (new ≠ x.new → new ≠ x.old → fadeTo (some x) x.new new = some { old := x.new, new := new, steps := 0 })

/-! ### Talkback (chapter 9) -/

/-- The counts at the end of a frame period (R144, R147, R155), and the taking of the stage-talk button's level, with stage
talk recomputed (R147, R148). Counting at PLAYOUT (Assumption 4), and so before a TALK OFF that completes at it is taken
(Assumption 52), a steady count that stays at 960 (Assumption 29) and the record of the frame in which a proposal opened
(Assumption 30) are the model's. -/
def Obligations.EndsOfFramesAreCounted : Prop :=
  (∀ (inp : FrameInputs) (s : State), s.power = .running → s.begun = true → s.played = false →
    ∃ t, exec (.playout inp) s = .next t ∧ t.played = true ∧
      (s.talk.claims = [] → t.talk.claims = []) ∧
      (∀ c rest, s.talk.claims = c :: rest → t.talk.claims = { c with live := c.live + 1 } :: rest) ∧
      t.talk.steady = (if inp.buttonPressed = s.talk.taken then 0 else min 960 (s.talk.steady + 1)) ∧
      t.talk.taken = s.talk.taken ∧ t.talk.active = s.talk.active ∧
      t.consent = { s.consent with
        proposal := s.consent.proposal.map fun pr =>
          if pr.opened = s.hubFrame then pr else { pr with elapsed := pr.elapsed + 1 } }) ∧
  ∀ s : State, s.power = .running → 960 ≤ s.talk.steady → ∃ t, exec .stageTalkTaken s = .next t ∧
    t.talk = { s.talk with taken := !s.talk.taken, steady := 0,
                           active := !s.talk.taken && s.settings.stageChannel.isSome } ∧
    (t.talk.active ≠ s.talk.active → Posted (.stageTalk t.talk.active (!s.talk.taken) s.settings.stageChannel) t)

/-- The talk claim list (R141 to R144), one claim a port: TALK ON inserts a claim at its priority position, TALK OFF removes
it, and the live limit removes the head and each next head that meets it already. The outputs follow a live talker that
appears or disappears (R133). The layout of TALK OFF's reply (Assumption 20), the one byte of the position in TALK ON's
(Assumption 55) and the list in which TALK OFF waits for its row (Assumption 5) are the model's. -/
def Obligations.TalkClaimsComeAndGo : Prop :=
  ∀ (p : Port) (m : Message) (s : State), (s.talk.claims.map Claim.port).Nodup →
    (Accepted p kindTalkOn m s → 1 ≤ s.settings.liveLimit →
      (∀ (i : Nat) (c : Claim), s.talk.claims[i]? = some c → c.port = p → exec (.talkOn p) s =
        .next (answered p m .done 1 (byte (i + 1) :: bytesOf 3 c.live ++ numByte (s.talk.claims.head?.map Claim.port)) s)) ∧
      ((∀ c ∈ s.talk.claims, c.port ≠ p) → ∃ (u : State) (i : Nat), u.talk.claims[i]? = some { port := p, live := 0 } ∧
        exec (.talkOn p) s =
          .next (answered p m .done 1 (byte (i + 1) :: bytesOf 3 0 ++ numByte (u.talk.claims.head?.map Claim.port)) u) ∧
        u.talk.claims.eraseIdx i = s.talk.claims ∧
        (s.talk.claims.Pairwise (fun c d => rank s.settings.priority c.port ≤ rank s.settings.priority d.port) →
          u.talk.claims.Pairwise fun c d => rank s.settings.priority c.port ≤ rank s.settings.priority d.port) ∧
        (∀ o, u.output o =
          if s.talk.claims = [] then (s.output o).redim true else s.output o) ∧
        Posted (.talkState u.talk.claims (u.talk.claims.head?.map Claim.port) .inserted) u ∧
        (∀ c, s.talk.claims.head? = some c → i = 0 → s.portState c.port ≠ .vacant →
          Heard (.talkPreempted 2 c.live (some p)) c.port u))) ∧
    (∀ rest, Arrived p kindTalkOff m rest s → (s.port p).control.replies.length < 8 → m.body = [] →
      s.portState p = .attached →
      ((∀ c ∈ s.talk.claims, c.port ≠ p) → exec (.talkOff p) s =
        .next (answeredNow p m .done 1 [0, 0xFF, 0xFF, 0xFF] (taking p rest s))) ∧
      ∀ c ∈ s.talk.claims, c.port = p → ∃ u, exec (.talkOff p) s =
          .next (answeredNow p m .done 1 (1 :: bytesOf 3 c.live) u) ∧
        u.talk.claims = (if s.talk.claims.head? = some c
          then s.talk.claims.tail.dropWhile fun d => decide (48000 * s.settings.liveLimit ≤ d.live)
          else s.talk.claims.erase c) ∧
        (∀ o, u.output o = if u.talk.claims = [] then (s.output o).redim false else s.output o) ∧
        (u.talk.claims = s.talk.claims.erase c →
          Posted (.talkState u.talk.claims (u.talk.claims.head?.map Claim.port) .released) u)) ∧
    ∀ c rest, s.power = .running → s.talk.claims = c :: rest → 48000 * s.settings.liveLimit ≤ c.live →
      ∃ t, exec .talkTimedOut s = .next t ∧
        t.talk.claims = rest.dropWhile (fun d => decide (48000 * s.settings.liveLimit ≤ d.live)) ∧
        (∀ o, t.output o = if t.talk.claims = [] then (s.output o).redim false else s.output o) ∧
        (s.portState c.port ≠ .vacant → Heard (.talkTimedOut c.live s.settings.liveLimit) c.port t) ∧
        Posted (.talkState t.talk.claims (t.talk.claims.head?.map Claim.port) .timedOut) t

/-! ### Consented actions (chapter 10) -/

/-- PROPOSE (R152 to R154): bad fields, a pending proposal, and a grant already held are refused; otherwise the proposal takes
the next number, with the ATTACHED ports that have a stake as voters, who are asked. With no voters it is carried at once, as
the expiry of its window would carry it. That the reply then gives the voters and the window as they stood at opening is the
model's (Assumption 13), and so are steps done 1 for a GRANT too (Assumption 43) and the one byte of the window (Assumption
58). -/
def Obligations.ProposalsOpen : Prop :=
  ∀ (p : Port) (m : Message) (s : State), Accepted p kindPropose m s →
    ((u8 m.body 0 = 0 ∨ 3 < u8 m.body 0 ∨ (u8 m.body 0 = 1 ∧ 1 < u8 m.body 1) ∨
        (u8 m.body 0 = 3 ∧ (rangeOf 64 (u8 m.body 1) (u8 m.body 2) = none ∨ s.consent.proposal = none ∧
          ∀ cs, rangeOf 64 (u8 m.body 1) (u8 m.body 2) = some cs → ∀ c ∈ cs, (s.channel c).authority.get p = true))) →
      exec (.propose p) s = .next (answered p m .range 0 [] s)) ∧
    ∀ (a : Action) (stake : PortSet) (held : Bool),
      (u8 m.body 0 = 1 ∧ ((u8 m.body 1 = 0 ∧ a = .rate .single) ∨ (u8 m.body 1 = 1 ∧ a = .rate .double)) ∧
          (∀ q, stake.get q = true) ∧ held = false) ∨
        (u8 m.body 0 = 2 ∧ a = .reset ∧ (∀ q, stake.get q = true) ∧ held = false) ∨
        (u8 m.body 0 = 3 ∧ ∃ f l, num f = u8 m.body 1 ∧ num l = u8 m.body 2 ∧ f ≤ l ∧ a = .grant f l ∧
          (∀ q, stake.get q = true ↔ ∃ c, f ≤ c ∧ c ≤ l ∧ (s.channel c).authority.get q = true) ∧
          (held = true ↔ ∀ c, f ≤ c → c ≤ l → (s.channel c).authority.get p = true)) →
      (s.consent.proposal.isSome = true → exec (.propose p) s = .next (answered p m .busy 0 [] s)) ∧
      (s.consent.proposal = none → held = false → s.consent.lastNumber ≤ 255 → ∀ (n : Nat) (voters : PortSet),
        n = (if s.consent.lastNumber = 255 then 1 else s.consent.lastNumber + 1) →
        (∀ q, voters.get q = true ↔ s.portState q = .attached ∧ q ≠ p ∧ stake.get q = true) →
        ∃ u out, exec (.propose p) s = .next
            (answered p m .done 1 ([byte n] ++ setByte voters ++ [byte s.settings.consentWindow, out]) u) ∧
          u.consent.lastNumber = n ∧
          ((∃ q, voters.get q = true) → out = 0 ∧ u.consent = { s.consent with
              lastNumber := n, proposal := some { number := n, action := a, proposer := p, voters := voters, elapsed := 0,
                                                  opened := s.hubFrame } } ∧
            (∀ q, voters.get q = true →
              Heard (.consentAsked n a p voters s.settings.consentWindow) q u) ∧
            u.channels = s.channels ∧ u.settings = s.settings ∧ u.rate = s.rate ∧ u.outputs = s.outputs) ∧
          ((∀ q, voters.get q = false) → out = 1 ∧ u.consent.proposal = none ∧ u.consent.lastOutcome = some
              { number := n, action := a, proposer := p, ending := .carried } ∧
            exec .consentWindowExpired { s with consent := { s.consent with
              lastNumber := n,
              proposal := some { number := n, action := a, proposer := p, voters := voters,
                                 elapsed := 48000 * s.settings.consentWindow, opened := s.hubFrame } } } = .next u))

/-- OBJECT and WITHDRAW (R156, R157): a voter ends the proposal it names as refused, its proposer as withdrawn; every other
port and number changes nothing. The list in which OBJECT waits for its row, which makes its checks, is the model's
(Assumption 5). -/
def Obligations.ProposalsAreEnded : Prop :=
  ∀ (p : Port) (m : Message) (s : State),
    (∀ rest, Arrived p kindObject m rest s → (s.port p).control.replies.length < 8 → m.body.length = 1 →
      s.portState p = .attached →
      ((∀ pr, s.consent.proposal = some pr → pr.number ≠ u8 m.body 0) →
        exec (.object p) s = .next (answeredNow p m .tooLate 0 [] (taking p rest s))) ∧
      ∀ pr, s.consent.proposal = some pr → pr.number = u8 m.body 0 →
        (pr.voters.get p = false → exec (.object p) s = .next (answeredNow p m .notVoter 0 [] (taking p rest s))) ∧
        (pr.voters.get p = true → ∃ u, exec (.object p) s = .next (answeredNow p m .done 1 [] u) ∧
          u.consent = { s.consent with
            proposal := none, lastOutcome := some { number := pr.number, action := pr.action, proposer := pr.proposer,
                                                    ending := .refused } } ∧
          Posted (.consentEnded pr.number pr.action pr.proposer .refused (some p) none) u)) ∧
    (Accepted p kindWithdraw m s →
      ((∀ pr, s.consent.proposal = some pr → pr.proposer = p → pr.number ≠ u8 m.body 0) →
        exec (.withdraw p) s = .next (answered p m .tooLate 0 [] s)) ∧
      ∀ pr, s.consent.proposal = some pr → pr.proposer = p → pr.number = u8 m.body 0 →
        ∃ u, exec (.withdraw p) s = .next (answered p m .done 1 [] u) ∧
          u.consent = { s.consent with
            proposal := none, lastOutcome := some { number := pr.number, action := pr.action, proposer := p,
                                                    ending := .withdrawn } } ∧
          Posted (.consentEnded pr.number pr.action p .withdrawn none (some .request)) u)

/-- The window expires and the proposal is carried (R155): the action of a RATE (R120, R121, R159), a GRANT (R161) or a RESET
(R160) is executed. A RESET goes on as if the report queues had been empty before it (R57). Its outputs take their defaults; one
that had this source keeps its state and its count, now tested against 24,000 frame periods, another takes the state of port
2, and the crossfade and the dim follow (R139). (A port 2 that the new qualify time raises from ISOLATED in the same event
returns its outputs by R131; the order of these effects is the model's, Assumption 12.) The records take the
anchors of R93 also in a frame in which an application falls due, whatever R90 says of the two orders (Assumption 53). -/
def Obligations.CarriedProposalsAreExecuted : Prop :=
  ∀ (pr : Proposal) (s : State), s.power = .running → s.consent.proposal = some pr →
    48000 * s.settings.consentWindow ≤ pr.elapsed → ∃ t, exec .consentWindowExpired s = .next t ∧
      t.consent = { s.consent with
        proposal := none, lastOutcome := some { number := pr.number, action := pr.action, proposer := pr.proposer,
                                                ending := .carried } } ∧
      (∀ r, pr.action = .rate r → t.rate = r ∧ t.rateMute = some 4800 ∧
        (∀ q, (t.port q).plan = (s.port q).plan.truncate (match r with | .single => 95 | .double => 47) ∧
          ((t.port q).plan ≠ (s.port q).plan → s.portState q ≠ .vacant →
            Heard (.planTruncated r (s.port q).plan (t.port q).plan) q t)) ∧
        .setRate r ∈ t.bus.broadcasts ∧ Posted (.consentEnded pr.number pr.action pr.proposer .carried none none) t ∧
        Posted (.rate r s.rate pr.number pr.proposer) t ∧ t.channels = s.channels ∧ t.desks = s.desks ∧
        t.phantom = s.phantom ∧ t.outputs = s.outputs ∧ t.settings = s.settings) ∧
      (∀ f l, pr.action = .grant f l → Posted (.consentEnded pr.number pr.action pr.proposer .carried none none) t ∧
        (∀ c, t.channel c = if f ≤ c ∧ c ≤ l then
          { s.channel c with authority := (s.channel c).authority.put pr.proposer true } else s.channel c) ∧
        (∀ c, f ≤ c → c ≤ l → (s.channel c).authority.get pr.proposer = false → t.retained.quiet = some 0 ∧
          Posted (.settingChanged c (s.channel c).desired (s.channel c).phantom (s.channel c).desiredBy
            ((s.channel c).authority.put pr.proposer true)) t) ∧
        t.rate = s.rate ∧ t.rateMute = s.rateMute ∧ t.desks = s.desks ∧ t.phantom = s.phantom ∧ t.outputs = s.outputs ∧
        t.settings = s.settings) ∧
      (pr.action = .reset → t.settings = { Settings.reset with source := s.settings.source } ∧
        (∀ q, (t.port q).plan =
          { mic := some { start := 1, stop := (match s.rate with | .single => 64 | .double => 47) }, ret := none }) ∧
        (∀ p c, (t.desk p c).trim = 0 ∧ (t.desk p c).mode = .track ∧ (t.desk p c).anchor = (s.channel c).net ∧
          (t.desk p c).comp = 0 ∧ (t.desk p c).limited = false ∧ (t.desk p c).limitArmed = true ∧
          (t.desk p c).clipArmed = true ∧ (t.desk p c).peak = 0 ∧ (t.desk p c).goal = 65536) ∧
        (∀ o, (t.output o).source = some { port := 1, ret := o } ∧ (t.output o).patchedBy = none ∧
          (t.output o).fallbackChannel = none ∧ (t.output o).fallbackLevel = -100 ∧ (t.output o).fallbackDelay = 5 ∧
          (t.output o).listen = true ∧ (t.output o).dim = .level (-200) ∧
          (t.output o).dimCoefficient = (s.output o).dimCoefficient ∧
          rampGoal (t.output o).dimCoefficient (t.output o).dimRamp = 65536) ∧
        exec .consentWindowExpired { s with ports := s.ports.each fun u =>
          { u with control := { u.control with reports := [], lost := false } } } = .next t ∧
        ((s.portState 1 = .isolated → t.portState 1 ≠ .attached) → ∀ (o : OutNo) (st : OutputState × Option Nat),
          st = (if (s.output o).source = some { port := 1, ret := o } then ((s.output o).state, (s.output o).timer)
            else match s.portState 1 with
              | .attached => (.normal, none)
              | .isolated => (.waiting, some 0)
              | .linked => (.fallback, none)
              | .vacant => (.fallback, none)) →
          ∀ fade, fade = fadeTo (s.output o).crossfade (s.output o).stream
            (if st.1 = .fallback then .silence else .ret { port := 1, ret := o }) →
            (st.1 = .waiting ∧ st.2.any (fun e => decide (24000 ≤ e)) = true →
              (t.output o).state = .fallback ∧ (t.output o).timer = none ∧
              (t.output o).crossfade = fadeTo fade (.ret { port := 1, ret := o }) .silence) ∧
            (¬ (st.1 = .waiting ∧ st.2.any (fun e => decide (24000 ≤ e)) = true) →
              (t.output o).state = st.1 ∧ (t.output o).timer = st.2 ∧ (t.output o).crossfade = fade)) ∧
        t.talk.claims = [] ∧ t.rate = s.rate ∧ t.rateMute = s.rateMute ∧ t.channels = s.channels ∧ t.cards = s.cards ∧
        t.clock = s.clock ∧ t.retained = s.retained ∧ Posted (.hubResetDone pr.number pr.proposer) t)

/-! ### The reads -/

/-- The READ requests (R12, R38, R56, R68, R75, R116, R138, R151, R158): each is answered with the values at the moment of
service and changes nothing but the queues of the port that sent it. The field types and the packed items are those of R169
and R170; the layouts of READ PLAN, READ HUB, READ CARDS, READ TALK and READ CONSENT beyond them are the model's (Assumption
20), and so are numbers sent modulo their width (Assumption 18), a live time remaining of 0 past a shortened limit
(Assumption 41), the flag byte of the button's taken level (Assumption 47), and the widths of P, of settings in seconds and of
counts of frames (Assumption 58). -/
def Obligations.ReadsAnswerTheState : Prop :=
  ∀ (p q : Port) (m : Message) (s : State),
    (u8 m.body 0 = num q →
      (Accepted p kindReadPort m s → exec (.readPort p) s = .next (answered p m .done 1
        ([byte (s.portState q).code] ++ bytesOrNone 4 0 (s.port q).record.serial ++ nameBytes (s.port q).record.name ++
          bytesOrNone 4 0 (s.port q).record.lastSerial ++
          (match s.portState q, (s.port q).record.lossHold with
            | .isolated, some e => bytesOf 2 ((24000 * s.settings.lossHold - e + 47) / 48)
            | _, _ => [0xFF, 0xFF]) ++
          [byte (s.port q).merge.offset, byte (preferredCode (s.port q).merge.preferred),
            byte (laneCode (s.port q).merge.active), byte (s.lane q .A).state.code, byte (s.lane q .B).state.code]) s)) ∧
      (Accepted p kindReadLanes m s → exec (.readLanes p) s = .next (answered p m .done 1
        ([byte (s.port q).merge.offset, byte (preferredCode (s.port q).merge.preferred),
            byte (laneCode (s.port q).merge.active)] ++
          [s.lane q .A, s.lane q .B].flatMap fun l =>
            [byte l.state.code, byte (if l.overBudget then 1 else 0)] ++ bytesOrNone 3 0xFFFFFF l.lastLag ++
              bytesOf 3 l.qualify ++ [byte l.misses] ++ bytesOf 2 l.errors ++ [byte l.drops]) s)) ∧
      (Accepted p kindReadPlan m s → exec (.readPlan p) s = .next (answered p m .done 1
        ([byte (rateCode s.rate)] ++ windowBytes (s.port q).plan.mic ++ [byte (s.port q).plan.micLength] ++
          windowBytes (s.port q).plan.ret ++
          (match s.rate with
            | .single => [byte (s.port q).plan.retLength, 95, byte (s.port q).plan.total]
            | .double => [byte (s.port q).plan.retLength, 47, byte (2 * (s.port q).plan.total)]) ++
          bytesOf 3 (s.rateMute.getD 0)) s))) ∧
    (u8 m.body 0 = 0 ∨ 3 < u8 m.body 0 →
      (Accepted p kindReadPort m s → exec (.readPort p) s = .next (answered p m .range 0 [] s)) ∧
      (Accepted p kindReadLanes m s → exec (.readLanes p) s = .next (answered p m .range 0 [] s)) ∧
      (Accepted p kindReadPlan m s → exec (.readPlan p) s = .next (answered p m .range 0 [] s))) ∧
    (Accepted p kindReadHub m s → exec (.readHub p) s = .next (answered p m .done 1
      (settingBytes s.settings ++ [byte s.clock.state.code, byte (rateCode s.rate)] ++
        ([0, 1, 2] : List Port).flatMap fun r =>
          [byte (s.port r).control.requests.length, byte (s.port r).control.replies.length,
            byte (s.port r).control.reports.length, byte (if (s.port r).control.hold then 1 else 0),
            byte (if (s.port r).control.lost then 1 else 0)]) s)) ∧
    (Accepted p kindReadCards m s → exec (.readCards p) s = .next (answered p m .done 1
      ((indexes 8).flatMap (fun k => [byte (s.card k).state.code, byte (if (s.card k).known then 1 else 0),
          byte (s.card k).timeouts] ++ bytesOrNone 2 0xFFFF ((s.card k).lastPoll.map fun e => (s.hubFrame - e) / 48) ++
          [(s.card k).status.getD 0xFF, byte (s.bus.writeQueue.countP fun c => decide (cardOf c = k))]) ++
        [byte s.bus.writeQueue.length, byte s.bus.broadcasts.length]) s)) ∧
    (Accepted p kindReadChannels m s →
      (∀ cs, rangeOf 64 (u8 m.body 0) (u8 m.body 1) = some cs → cs.length ≤ 8 → exec (.readChannels p) s =
        .next (answered p m .done cs.length (cs.flatMap (channelItem s)) s)) ∧
      ((∀ cs, rangeOf 64 (u8 m.body 0) (u8 m.body 1) = some cs → 8 < cs.length) →
        exec (.readChannels p) s = .next (answered p m .range 0 [] s))) ∧
    (Accepted p kindReadOutputs m s →
      (∀ outs, rangeOf 32 (u8 m.body 0) (u8 m.body 1) = some outs → outs.length ≤ 2 → exec (.readOutputs p) s =
        .next (answered p m .done outs.length
          (outs.flatMap (fun o => outputItem (!s.talk.claims.isEmpty) (s.output o)) ++
            numByte (s.talk.claims.head?.map Claim.port)) s)) ∧
      ((∀ outs, rangeOf 32 (u8 m.body 0) (u8 m.body 1) = some outs → 2 < outs.length) →
        exec (.readOutputs p) s = .next (answered p m .range 0 [] s))) ∧
    (Accepted p kindReadTalk m s → s.settings.priority.length = 3 → exec (.readTalk p) s = .next (answered p m .done 1
      (byte s.talk.claims.length ::
        s.talk.claims.flatMap (fun c => byte (num c.port) :: bytesOf 3 c.live ++
          bytesOf 3 (48000 * s.settings.liveLimit - c.live)) ++
        numByte (s.talk.claims.head?.map Claim.port) ++ s.settings.priority.map (fun r => byte (num r)) ++
        [byte s.settings.liveLimit, byte (if s.talk.taken then 1 else 0)] ++ bytesOf 3 s.talk.steady ++
        [byte (if s.talk.active then 1 else 0)] ++ numByte s.settings.stageChannel) s)) ∧
    (Accepted p kindReadConsent m s → exec (.readConsent p) s = .next (answered p m .done 1
      ((match s.consent.proposal with
          | none => [0, 0, 0, 0, 0, 0, 0xFF, 0xFF, 0]
          | some pr => [byte pr.number] ++ actionBytes pr.action ++ [byte (num pr.proposer)] ++ setByte pr.voters ++
              bytesOf 2 ((48000 * s.settings.consentWindow - pr.elapsed + 47) / 48) ++
              [byte (if pr.voters.get p then 1 else 0)]) ++
        [byte s.settings.consentWindow, byte s.consent.lastNumber] ++
        (match s.consent.lastOutcome with
          | none => [0, 0, 0, 0]
          | some x => [byte x.number, byte x.action.code, byte (num x.proposer), byte x.ending.code])) s)) ∧
    (∀ c : Chan, (channelItem s c).length = 7 ∧
      u8 (channelItem s c) 0 = (s.channel c).desired.gain % 64 + 64 * (s.channel c).desired.pad.toNat +
        128 * (s.channel c).phantom.toNat ∧
      ((s.channel c).applied = none → u8 (channelItem s c) 1 = 0 ∧ u8 (channelItem s c) 2 = 0) ∧
      (∀ v, (s.channel c).applied = some v → ∀ w, (s.channel c).switched = some w →
        ∀ ph, (s.channel c).cardPhantom = some ph →
        u8 (channelItem s c) 1 = w.gain % 64 + 64 * w.pad.toNat + 128 * ph.toNat ∧
        u8 (channelItem s c) 2 = v.gain % 64 + 64 * v.pad.toNat + 128) ∧
      (∀ r : Port, u8 (channelItem s c) 3 / 2 ^ r.val % 2 = ((s.channel c).authority.get r).toNat) ∧
      u8 (channelItem s c) 3 / 8 % 4 = (s.channel c).desiredBy.elim 0 num ∧
      u8 (channelItem s c) 3 / 32 % 2 = (decide (c ∈ s.bus.writeQueue)).toNat ∧
      u8 (channelItem s c) 3 / 64 = (match (s.card (cardOf c)).state with | .present => 0 | .absent => 1) ∧
      u8 (channelItem s c) 4 % 8 = (match (s.phantomOf c).state with
        | .off => 0 | .queued => 1 | .rampUp => 2 | .settleUp => 3 | .on => 4 | .rampDown => 5) ∧
      ((s.channel c).applications.length < 16 → u8 (channelItem s c) 4 / 8 = (s.channel c).applications.length) ∧
      u16 (channelItem s c) 5 = ((s.channel c).applications.getLast?.elim 0 Application.due) % 65536) ∧
    (∀ (talking : Bool) (o : Output), (outputItem talking o).length = 29 ∧
      outputItem talking o =
        (match o.source with | none => [0, 0] | some x => [byte (num x.port), byte (num x.ret)]) ++
          [byte (o.patchedBy.elim 0 num), byte (o.fallbackChannel.elim 0 num)] ++ signedBytes 2 o.fallbackLevel ++
          [byte o.fallbackDelay, byte o.listen.toNat] ++
          (match o.dim with | .level x => signedBytes 2 x | .mute => [0x80, 0x00]) ++
          [byte (match o.state with | .normal => 0 | .waiting => 1 | .fallback => 2)] ++
          (match o.state, o.timer with
            | .waiting, some e => bytesOf 2 ((4800 * o.fallbackDelay - e + 47) / 48)
            | _, _ => [0xFF, 0xFF]) ++
          (match o.crossfade with
            | none => [0xFF, 0xFF, 0, 0, 0, 0, 0, 0, 0, 0]
            | some x => bytesOf 2 x.steps ++ streamBytes x.old ++ streamBytes x.new) ++
          bytesOf 3 o.dimCoefficient ++
          bytesOf 3 (if talking then (match o.dim with | .level x => coefficientOf x | .mute => 0) else 65536)) ∧
    streamBytes .silence = [0, 0, 0, 0] ∧
    (∀ src, streamBytes (.ret src) = [1, byte (num src.port), byte (num src.ret), 0]) ∧
    ∀ c l, streamBytes (.fallback c l) = [2, byte (num c)] ++ signedBytes 2 l

end
end

