-- ==== Sys2Proof/Laws/State.lean ====
section
/-! SUPPORT. What each plain update of the state leaves as it was, field by field, and what it makes of the field it
changes. -/

namespace Sys2Proof.Machine

/-! ### modPort -/

@[simp] theorem modPort_pending (p : Port) (f : PortUnit → PortUnit) (s : State) : (modPort p f s).pending = s.pending := rfl
@[simp] theorem modPort_power (p : Port) (f : PortUnit → PortUnit) (s : State) : (modPort p f s).power = s.power := rfl
@[simp] theorem modPort_resetInput (p : Port) (f : PortUnit → PortUnit) (s : State) : (modPort p f s).resetInput = s.resetInput := rfl
@[simp] theorem modPort_hubFrame (p : Port) (f : PortUnit → PortUnit) (s : State) : (modPort p f s).hubFrame = s.hubFrame := rfl
@[simp] theorem modPort_begun (p : Port) (f : PortUnit → PortUnit) (s : State) : (modPort p f s).begun = s.begun := rfl
@[simp] theorem modPort_played (p : Port) (f : PortUnit → PortUnit) (s : State) : (modPort p f s).played = s.played := rfl
@[simp] theorem modPort_freeReads (p : Port) (f : PortUnit → PortUnit) (s : State) : (modPort p f s).freeReads = s.freeReads := rfl
@[simp] theorem modPort_clock (p : Port) (f : PortUnit → PortUnit) (s : State) : (modPort p f s).clock = s.clock := rfl
@[simp] theorem modPort_settings (p : Port) (f : PortUnit → PortUnit) (s : State) : (modPort p f s).settings = s.settings := rfl
@[simp] theorem modPort_channels (p : Port) (f : PortUnit → PortUnit) (s : State) : (modPort p f s).channels = s.channels := rfl
@[simp] theorem modPort_cards (p : Port) (f : PortUnit → PortUnit) (s : State) : (modPort p f s).cards = s.cards := rfl
@[simp] theorem modPort_bus (p : Port) (f : PortUnit → PortUnit) (s : State) : (modPort p f s).bus = s.bus := rfl
@[simp] theorem modPort_desks (p : Port) (f : PortUnit → PortUnit) (s : State) : (modPort p f s).desks = s.desks := rfl
@[simp] theorem modPort_phantom (p : Port) (f : PortUnit → PortUnit) (s : State) : (modPort p f s).phantom = s.phantom := rfl
@[simp] theorem modPort_startQueue (p : Port) (f : PortUnit → PortUnit) (s : State) : (modPort p f s).startQueue = s.startQueue := rfl
@[simp] theorem modPort_supplyGuard (p : Port) (f : PortUnit → PortUnit) (s : State) : (modPort p f s).supplyGuard = s.supplyGuard := rfl
@[simp] theorem modPort_rate (p : Port) (f : PortUnit → PortUnit) (s : State) : (modPort p f s).rate = s.rate := rfl
@[simp] theorem modPort_rateMute (p : Port) (f : PortUnit → PortUnit) (s : State) : (modPort p f s).rateMute = s.rateMute := rfl
@[simp] theorem modPort_outputs (p : Port) (f : PortUnit → PortUnit) (s : State) : (modPort p f s).outputs = s.outputs := rfl
@[simp] theorem modPort_lines (p : Port) (f : PortUnit → PortUnit) (s : State) : (modPort p f s).lines = s.lines := rfl
@[simp] theorem modPort_talk (p : Port) (f : PortUnit → PortUnit) (s : State) : (modPort p f s).talk = s.talk := rfl
@[simp] theorem modPort_consent (p : Port) (f : PortUnit → PortUnit) (s : State) : (modPort p f s).consent = s.consent := rfl
@[simp] theorem modPort_retained (p : Port) (f : PortUnit → PortUnit) (s : State) : (modPort p f s).retained = s.retained := rfl
@[simp] theorem modPort_mics (p : Port) (f : PortUnit → PortUnit) (s : State) : (modPort p f s).mics = s.mics := rfl

/-! ### modRecord -/

@[simp] theorem modRecord_pending (p : Port) (f : PortRecord → PortRecord) (s : State) : (modRecord p f s).pending = s.pending := rfl
@[simp] theorem modRecord_power (p : Port) (f : PortRecord → PortRecord) (s : State) : (modRecord p f s).power = s.power := rfl
@[simp] theorem modRecord_resetInput (p : Port) (f : PortRecord → PortRecord) (s : State) : (modRecord p f s).resetInput = s.resetInput := rfl
@[simp] theorem modRecord_hubFrame (p : Port) (f : PortRecord → PortRecord) (s : State) : (modRecord p f s).hubFrame = s.hubFrame := rfl
@[simp] theorem modRecord_begun (p : Port) (f : PortRecord → PortRecord) (s : State) : (modRecord p f s).begun = s.begun := rfl
@[simp] theorem modRecord_played (p : Port) (f : PortRecord → PortRecord) (s : State) : (modRecord p f s).played = s.played := rfl
@[simp] theorem modRecord_freeReads (p : Port) (f : PortRecord → PortRecord) (s : State) : (modRecord p f s).freeReads = s.freeReads := rfl
@[simp] theorem modRecord_clock (p : Port) (f : PortRecord → PortRecord) (s : State) : (modRecord p f s).clock = s.clock := rfl
@[simp] theorem modRecord_settings (p : Port) (f : PortRecord → PortRecord) (s : State) : (modRecord p f s).settings = s.settings := rfl
@[simp] theorem modRecord_channels (p : Port) (f : PortRecord → PortRecord) (s : State) : (modRecord p f s).channels = s.channels := rfl
@[simp] theorem modRecord_cards (p : Port) (f : PortRecord → PortRecord) (s : State) : (modRecord p f s).cards = s.cards := rfl
@[simp] theorem modRecord_bus (p : Port) (f : PortRecord → PortRecord) (s : State) : (modRecord p f s).bus = s.bus := rfl
@[simp] theorem modRecord_desks (p : Port) (f : PortRecord → PortRecord) (s : State) : (modRecord p f s).desks = s.desks := rfl
@[simp] theorem modRecord_phantom (p : Port) (f : PortRecord → PortRecord) (s : State) : (modRecord p f s).phantom = s.phantom := rfl
@[simp] theorem modRecord_startQueue (p : Port) (f : PortRecord → PortRecord) (s : State) : (modRecord p f s).startQueue = s.startQueue := rfl
@[simp] theorem modRecord_supplyGuard (p : Port) (f : PortRecord → PortRecord) (s : State) : (modRecord p f s).supplyGuard = s.supplyGuard := rfl
@[simp] theorem modRecord_rate (p : Port) (f : PortRecord → PortRecord) (s : State) : (modRecord p f s).rate = s.rate := rfl
@[simp] theorem modRecord_rateMute (p : Port) (f : PortRecord → PortRecord) (s : State) : (modRecord p f s).rateMute = s.rateMute := rfl
@[simp] theorem modRecord_outputs (p : Port) (f : PortRecord → PortRecord) (s : State) : (modRecord p f s).outputs = s.outputs := rfl
@[simp] theorem modRecord_lines (p : Port) (f : PortRecord → PortRecord) (s : State) : (modRecord p f s).lines = s.lines := rfl
@[simp] theorem modRecord_talk (p : Port) (f : PortRecord → PortRecord) (s : State) : (modRecord p f s).talk = s.talk := rfl
@[simp] theorem modRecord_consent (p : Port) (f : PortRecord → PortRecord) (s : State) : (modRecord p f s).consent = s.consent := rfl
@[simp] theorem modRecord_retained (p : Port) (f : PortRecord → PortRecord) (s : State) : (modRecord p f s).retained = s.retained := rfl
@[simp] theorem modRecord_mics (p : Port) (f : PortRecord → PortRecord) (s : State) : (modRecord p f s).mics = s.mics := rfl

/-! ### modLane -/

@[simp] theorem modLane_pending (p : Port) (n : LaneName) (f : Lane → Lane) (s : State) : (modLane p n f s).pending = s.pending := rfl
@[simp] theorem modLane_power (p : Port) (n : LaneName) (f : Lane → Lane) (s : State) : (modLane p n f s).power = s.power := rfl
@[simp] theorem modLane_resetInput (p : Port) (n : LaneName) (f : Lane → Lane) (s : State) : (modLane p n f s).resetInput = s.resetInput := rfl
@[simp] theorem modLane_hubFrame (p : Port) (n : LaneName) (f : Lane → Lane) (s : State) : (modLane p n f s).hubFrame = s.hubFrame := rfl
@[simp] theorem modLane_begun (p : Port) (n : LaneName) (f : Lane → Lane) (s : State) : (modLane p n f s).begun = s.begun := rfl
@[simp] theorem modLane_played (p : Port) (n : LaneName) (f : Lane → Lane) (s : State) : (modLane p n f s).played = s.played := rfl
@[simp] theorem modLane_freeReads (p : Port) (n : LaneName) (f : Lane → Lane) (s : State) : (modLane p n f s).freeReads = s.freeReads := rfl
@[simp] theorem modLane_clock (p : Port) (n : LaneName) (f : Lane → Lane) (s : State) : (modLane p n f s).clock = s.clock := rfl
@[simp] theorem modLane_settings (p : Port) (n : LaneName) (f : Lane → Lane) (s : State) : (modLane p n f s).settings = s.settings := rfl
@[simp] theorem modLane_channels (p : Port) (n : LaneName) (f : Lane → Lane) (s : State) : (modLane p n f s).channels = s.channels := rfl
@[simp] theorem modLane_cards (p : Port) (n : LaneName) (f : Lane → Lane) (s : State) : (modLane p n f s).cards = s.cards := rfl
@[simp] theorem modLane_bus (p : Port) (n : LaneName) (f : Lane → Lane) (s : State) : (modLane p n f s).bus = s.bus := rfl
@[simp] theorem modLane_desks (p : Port) (n : LaneName) (f : Lane → Lane) (s : State) : (modLane p n f s).desks = s.desks := rfl
@[simp] theorem modLane_phantom (p : Port) (n : LaneName) (f : Lane → Lane) (s : State) : (modLane p n f s).phantom = s.phantom := rfl
@[simp] theorem modLane_startQueue (p : Port) (n : LaneName) (f : Lane → Lane) (s : State) : (modLane p n f s).startQueue = s.startQueue := rfl
@[simp] theorem modLane_supplyGuard (p : Port) (n : LaneName) (f : Lane → Lane) (s : State) : (modLane p n f s).supplyGuard = s.supplyGuard := rfl
@[simp] theorem modLane_rate (p : Port) (n : LaneName) (f : Lane → Lane) (s : State) : (modLane p n f s).rate = s.rate := rfl
@[simp] theorem modLane_rateMute (p : Port) (n : LaneName) (f : Lane → Lane) (s : State) : (modLane p n f s).rateMute = s.rateMute := rfl
@[simp] theorem modLane_outputs (p : Port) (n : LaneName) (f : Lane → Lane) (s : State) : (modLane p n f s).outputs = s.outputs := rfl
@[simp] theorem modLane_lines (p : Port) (n : LaneName) (f : Lane → Lane) (s : State) : (modLane p n f s).lines = s.lines := rfl
@[simp] theorem modLane_talk (p : Port) (n : LaneName) (f : Lane → Lane) (s : State) : (modLane p n f s).talk = s.talk := rfl
@[simp] theorem modLane_consent (p : Port) (n : LaneName) (f : Lane → Lane) (s : State) : (modLane p n f s).consent = s.consent := rfl
@[simp] theorem modLane_retained (p : Port) (n : LaneName) (f : Lane → Lane) (s : State) : (modLane p n f s).retained = s.retained := rfl
@[simp] theorem modLane_mics (p : Port) (n : LaneName) (f : Lane → Lane) (s : State) : (modLane p n f s).mics = s.mics := rfl

/-! ### modMerge -/

@[simp] theorem modMerge_pending (p : Port) (f : Merge → Merge) (s : State) : (modMerge p f s).pending = s.pending := rfl
@[simp] theorem modMerge_power (p : Port) (f : Merge → Merge) (s : State) : (modMerge p f s).power = s.power := rfl
@[simp] theorem modMerge_resetInput (p : Port) (f : Merge → Merge) (s : State) : (modMerge p f s).resetInput = s.resetInput := rfl
@[simp] theorem modMerge_hubFrame (p : Port) (f : Merge → Merge) (s : State) : (modMerge p f s).hubFrame = s.hubFrame := rfl
@[simp] theorem modMerge_begun (p : Port) (f : Merge → Merge) (s : State) : (modMerge p f s).begun = s.begun := rfl
@[simp] theorem modMerge_played (p : Port) (f : Merge → Merge) (s : State) : (modMerge p f s).played = s.played := rfl
@[simp] theorem modMerge_freeReads (p : Port) (f : Merge → Merge) (s : State) : (modMerge p f s).freeReads = s.freeReads := rfl
@[simp] theorem modMerge_clock (p : Port) (f : Merge → Merge) (s : State) : (modMerge p f s).clock = s.clock := rfl
@[simp] theorem modMerge_settings (p : Port) (f : Merge → Merge) (s : State) : (modMerge p f s).settings = s.settings := rfl
@[simp] theorem modMerge_channels (p : Port) (f : Merge → Merge) (s : State) : (modMerge p f s).channels = s.channels := rfl
@[simp] theorem modMerge_cards (p : Port) (f : Merge → Merge) (s : State) : (modMerge p f s).cards = s.cards := rfl
@[simp] theorem modMerge_bus (p : Port) (f : Merge → Merge) (s : State) : (modMerge p f s).bus = s.bus := rfl
@[simp] theorem modMerge_desks (p : Port) (f : Merge → Merge) (s : State) : (modMerge p f s).desks = s.desks := rfl
@[simp] theorem modMerge_phantom (p : Port) (f : Merge → Merge) (s : State) : (modMerge p f s).phantom = s.phantom := rfl
@[simp] theorem modMerge_startQueue (p : Port) (f : Merge → Merge) (s : State) : (modMerge p f s).startQueue = s.startQueue := rfl
@[simp] theorem modMerge_supplyGuard (p : Port) (f : Merge → Merge) (s : State) : (modMerge p f s).supplyGuard = s.supplyGuard := rfl
@[simp] theorem modMerge_rate (p : Port) (f : Merge → Merge) (s : State) : (modMerge p f s).rate = s.rate := rfl
@[simp] theorem modMerge_rateMute (p : Port) (f : Merge → Merge) (s : State) : (modMerge p f s).rateMute = s.rateMute := rfl
@[simp] theorem modMerge_outputs (p : Port) (f : Merge → Merge) (s : State) : (modMerge p f s).outputs = s.outputs := rfl
@[simp] theorem modMerge_lines (p : Port) (f : Merge → Merge) (s : State) : (modMerge p f s).lines = s.lines := rfl
@[simp] theorem modMerge_talk (p : Port) (f : Merge → Merge) (s : State) : (modMerge p f s).talk = s.talk := rfl
@[simp] theorem modMerge_consent (p : Port) (f : Merge → Merge) (s : State) : (modMerge p f s).consent = s.consent := rfl
@[simp] theorem modMerge_retained (p : Port) (f : Merge → Merge) (s : State) : (modMerge p f s).retained = s.retained := rfl
@[simp] theorem modMerge_mics (p : Port) (f : Merge → Merge) (s : State) : (modMerge p f s).mics = s.mics := rfl

/-! ### modControl -/

@[simp] theorem modControl_pending (p : Port) (f : Control → Control) (s : State) : (modControl p f s).pending = s.pending := rfl
@[simp] theorem modControl_power (p : Port) (f : Control → Control) (s : State) : (modControl p f s).power = s.power := rfl
@[simp] theorem modControl_resetInput (p : Port) (f : Control → Control) (s : State) : (modControl p f s).resetInput = s.resetInput := rfl
@[simp] theorem modControl_hubFrame (p : Port) (f : Control → Control) (s : State) : (modControl p f s).hubFrame = s.hubFrame := rfl
@[simp] theorem modControl_begun (p : Port) (f : Control → Control) (s : State) : (modControl p f s).begun = s.begun := rfl
@[simp] theorem modControl_played (p : Port) (f : Control → Control) (s : State) : (modControl p f s).played = s.played := rfl
@[simp] theorem modControl_freeReads (p : Port) (f : Control → Control) (s : State) : (modControl p f s).freeReads = s.freeReads := rfl
@[simp] theorem modControl_clock (p : Port) (f : Control → Control) (s : State) : (modControl p f s).clock = s.clock := rfl
@[simp] theorem modControl_settings (p : Port) (f : Control → Control) (s : State) : (modControl p f s).settings = s.settings := rfl
@[simp] theorem modControl_channels (p : Port) (f : Control → Control) (s : State) : (modControl p f s).channels = s.channels := rfl
@[simp] theorem modControl_cards (p : Port) (f : Control → Control) (s : State) : (modControl p f s).cards = s.cards := rfl
@[simp] theorem modControl_bus (p : Port) (f : Control → Control) (s : State) : (modControl p f s).bus = s.bus := rfl
@[simp] theorem modControl_desks (p : Port) (f : Control → Control) (s : State) : (modControl p f s).desks = s.desks := rfl
@[simp] theorem modControl_phantom (p : Port) (f : Control → Control) (s : State) : (modControl p f s).phantom = s.phantom := rfl
@[simp] theorem modControl_startQueue (p : Port) (f : Control → Control) (s : State) : (modControl p f s).startQueue = s.startQueue := rfl
@[simp] theorem modControl_supplyGuard (p : Port) (f : Control → Control) (s : State) : (modControl p f s).supplyGuard = s.supplyGuard := rfl
@[simp] theorem modControl_rate (p : Port) (f : Control → Control) (s : State) : (modControl p f s).rate = s.rate := rfl
@[simp] theorem modControl_rateMute (p : Port) (f : Control → Control) (s : State) : (modControl p f s).rateMute = s.rateMute := rfl
@[simp] theorem modControl_outputs (p : Port) (f : Control → Control) (s : State) : (modControl p f s).outputs = s.outputs := rfl
@[simp] theorem modControl_lines (p : Port) (f : Control → Control) (s : State) : (modControl p f s).lines = s.lines := rfl
@[simp] theorem modControl_talk (p : Port) (f : Control → Control) (s : State) : (modControl p f s).talk = s.talk := rfl
@[simp] theorem modControl_consent (p : Port) (f : Control → Control) (s : State) : (modControl p f s).consent = s.consent := rfl
@[simp] theorem modControl_retained (p : Port) (f : Control → Control) (s : State) : (modControl p f s).retained = s.retained := rfl
@[simp] theorem modControl_mics (p : Port) (f : Control → Control) (s : State) : (modControl p f s).mics = s.mics := rfl

/-! ### modChannel -/

@[simp] theorem modChannel_pending (c : Chan) (f : Channel → Channel) (s : State) : (modChannel c f s).pending = s.pending := rfl
@[simp] theorem modChannel_power (c : Chan) (f : Channel → Channel) (s : State) : (modChannel c f s).power = s.power := rfl
@[simp] theorem modChannel_resetInput (c : Chan) (f : Channel → Channel) (s : State) : (modChannel c f s).resetInput = s.resetInput := rfl
@[simp] theorem modChannel_hubFrame (c : Chan) (f : Channel → Channel) (s : State) : (modChannel c f s).hubFrame = s.hubFrame := rfl
@[simp] theorem modChannel_begun (c : Chan) (f : Channel → Channel) (s : State) : (modChannel c f s).begun = s.begun := rfl
@[simp] theorem modChannel_played (c : Chan) (f : Channel → Channel) (s : State) : (modChannel c f s).played = s.played := rfl
@[simp] theorem modChannel_freeReads (c : Chan) (f : Channel → Channel) (s : State) : (modChannel c f s).freeReads = s.freeReads := rfl
@[simp] theorem modChannel_clock (c : Chan) (f : Channel → Channel) (s : State) : (modChannel c f s).clock = s.clock := rfl
@[simp] theorem modChannel_settings (c : Chan) (f : Channel → Channel) (s : State) : (modChannel c f s).settings = s.settings := rfl
@[simp] theorem modChannel_ports (c : Chan) (f : Channel → Channel) (s : State) : (modChannel c f s).ports = s.ports := rfl
@[simp] theorem modChannel_cards (c : Chan) (f : Channel → Channel) (s : State) : (modChannel c f s).cards = s.cards := rfl
@[simp] theorem modChannel_bus (c : Chan) (f : Channel → Channel) (s : State) : (modChannel c f s).bus = s.bus := rfl
@[simp] theorem modChannel_desks (c : Chan) (f : Channel → Channel) (s : State) : (modChannel c f s).desks = s.desks := rfl
@[simp] theorem modChannel_phantom (c : Chan) (f : Channel → Channel) (s : State) : (modChannel c f s).phantom = s.phantom := rfl
@[simp] theorem modChannel_startQueue (c : Chan) (f : Channel → Channel) (s : State) : (modChannel c f s).startQueue = s.startQueue := rfl
@[simp] theorem modChannel_supplyGuard (c : Chan) (f : Channel → Channel) (s : State) : (modChannel c f s).supplyGuard = s.supplyGuard := rfl
@[simp] theorem modChannel_rate (c : Chan) (f : Channel → Channel) (s : State) : (modChannel c f s).rate = s.rate := rfl
@[simp] theorem modChannel_rateMute (c : Chan) (f : Channel → Channel) (s : State) : (modChannel c f s).rateMute = s.rateMute := rfl
@[simp] theorem modChannel_outputs (c : Chan) (f : Channel → Channel) (s : State) : (modChannel c f s).outputs = s.outputs := rfl
@[simp] theorem modChannel_lines (c : Chan) (f : Channel → Channel) (s : State) : (modChannel c f s).lines = s.lines := rfl
@[simp] theorem modChannel_talk (c : Chan) (f : Channel → Channel) (s : State) : (modChannel c f s).talk = s.talk := rfl
@[simp] theorem modChannel_consent (c : Chan) (f : Channel → Channel) (s : State) : (modChannel c f s).consent = s.consent := rfl
@[simp] theorem modChannel_retained (c : Chan) (f : Channel → Channel) (s : State) : (modChannel c f s).retained = s.retained := rfl
@[simp] theorem modChannel_mics (c : Chan) (f : Channel → Channel) (s : State) : (modChannel c f s).mics = s.mics := rfl

/-! ### modCard -/

@[simp] theorem modCard_pending (k : Card) (f : CardRecord → CardRecord) (s : State) : (modCard k f s).pending = s.pending := rfl
@[simp] theorem modCard_power (k : Card) (f : CardRecord → CardRecord) (s : State) : (modCard k f s).power = s.power := rfl
@[simp] theorem modCard_resetInput (k : Card) (f : CardRecord → CardRecord) (s : State) : (modCard k f s).resetInput = s.resetInput := rfl
@[simp] theorem modCard_hubFrame (k : Card) (f : CardRecord → CardRecord) (s : State) : (modCard k f s).hubFrame = s.hubFrame := rfl
@[simp] theorem modCard_begun (k : Card) (f : CardRecord → CardRecord) (s : State) : (modCard k f s).begun = s.begun := rfl
@[simp] theorem modCard_played (k : Card) (f : CardRecord → CardRecord) (s : State) : (modCard k f s).played = s.played := rfl
@[simp] theorem modCard_freeReads (k : Card) (f : CardRecord → CardRecord) (s : State) : (modCard k f s).freeReads = s.freeReads := rfl
@[simp] theorem modCard_clock (k : Card) (f : CardRecord → CardRecord) (s : State) : (modCard k f s).clock = s.clock := rfl
@[simp] theorem modCard_settings (k : Card) (f : CardRecord → CardRecord) (s : State) : (modCard k f s).settings = s.settings := rfl
@[simp] theorem modCard_ports (k : Card) (f : CardRecord → CardRecord) (s : State) : (modCard k f s).ports = s.ports := rfl
@[simp] theorem modCard_channels (k : Card) (f : CardRecord → CardRecord) (s : State) : (modCard k f s).channels = s.channels := rfl
@[simp] theorem modCard_bus (k : Card) (f : CardRecord → CardRecord) (s : State) : (modCard k f s).bus = s.bus := rfl
@[simp] theorem modCard_desks (k : Card) (f : CardRecord → CardRecord) (s : State) : (modCard k f s).desks = s.desks := rfl
@[simp] theorem modCard_phantom (k : Card) (f : CardRecord → CardRecord) (s : State) : (modCard k f s).phantom = s.phantom := rfl
@[simp] theorem modCard_startQueue (k : Card) (f : CardRecord → CardRecord) (s : State) : (modCard k f s).startQueue = s.startQueue := rfl
@[simp] theorem modCard_supplyGuard (k : Card) (f : CardRecord → CardRecord) (s : State) : (modCard k f s).supplyGuard = s.supplyGuard := rfl
@[simp] theorem modCard_rate (k : Card) (f : CardRecord → CardRecord) (s : State) : (modCard k f s).rate = s.rate := rfl
@[simp] theorem modCard_rateMute (k : Card) (f : CardRecord → CardRecord) (s : State) : (modCard k f s).rateMute = s.rateMute := rfl
@[simp] theorem modCard_outputs (k : Card) (f : CardRecord → CardRecord) (s : State) : (modCard k f s).outputs = s.outputs := rfl
@[simp] theorem modCard_lines (k : Card) (f : CardRecord → CardRecord) (s : State) : (modCard k f s).lines = s.lines := rfl
@[simp] theorem modCard_talk (k : Card) (f : CardRecord → CardRecord) (s : State) : (modCard k f s).talk = s.talk := rfl
@[simp] theorem modCard_consent (k : Card) (f : CardRecord → CardRecord) (s : State) : (modCard k f s).consent = s.consent := rfl
@[simp] theorem modCard_retained (k : Card) (f : CardRecord → CardRecord) (s : State) : (modCard k f s).retained = s.retained := rfl
@[simp] theorem modCard_mics (k : Card) (f : CardRecord → CardRecord) (s : State) : (modCard k f s).mics = s.mics := rfl

/-! ### modBus -/

@[simp] theorem modBus_pending (f : CardBus → CardBus) (s : State) : (modBus f s).pending = s.pending := rfl
@[simp] theorem modBus_power (f : CardBus → CardBus) (s : State) : (modBus f s).power = s.power := rfl
@[simp] theorem modBus_resetInput (f : CardBus → CardBus) (s : State) : (modBus f s).resetInput = s.resetInput := rfl
@[simp] theorem modBus_hubFrame (f : CardBus → CardBus) (s : State) : (modBus f s).hubFrame = s.hubFrame := rfl
@[simp] theorem modBus_begun (f : CardBus → CardBus) (s : State) : (modBus f s).begun = s.begun := rfl
@[simp] theorem modBus_played (f : CardBus → CardBus) (s : State) : (modBus f s).played = s.played := rfl
@[simp] theorem modBus_freeReads (f : CardBus → CardBus) (s : State) : (modBus f s).freeReads = s.freeReads := rfl
@[simp] theorem modBus_clock (f : CardBus → CardBus) (s : State) : (modBus f s).clock = s.clock := rfl
@[simp] theorem modBus_settings (f : CardBus → CardBus) (s : State) : (modBus f s).settings = s.settings := rfl
@[simp] theorem modBus_ports (f : CardBus → CardBus) (s : State) : (modBus f s).ports = s.ports := rfl
@[simp] theorem modBus_channels (f : CardBus → CardBus) (s : State) : (modBus f s).channels = s.channels := rfl
@[simp] theorem modBus_cards (f : CardBus → CardBus) (s : State) : (modBus f s).cards = s.cards := rfl
@[simp] theorem modBus_desks (f : CardBus → CardBus) (s : State) : (modBus f s).desks = s.desks := rfl
@[simp] theorem modBus_phantom (f : CardBus → CardBus) (s : State) : (modBus f s).phantom = s.phantom := rfl
@[simp] theorem modBus_startQueue (f : CardBus → CardBus) (s : State) : (modBus f s).startQueue = s.startQueue := rfl
@[simp] theorem modBus_supplyGuard (f : CardBus → CardBus) (s : State) : (modBus f s).supplyGuard = s.supplyGuard := rfl
@[simp] theorem modBus_rate (f : CardBus → CardBus) (s : State) : (modBus f s).rate = s.rate := rfl
@[simp] theorem modBus_rateMute (f : CardBus → CardBus) (s : State) : (modBus f s).rateMute = s.rateMute := rfl
@[simp] theorem modBus_outputs (f : CardBus → CardBus) (s : State) : (modBus f s).outputs = s.outputs := rfl
@[simp] theorem modBus_lines (f : CardBus → CardBus) (s : State) : (modBus f s).lines = s.lines := rfl
@[simp] theorem modBus_talk (f : CardBus → CardBus) (s : State) : (modBus f s).talk = s.talk := rfl
@[simp] theorem modBus_consent (f : CardBus → CardBus) (s : State) : (modBus f s).consent = s.consent := rfl
@[simp] theorem modBus_retained (f : CardBus → CardBus) (s : State) : (modBus f s).retained = s.retained := rfl
@[simp] theorem modBus_mics (f : CardBus → CardBus) (s : State) : (modBus f s).mics = s.mics := rfl

/-! ### modDesk -/

@[simp] theorem modDesk_pending (p : Port) (c : Chan) (f : DeskRecord → DeskRecord) (s : State) : (modDesk p c f s).pending = s.pending := rfl
@[simp] theorem modDesk_power (p : Port) (c : Chan) (f : DeskRecord → DeskRecord) (s : State) : (modDesk p c f s).power = s.power := rfl
@[simp] theorem modDesk_resetInput (p : Port) (c : Chan) (f : DeskRecord → DeskRecord) (s : State) : (modDesk p c f s).resetInput = s.resetInput := rfl
@[simp] theorem modDesk_hubFrame (p : Port) (c : Chan) (f : DeskRecord → DeskRecord) (s : State) : (modDesk p c f s).hubFrame = s.hubFrame := rfl
@[simp] theorem modDesk_begun (p : Port) (c : Chan) (f : DeskRecord → DeskRecord) (s : State) : (modDesk p c f s).begun = s.begun := rfl
@[simp] theorem modDesk_played (p : Port) (c : Chan) (f : DeskRecord → DeskRecord) (s : State) : (modDesk p c f s).played = s.played := rfl
@[simp] theorem modDesk_freeReads (p : Port) (c : Chan) (f : DeskRecord → DeskRecord) (s : State) : (modDesk p c f s).freeReads = s.freeReads := rfl
@[simp] theorem modDesk_clock (p : Port) (c : Chan) (f : DeskRecord → DeskRecord) (s : State) : (modDesk p c f s).clock = s.clock := rfl
@[simp] theorem modDesk_settings (p : Port) (c : Chan) (f : DeskRecord → DeskRecord) (s : State) : (modDesk p c f s).settings = s.settings := rfl
@[simp] theorem modDesk_ports (p : Port) (c : Chan) (f : DeskRecord → DeskRecord) (s : State) : (modDesk p c f s).ports = s.ports := rfl
@[simp] theorem modDesk_channels (p : Port) (c : Chan) (f : DeskRecord → DeskRecord) (s : State) : (modDesk p c f s).channels = s.channels := rfl
@[simp] theorem modDesk_cards (p : Port) (c : Chan) (f : DeskRecord → DeskRecord) (s : State) : (modDesk p c f s).cards = s.cards := rfl
@[simp] theorem modDesk_bus (p : Port) (c : Chan) (f : DeskRecord → DeskRecord) (s : State) : (modDesk p c f s).bus = s.bus := rfl
@[simp] theorem modDesk_phantom (p : Port) (c : Chan) (f : DeskRecord → DeskRecord) (s : State) : (modDesk p c f s).phantom = s.phantom := rfl
@[simp] theorem modDesk_startQueue (p : Port) (c : Chan) (f : DeskRecord → DeskRecord) (s : State) : (modDesk p c f s).startQueue = s.startQueue := rfl
@[simp] theorem modDesk_supplyGuard (p : Port) (c : Chan) (f : DeskRecord → DeskRecord) (s : State) : (modDesk p c f s).supplyGuard = s.supplyGuard := rfl
@[simp] theorem modDesk_rate (p : Port) (c : Chan) (f : DeskRecord → DeskRecord) (s : State) : (modDesk p c f s).rate = s.rate := rfl
@[simp] theorem modDesk_rateMute (p : Port) (c : Chan) (f : DeskRecord → DeskRecord) (s : State) : (modDesk p c f s).rateMute = s.rateMute := rfl
@[simp] theorem modDesk_outputs (p : Port) (c : Chan) (f : DeskRecord → DeskRecord) (s : State) : (modDesk p c f s).outputs = s.outputs := rfl
@[simp] theorem modDesk_lines (p : Port) (c : Chan) (f : DeskRecord → DeskRecord) (s : State) : (modDesk p c f s).lines = s.lines := rfl
@[simp] theorem modDesk_talk (p : Port) (c : Chan) (f : DeskRecord → DeskRecord) (s : State) : (modDesk p c f s).talk = s.talk := rfl
@[simp] theorem modDesk_consent (p : Port) (c : Chan) (f : DeskRecord → DeskRecord) (s : State) : (modDesk p c f s).consent = s.consent := rfl
@[simp] theorem modDesk_retained (p : Port) (c : Chan) (f : DeskRecord → DeskRecord) (s : State) : (modDesk p c f s).retained = s.retained := rfl
@[simp] theorem modDesk_mics (p : Port) (c : Chan) (f : DeskRecord → DeskRecord) (s : State) : (modDesk p c f s).mics = s.mics := rfl

/-! ### modPhantom -/

@[simp] theorem modPhantom_pending (c : Chan) (f : PhantomRecord → PhantomRecord) (s : State) : (modPhantom c f s).pending = s.pending := rfl
@[simp] theorem modPhantom_power (c : Chan) (f : PhantomRecord → PhantomRecord) (s : State) : (modPhantom c f s).power = s.power := rfl
@[simp] theorem modPhantom_resetInput (c : Chan) (f : PhantomRecord → PhantomRecord) (s : State) : (modPhantom c f s).resetInput = s.resetInput := rfl
@[simp] theorem modPhantom_hubFrame (c : Chan) (f : PhantomRecord → PhantomRecord) (s : State) : (modPhantom c f s).hubFrame = s.hubFrame := rfl
@[simp] theorem modPhantom_begun (c : Chan) (f : PhantomRecord → PhantomRecord) (s : State) : (modPhantom c f s).begun = s.begun := rfl
@[simp] theorem modPhantom_played (c : Chan) (f : PhantomRecord → PhantomRecord) (s : State) : (modPhantom c f s).played = s.played := rfl
@[simp] theorem modPhantom_freeReads (c : Chan) (f : PhantomRecord → PhantomRecord) (s : State) : (modPhantom c f s).freeReads = s.freeReads := rfl
@[simp] theorem modPhantom_clock (c : Chan) (f : PhantomRecord → PhantomRecord) (s : State) : (modPhantom c f s).clock = s.clock := rfl
@[simp] theorem modPhantom_settings (c : Chan) (f : PhantomRecord → PhantomRecord) (s : State) : (modPhantom c f s).settings = s.settings := rfl
@[simp] theorem modPhantom_ports (c : Chan) (f : PhantomRecord → PhantomRecord) (s : State) : (modPhantom c f s).ports = s.ports := rfl
@[simp] theorem modPhantom_channels (c : Chan) (f : PhantomRecord → PhantomRecord) (s : State) : (modPhantom c f s).channels = s.channels := rfl
@[simp] theorem modPhantom_cards (c : Chan) (f : PhantomRecord → PhantomRecord) (s : State) : (modPhantom c f s).cards = s.cards := rfl
@[simp] theorem modPhantom_bus (c : Chan) (f : PhantomRecord → PhantomRecord) (s : State) : (modPhantom c f s).bus = s.bus := rfl
@[simp] theorem modPhantom_desks (c : Chan) (f : PhantomRecord → PhantomRecord) (s : State) : (modPhantom c f s).desks = s.desks := rfl
@[simp] theorem modPhantom_startQueue (c : Chan) (f : PhantomRecord → PhantomRecord) (s : State) : (modPhantom c f s).startQueue = s.startQueue := rfl
@[simp] theorem modPhantom_supplyGuard (c : Chan) (f : PhantomRecord → PhantomRecord) (s : State) : (modPhantom c f s).supplyGuard = s.supplyGuard := rfl
@[simp] theorem modPhantom_rate (c : Chan) (f : PhantomRecord → PhantomRecord) (s : State) : (modPhantom c f s).rate = s.rate := rfl
@[simp] theorem modPhantom_rateMute (c : Chan) (f : PhantomRecord → PhantomRecord) (s : State) : (modPhantom c f s).rateMute = s.rateMute := rfl
@[simp] theorem modPhantom_outputs (c : Chan) (f : PhantomRecord → PhantomRecord) (s : State) : (modPhantom c f s).outputs = s.outputs := rfl
@[simp] theorem modPhantom_lines (c : Chan) (f : PhantomRecord → PhantomRecord) (s : State) : (modPhantom c f s).lines = s.lines := rfl
@[simp] theorem modPhantom_talk (c : Chan) (f : PhantomRecord → PhantomRecord) (s : State) : (modPhantom c f s).talk = s.talk := rfl
@[simp] theorem modPhantom_consent (c : Chan) (f : PhantomRecord → PhantomRecord) (s : State) : (modPhantom c f s).consent = s.consent := rfl
@[simp] theorem modPhantom_retained (c : Chan) (f : PhantomRecord → PhantomRecord) (s : State) : (modPhantom c f s).retained = s.retained := rfl
@[simp] theorem modPhantom_mics (c : Chan) (f : PhantomRecord → PhantomRecord) (s : State) : (modPhantom c f s).mics = s.mics := rfl

/-! ### modOutput -/

@[simp] theorem modOutput_pending (o : OutNo) (f : Output → Output) (s : State) : (modOutput o f s).pending = s.pending := rfl
@[simp] theorem modOutput_power (o : OutNo) (f : Output → Output) (s : State) : (modOutput o f s).power = s.power := rfl
@[simp] theorem modOutput_resetInput (o : OutNo) (f : Output → Output) (s : State) : (modOutput o f s).resetInput = s.resetInput := rfl
@[simp] theorem modOutput_hubFrame (o : OutNo) (f : Output → Output) (s : State) : (modOutput o f s).hubFrame = s.hubFrame := rfl
@[simp] theorem modOutput_begun (o : OutNo) (f : Output → Output) (s : State) : (modOutput o f s).begun = s.begun := rfl
@[simp] theorem modOutput_played (o : OutNo) (f : Output → Output) (s : State) : (modOutput o f s).played = s.played := rfl
@[simp] theorem modOutput_freeReads (o : OutNo) (f : Output → Output) (s : State) : (modOutput o f s).freeReads = s.freeReads := rfl
@[simp] theorem modOutput_clock (o : OutNo) (f : Output → Output) (s : State) : (modOutput o f s).clock = s.clock := rfl
@[simp] theorem modOutput_settings (o : OutNo) (f : Output → Output) (s : State) : (modOutput o f s).settings = s.settings := rfl
@[simp] theorem modOutput_ports (o : OutNo) (f : Output → Output) (s : State) : (modOutput o f s).ports = s.ports := rfl
@[simp] theorem modOutput_channels (o : OutNo) (f : Output → Output) (s : State) : (modOutput o f s).channels = s.channels := rfl
@[simp] theorem modOutput_cards (o : OutNo) (f : Output → Output) (s : State) : (modOutput o f s).cards = s.cards := rfl
@[simp] theorem modOutput_bus (o : OutNo) (f : Output → Output) (s : State) : (modOutput o f s).bus = s.bus := rfl
@[simp] theorem modOutput_desks (o : OutNo) (f : Output → Output) (s : State) : (modOutput o f s).desks = s.desks := rfl
@[simp] theorem modOutput_phantom (o : OutNo) (f : Output → Output) (s : State) : (modOutput o f s).phantom = s.phantom := rfl
@[simp] theorem modOutput_startQueue (o : OutNo) (f : Output → Output) (s : State) : (modOutput o f s).startQueue = s.startQueue := rfl
@[simp] theorem modOutput_supplyGuard (o : OutNo) (f : Output → Output) (s : State) : (modOutput o f s).supplyGuard = s.supplyGuard := rfl
@[simp] theorem modOutput_rate (o : OutNo) (f : Output → Output) (s : State) : (modOutput o f s).rate = s.rate := rfl
@[simp] theorem modOutput_rateMute (o : OutNo) (f : Output → Output) (s : State) : (modOutput o f s).rateMute = s.rateMute := rfl
@[simp] theorem modOutput_lines (o : OutNo) (f : Output → Output) (s : State) : (modOutput o f s).lines = s.lines := rfl
@[simp] theorem modOutput_talk (o : OutNo) (f : Output → Output) (s : State) : (modOutput o f s).talk = s.talk := rfl
@[simp] theorem modOutput_consent (o : OutNo) (f : Output → Output) (s : State) : (modOutput o f s).consent = s.consent := rfl
@[simp] theorem modOutput_retained (o : OutNo) (f : Output → Output) (s : State) : (modOutput o f s).retained = s.retained := rfl
@[simp] theorem modOutput_mics (o : OutNo) (f : Output → Output) (s : State) : (modOutput o f s).mics = s.mics := rfl

/-! ### modTalk -/

@[simp] theorem modTalk_pending (f : Talk → Talk) (s : State) : (modTalk f s).pending = s.pending := rfl
@[simp] theorem modTalk_power (f : Talk → Talk) (s : State) : (modTalk f s).power = s.power := rfl
@[simp] theorem modTalk_resetInput (f : Talk → Talk) (s : State) : (modTalk f s).resetInput = s.resetInput := rfl
@[simp] theorem modTalk_hubFrame (f : Talk → Talk) (s : State) : (modTalk f s).hubFrame = s.hubFrame := rfl
@[simp] theorem modTalk_begun (f : Talk → Talk) (s : State) : (modTalk f s).begun = s.begun := rfl
@[simp] theorem modTalk_played (f : Talk → Talk) (s : State) : (modTalk f s).played = s.played := rfl
@[simp] theorem modTalk_freeReads (f : Talk → Talk) (s : State) : (modTalk f s).freeReads = s.freeReads := rfl
@[simp] theorem modTalk_clock (f : Talk → Talk) (s : State) : (modTalk f s).clock = s.clock := rfl
@[simp] theorem modTalk_settings (f : Talk → Talk) (s : State) : (modTalk f s).settings = s.settings := rfl
@[simp] theorem modTalk_ports (f : Talk → Talk) (s : State) : (modTalk f s).ports = s.ports := rfl
@[simp] theorem modTalk_channels (f : Talk → Talk) (s : State) : (modTalk f s).channels = s.channels := rfl
@[simp] theorem modTalk_cards (f : Talk → Talk) (s : State) : (modTalk f s).cards = s.cards := rfl
@[simp] theorem modTalk_bus (f : Talk → Talk) (s : State) : (modTalk f s).bus = s.bus := rfl
@[simp] theorem modTalk_desks (f : Talk → Talk) (s : State) : (modTalk f s).desks = s.desks := rfl
@[simp] theorem modTalk_phantom (f : Talk → Talk) (s : State) : (modTalk f s).phantom = s.phantom := rfl
@[simp] theorem modTalk_startQueue (f : Talk → Talk) (s : State) : (modTalk f s).startQueue = s.startQueue := rfl
@[simp] theorem modTalk_supplyGuard (f : Talk → Talk) (s : State) : (modTalk f s).supplyGuard = s.supplyGuard := rfl
@[simp] theorem modTalk_rate (f : Talk → Talk) (s : State) : (modTalk f s).rate = s.rate := rfl
@[simp] theorem modTalk_rateMute (f : Talk → Talk) (s : State) : (modTalk f s).rateMute = s.rateMute := rfl
@[simp] theorem modTalk_outputs (f : Talk → Talk) (s : State) : (modTalk f s).outputs = s.outputs := rfl
@[simp] theorem modTalk_lines (f : Talk → Talk) (s : State) : (modTalk f s).lines = s.lines := rfl
@[simp] theorem modTalk_consent (f : Talk → Talk) (s : State) : (modTalk f s).consent = s.consent := rfl
@[simp] theorem modTalk_retained (f : Talk → Talk) (s : State) : (modTalk f s).retained = s.retained := rfl
@[simp] theorem modTalk_mics (f : Talk → Talk) (s : State) : (modTalk f s).mics = s.mics := rfl

/-! ### modConsent -/

@[simp] theorem modConsent_pending (f : Consent → Consent) (s : State) : (modConsent f s).pending = s.pending := rfl
@[simp] theorem modConsent_power (f : Consent → Consent) (s : State) : (modConsent f s).power = s.power := rfl
@[simp] theorem modConsent_resetInput (f : Consent → Consent) (s : State) : (modConsent f s).resetInput = s.resetInput := rfl
@[simp] theorem modConsent_hubFrame (f : Consent → Consent) (s : State) : (modConsent f s).hubFrame = s.hubFrame := rfl
@[simp] theorem modConsent_begun (f : Consent → Consent) (s : State) : (modConsent f s).begun = s.begun := rfl
@[simp] theorem modConsent_played (f : Consent → Consent) (s : State) : (modConsent f s).played = s.played := rfl
@[simp] theorem modConsent_freeReads (f : Consent → Consent) (s : State) : (modConsent f s).freeReads = s.freeReads := rfl
@[simp] theorem modConsent_clock (f : Consent → Consent) (s : State) : (modConsent f s).clock = s.clock := rfl
@[simp] theorem modConsent_settings (f : Consent → Consent) (s : State) : (modConsent f s).settings = s.settings := rfl
@[simp] theorem modConsent_ports (f : Consent → Consent) (s : State) : (modConsent f s).ports = s.ports := rfl
@[simp] theorem modConsent_channels (f : Consent → Consent) (s : State) : (modConsent f s).channels = s.channels := rfl
@[simp] theorem modConsent_cards (f : Consent → Consent) (s : State) : (modConsent f s).cards = s.cards := rfl
@[simp] theorem modConsent_bus (f : Consent → Consent) (s : State) : (modConsent f s).bus = s.bus := rfl
@[simp] theorem modConsent_desks (f : Consent → Consent) (s : State) : (modConsent f s).desks = s.desks := rfl
@[simp] theorem modConsent_phantom (f : Consent → Consent) (s : State) : (modConsent f s).phantom = s.phantom := rfl
@[simp] theorem modConsent_startQueue (f : Consent → Consent) (s : State) : (modConsent f s).startQueue = s.startQueue := rfl
@[simp] theorem modConsent_supplyGuard (f : Consent → Consent) (s : State) : (modConsent f s).supplyGuard = s.supplyGuard := rfl
@[simp] theorem modConsent_rate (f : Consent → Consent) (s : State) : (modConsent f s).rate = s.rate := rfl
@[simp] theorem modConsent_rateMute (f : Consent → Consent) (s : State) : (modConsent f s).rateMute = s.rateMute := rfl
@[simp] theorem modConsent_outputs (f : Consent → Consent) (s : State) : (modConsent f s).outputs = s.outputs := rfl
@[simp] theorem modConsent_lines (f : Consent → Consent) (s : State) : (modConsent f s).lines = s.lines := rfl
@[simp] theorem modConsent_talk (f : Consent → Consent) (s : State) : (modConsent f s).talk = s.talk := rfl
@[simp] theorem modConsent_retained (f : Consent → Consent) (s : State) : (modConsent f s).retained = s.retained := rfl
@[simp] theorem modConsent_mics (f : Consent → Consent) (s : State) : (modConsent f s).mics = s.mics := rfl

/-! ### modRetained -/

@[simp] theorem modRetained_pending (f : Retained → Retained) (s : State) : (modRetained f s).pending = s.pending := rfl
@[simp] theorem modRetained_power (f : Retained → Retained) (s : State) : (modRetained f s).power = s.power := rfl
@[simp] theorem modRetained_resetInput (f : Retained → Retained) (s : State) : (modRetained f s).resetInput = s.resetInput := rfl
@[simp] theorem modRetained_hubFrame (f : Retained → Retained) (s : State) : (modRetained f s).hubFrame = s.hubFrame := rfl
@[simp] theorem modRetained_begun (f : Retained → Retained) (s : State) : (modRetained f s).begun = s.begun := rfl
@[simp] theorem modRetained_played (f : Retained → Retained) (s : State) : (modRetained f s).played = s.played := rfl
@[simp] theorem modRetained_freeReads (f : Retained → Retained) (s : State) : (modRetained f s).freeReads = s.freeReads := rfl
@[simp] theorem modRetained_clock (f : Retained → Retained) (s : State) : (modRetained f s).clock = s.clock := rfl
@[simp] theorem modRetained_settings (f : Retained → Retained) (s : State) : (modRetained f s).settings = s.settings := rfl
@[simp] theorem modRetained_ports (f : Retained → Retained) (s : State) : (modRetained f s).ports = s.ports := rfl
@[simp] theorem modRetained_channels (f : Retained → Retained) (s : State) : (modRetained f s).channels = s.channels := rfl
@[simp] theorem modRetained_cards (f : Retained → Retained) (s : State) : (modRetained f s).cards = s.cards := rfl
@[simp] theorem modRetained_bus (f : Retained → Retained) (s : State) : (modRetained f s).bus = s.bus := rfl
@[simp] theorem modRetained_desks (f : Retained → Retained) (s : State) : (modRetained f s).desks = s.desks := rfl
@[simp] theorem modRetained_phantom (f : Retained → Retained) (s : State) : (modRetained f s).phantom = s.phantom := rfl
@[simp] theorem modRetained_startQueue (f : Retained → Retained) (s : State) : (modRetained f s).startQueue = s.startQueue := rfl
@[simp] theorem modRetained_supplyGuard (f : Retained → Retained) (s : State) : (modRetained f s).supplyGuard = s.supplyGuard := rfl
@[simp] theorem modRetained_rate (f : Retained → Retained) (s : State) : (modRetained f s).rate = s.rate := rfl
@[simp] theorem modRetained_rateMute (f : Retained → Retained) (s : State) : (modRetained f s).rateMute = s.rateMute := rfl
@[simp] theorem modRetained_outputs (f : Retained → Retained) (s : State) : (modRetained f s).outputs = s.outputs := rfl
@[simp] theorem modRetained_lines (f : Retained → Retained) (s : State) : (modRetained f s).lines = s.lines := rfl
@[simp] theorem modRetained_talk (f : Retained → Retained) (s : State) : (modRetained f s).talk = s.talk := rfl
@[simp] theorem modRetained_consent (f : Retained → Retained) (s : State) : (modRetained f s).consent = s.consent := rfl
@[simp] theorem modRetained_mics (f : Retained → Retained) (s : State) : (modRetained f s).mics = s.mics := rfl

/-! ### Lookups after an update -/

@[simp] theorem modBus_bus (f : CardBus → CardBus) (s : State) : (modBus f s).bus = f s.bus := rfl
@[simp] theorem modTalk_talk (f : Talk → Talk) (s : State) : (modTalk f s).talk = f s.talk := rfl
@[simp] theorem modConsent_consent (f : Consent → Consent) (s : State) : (modConsent f s).consent = f s.consent := rfl
@[simp] theorem modRetained_retained (f : Retained → Retained) (s : State) :
    (modRetained f s).retained = f s.retained := rfl

theorem modPort_port (p q : Port) (f : PortUnit → PortUnit) (s : State) :
    (modPort p f s).port q = if p = q then f (s.port p) else s.port q := Bank.get_modify _ _ _ _

@[simp] theorem modPort_port_same (p : Port) (f : PortUnit → PortUnit) (s : State) :
    (modPort p f s).port p = f (s.port p) := by simp [modPort_port]

theorem modPort_port_ne {p q : Port} (h : p ≠ q) (f : PortUnit → PortUnit) (s : State) :
    (modPort p f s).port q = s.port q := by simp [modPort_port, h]

theorem modChannel_channel (c d : Chan) (f : Channel → Channel) (s : State) :
    (modChannel c f s).channel d = if c = d then f (s.channel c) else s.channel d := Bank.get_modify _ _ _ _

@[simp] theorem modChannel_channel_same (c : Chan) (f : Channel → Channel) (s : State) :
    (modChannel c f s).channel c = f (s.channel c) := by simp [modChannel_channel]

theorem modChannel_channel_ne {c d : Chan} (h : c ≠ d) (f : Channel → Channel) (s : State) :
    (modChannel c f s).channel d = s.channel d := by simp [modChannel_channel, h]

theorem modCard_card (j k : Card) (f : CardRecord → CardRecord) (s : State) :
    (modCard j f s).card k = if j = k then f (s.card j) else s.card k := Bank.get_modify _ _ _ _

@[simp] theorem modCard_card_same (k : Card) (f : CardRecord → CardRecord) (s : State) :
    (modCard k f s).card k = f (s.card k) := by simp [modCard_card]

theorem modPhantom_phantomOf (c d : Chan) (f : PhantomRecord → PhantomRecord) (s : State) :
    (modPhantom c f s).phantomOf d = if c = d then f (s.phantomOf c) else s.phantomOf d := Bank.get_modify _ _ _ _

@[simp] theorem modPhantom_phantomOf_same (c : Chan) (f : PhantomRecord → PhantomRecord) (s : State) :
    (modPhantom c f s).phantomOf c = f (s.phantomOf c) := by simp [modPhantom_phantomOf]

theorem modOutput_output (o n : OutNo) (f : Output → Output) (s : State) :
    (modOutput o f s).output n = if o = n then f (s.output o) else s.output n := Bank.get_modify _ _ _ _

@[simp] theorem modOutput_output_same (o : OutNo) (f : Output → Output) (s : State) :
    (modOutput o f s).output o = f (s.output o) := by simp [modOutput_output]

theorem modDesk_desk (p q : Port) (c d : Chan) (f : DeskRecord → DeskRecord) (s : State) :
    (modDesk p c f s).desk q d = if p = q ∧ c = d then f (s.desk p c) else s.desk q d := by
  by_cases h : p = q
  · subst h
    by_cases g : c = d
    · subst g; simp [State.desk, modDesk]
    · simp [State.desk, modDesk, g, Bank.get_modify]
  · simp [State.desk, modDesk, h, Bank.get_modify]

@[simp] theorem modDesk_desk_same (p : Port) (c : Chan) (f : DeskRecord → DeskRecord) (s : State) :
    (modDesk p c f s).desk p c = f (s.desk p c) := by simp [modDesk_desk]

/-! ### The parts of a port unit -/

theorem modRecord_port (p q : Port) (f : PortRecord → PortRecord) (s : State) :
    (modRecord p f s).port q = if p = q then { s.port p with record := f (s.port p).record } else s.port q :=
  modPort_port _ _ _ _

theorem modLane_port (p q : Port) (n : LaneName) (f : Lane → Lane) (s : State) :
    (modLane p n f s).port q =
      if p = q then { s.port p with lanes := (s.port p).lanes.put n (f ((s.port p).lanes.get n)) } else s.port q :=
  modPort_port _ _ _ _

theorem modMerge_port (p q : Port) (f : Merge → Merge) (s : State) :
    (modMerge p f s).port q = if p = q then { s.port p with merge := f (s.port p).merge } else s.port q :=
  modPort_port _ _ _ _

theorem modControl_port (p q : Port) (f : Control → Control) (s : State) :
    (modControl p f s).port q = if p = q then { s.port p with control := f (s.port p).control } else s.port q :=
  modPort_port _ _ _ _

@[simp] theorem modRecord_port_lanes (p q : Port) (f : PortRecord → PortRecord) (s : State) :
    ((modRecord p f s).port q).lanes = (s.port q).lanes := by
  rw [modRecord_port]; split
  · next h => subst h; rfl
  · rfl

@[simp] theorem modRecord_port_merge (p q : Port) (f : PortRecord → PortRecord) (s : State) :
    ((modRecord p f s).port q).merge = (s.port q).merge := by
  rw [modRecord_port]; split
  · next h => subst h; rfl
  · rfl

@[simp] theorem modRecord_port_control (p q : Port) (f : PortRecord → PortRecord) (s : State) :
    ((modRecord p f s).port q).control = (s.port q).control := by
  rw [modRecord_port]; split
  · next h => subst h; rfl
  · rfl

@[simp] theorem modRecord_port_plan (p q : Port) (f : PortRecord → PortRecord) (s : State) :
    ((modRecord p f s).port q).plan = (s.port q).plan := by
  rw [modRecord_port]; split
  · next h => subst h; rfl
  · rfl

@[simp] theorem modRecord_port_sent (p q : Port) (f : PortRecord → PortRecord) (s : State) :
    ((modRecord p f s).port q).sent = (s.port q).sent := by
  rw [modRecord_port]; split
  · next h => subst h; rfl
  · rfl

@[simp] theorem modLane_port_record (p q : Port) (n : LaneName) (f : Lane → Lane) (s : State) :
    ((modLane p n f s).port q).record = (s.port q).record := by
  rw [modLane_port]; split
  · next h => subst h; rfl
  · rfl

@[simp] theorem modLane_port_merge (p q : Port) (n : LaneName) (f : Lane → Lane) (s : State) :
    ((modLane p n f s).port q).merge = (s.port q).merge := by
  rw [modLane_port]; split
  · next h => subst h; rfl
  · rfl

@[simp] theorem modLane_port_control (p q : Port) (n : LaneName) (f : Lane → Lane) (s : State) :
    ((modLane p n f s).port q).control = (s.port q).control := by
  rw [modLane_port]; split
  · next h => subst h; rfl
  · rfl

@[simp] theorem modLane_port_plan (p q : Port) (n : LaneName) (f : Lane → Lane) (s : State) :
    ((modLane p n f s).port q).plan = (s.port q).plan := by
  rw [modLane_port]; split
  · next h => subst h; rfl
  · rfl

@[simp] theorem modLane_port_sent (p q : Port) (n : LaneName) (f : Lane → Lane) (s : State) :
    ((modLane p n f s).port q).sent = (s.port q).sent := by
  rw [modLane_port]; split
  · next h => subst h; rfl
  · rfl

@[simp] theorem modMerge_port_record (p q : Port) (f : Merge → Merge) (s : State) :
    ((modMerge p f s).port q).record = (s.port q).record := by
  rw [modMerge_port]; split
  · next h => subst h; rfl
  · rfl

@[simp] theorem modMerge_port_lanes (p q : Port) (f : Merge → Merge) (s : State) :
    ((modMerge p f s).port q).lanes = (s.port q).lanes := by
  rw [modMerge_port]; split
  · next h => subst h; rfl
  · rfl

@[simp] theorem modMerge_port_control (p q : Port) (f : Merge → Merge) (s : State) :
    ((modMerge p f s).port q).control = (s.port q).control := by
  rw [modMerge_port]; split
  · next h => subst h; rfl
  · rfl

@[simp] theorem modMerge_port_plan (p q : Port) (f : Merge → Merge) (s : State) :
    ((modMerge p f s).port q).plan = (s.port q).plan := by
  rw [modMerge_port]; split
  · next h => subst h; rfl
  · rfl

@[simp] theorem modMerge_port_sent (p q : Port) (f : Merge → Merge) (s : State) :
    ((modMerge p f s).port q).sent = (s.port q).sent := by
  rw [modMerge_port]; split
  · next h => subst h; rfl
  · rfl

@[simp] theorem modControl_port_record (p q : Port) (f : Control → Control) (s : State) :
    ((modControl p f s).port q).record = (s.port q).record := by
  rw [modControl_port]; split
  · next h => subst h; rfl
  · rfl

@[simp] theorem modControl_port_lanes (p q : Port) (f : Control → Control) (s : State) :
    ((modControl p f s).port q).lanes = (s.port q).lanes := by
  rw [modControl_port]; split
  · next h => subst h; rfl
  · rfl

@[simp] theorem modControl_port_merge (p q : Port) (f : Control → Control) (s : State) :
    ((modControl p f s).port q).merge = (s.port q).merge := by
  rw [modControl_port]; split
  · next h => subst h; rfl
  · rfl

@[simp] theorem modControl_port_plan (p q : Port) (f : Control → Control) (s : State) :
    ((modControl p f s).port q).plan = (s.port q).plan := by
  rw [modControl_port]; split
  · next h => subst h; rfl
  · rfl

@[simp] theorem modControl_port_sent (p q : Port) (f : Control → Control) (s : State) :
    ((modControl p f s).port q).sent = (s.port q).sent := by
  rw [modControl_port]; split
  · next h => subst h; rfl
  · rfl

/-! ### Lanes of a port -/

@[simp] theorem lanes_get_put_same (ls : Lanes) (n : LaneName) (l : Lane) : (ls.put n l).get n = l := by cases n <;> rfl

@[simp] theorem lanes_get_put_other (ls : Lanes) (n : LaneName) (l : Lane) :
    (ls.put n l).get n.other = ls.get n.other := by cases n <;> rfl

theorem lanes_get_put (ls : Lanes) (n m : LaneName) (l : Lane) :
    (ls.put n l).get m = if n = m then l else ls.get m := by cases n <;> cases m <;> rfl

theorem anyUp_eq (ls : Lanes) (n : LaneName) : ls.anyUp = (ls.isUp n || ls.isUp n.other) := by
  cases n <;> simp [Lanes.anyUp, LaneName.other, Bool.or_comm]

@[simp] theorem modLane_lane_same (p : Port) (n : LaneName) (f : Lane → Lane) (s : State) :
    (modLane p n f s).lane p n = f (s.lane p n) := by simp [State.lane, modLane_port]

/-! ### Commands made only while the hub runs -/

theorem whenRunning_eq {s : State} (h : s.power = .running) (f : State → State) : whenRunning f s = f s := by
  simp [whenRunning, h]

theorem whenRunning_ne {s : State} (h : s.power ≠ .running) (f : State → State) : whenRunning f s = s := by
  simp [whenRunning, h]

end Sys2Proof.Machine
end

