-- ==== Sys2Proof/Laws/Frames.lean ====
section
/-! SUPPORT. What each shared operation may touch: for every operation one lemma that names the parts of the state outside
which it changes nothing. A frame of a command is a chain of these. -/

set_option Elab.async false

namespace Sys2Proof.Machine

/-! ### Chains -/

theorem Agree.refl {ps : List Part} (s : State) : Agree ps s s := by intro x _; cases x <;> rfl

/-- Whether every part of one list is in another. -/
abbrev partsIn (ps qs : List Part) : Bool := ps.all fun x => qs.any fun y => x.ctorIdx == y.ctorIdx

theorem mem_of_partsIn {ps qs : List Part} (h : partsIn ps qs = true) : ∀ x ∈ ps, x ∈ qs := by
  intro x hx
  obtain ⟨y, hy, he⟩ := List.any_eq_true.mp (List.all_eq_true.mp h x hx)
  have e : x = y := by cases x <;> cases y <;> first | rfl | exact absurd he (by decide)
  exact e ▸ hy

theorem Agree.mono {ps qs : List Part} {s t : State} (h : Agree ps s t) (hq : partsIn ps qs = true := by rfl) :
    Agree qs s t := fun x hx => h x fun hm => hx (mem_of_partsIn hq x hm)

theorem Agree.trans {ps : List Part} {s t u : State} (h : Agree ps s t) (g : Agree ps t u) : Agree ps s u := by
  intro x hx
  have a := h x hx
  have b := g x hx
  cases x <;> exact Eq.trans b a

/-- One more operation at the end of a chain. -/
theorem Agree.andThen {ps qs : List Part} {s t u : State} (h : Agree ps s t) (g : Agree qs t u)
    (hq : partsIn qs ps = true := by rfl) : Agree ps s u := h.trans (g.mono hq)

theorem Agree.ite {ps : List Part} {s t u : State} {c : Prop} [Decidable c] (h : Agree ps s t) (g : Agree ps s u) :
    Agree ps s (if c then t else u) := by split <;> assumption

/-- An operation that is made or left out. -/
theorem Agree.maybe {ps : List Part} {s t u : State} {c : Prop} [Decidable c] (h : Agree ps s t) (g : Agree ps t u) :
    Agree ps s (if c then t else u) := Agree.ite h (h.trans g)

theorem Agree.forEach {ps : List Part} {α : Type} {f : α → State → State} (h : ∀ a s, Agree ps s (f a s)) (l : List α)
    (s : State) : Agree ps s (Machine.forEach f l s) := by
  unfold Machine.forEach
  induction l generalizing s with
  | nil => exact Agree.refl s
  | cons a l ih => exact (h a s).trans (ih (f a s))

theorem Agree.whenRunning {ps : List Part} {f : State → State} {s : State} (h : Agree ps s (f s)) :
    Agree ps s (Machine.whenRunning f s) := by
  unfold Machine.whenRunning; exact Agree.ite h (Agree.refl s)

/-! ### Plain updates -/

theorem agree_modPort (p : Port) (f : PortUnit → PortUnit) (s : State) : Agree [.ports] s (modPort p f s) := by
  intro x hx; cases x <;> first | (exfalso; apply hx; simp; done) | rfl
theorem agree_modRecord (p : Port) (f : PortRecord → PortRecord) (s : State) : Agree [.ports] s (modRecord p f s) :=
  agree_modPort _ _ _
theorem agree_modLane (p : Port) (n : LaneName) (f : Lane → Lane) (s : State) : Agree [.ports] s (modLane p n f s) :=
  agree_modPort _ _ _
theorem agree_modMerge (p : Port) (f : Merge → Merge) (s : State) : Agree [.ports] s (modMerge p f s) :=
  agree_modPort _ _ _
theorem agree_modControl (p : Port) (f : Control → Control) (s : State) : Agree [.ports] s (modControl p f s) :=
  agree_modPort _ _ _
theorem agree_modChannel (c : Chan) (f : Channel → Channel) (s : State) : Agree [.channels] s (modChannel c f s) := by
  intro x hx; cases x <;> first | (exfalso; apply hx; simp; done) | rfl
theorem agree_modCard (k : Card) (f : CardRecord → CardRecord) (s : State) : Agree [.cards] s (modCard k f s) := by
  intro x hx; cases x <;> first | (exfalso; apply hx; simp; done) | rfl
theorem agree_modBus (f : CardBus → CardBus) (s : State) : Agree [.bus] s (modBus f s) := by
  intro x hx; cases x <;> first | (exfalso; apply hx; simp; done) | rfl
theorem agree_modDesk (p : Port) (c : Chan) (f : DeskRecord → DeskRecord) (s : State) :
    Agree [.desks] s (modDesk p c f s) := by
  intro x hx; cases x <;> first | (exfalso; apply hx; simp; done) | rfl
theorem agree_modPhantom (c : Chan) (f : PhantomRecord → PhantomRecord) (s : State) :
    Agree [.phantom] s (modPhantom c f s) := by
  intro x hx; cases x <;> first | (exfalso; apply hx; simp; done) | rfl
theorem agree_modOutput (o : OutNo) (f : Output → Output) (s : State) : Agree [.outputs] s (modOutput o f s) := by
  intro x hx; cases x <;> first | (exfalso; apply hx; simp; done) | rfl
theorem agree_modTalk (f : Talk → Talk) (s : State) : Agree [.talk] s (modTalk f s) := by
  intro x hx; cases x <;> first | (exfalso; apply hx; simp; done) | rfl
theorem agree_modConsent (f : Consent → Consent) (s : State) : Agree [.consent] s (modConsent f s) := by
  intro x hx; cases x <;> first | (exfalso; apply hx; simp; done) | rfl
theorem agree_modRetained (f : Retained → Retained) (s : State) : Agree [.retained] s (modRetained f s) := by
  intro x hx; cases x <;> first | (exfalso; apply hx; simp; done) | rfl

/-! ### Reports -/

theorem agree_post (r : Report) (s : State) : Agree [.ports] s (post r s) := by
  intro x hx; cases x <;> first | (exfalso; apply hx; simp; done) | rfl
theorem agree_postTo (p : Port) (r : Report) (s : State) : Agree [.ports] s (postTo p r s) :=
  Agree.ite (Agree.refl s) (agree_modControl _ _ _)
theorem agree_postLane (p : Port) (n : LaneName) (why : LaneReason) (s : State) :
    Agree [.ports] s (postLane p n why s) := agree_post _ _
theorem agree_postPort (p : Port) (why : PortReason) (s : State) : Agree [.ports] s (postPort p why s) := agree_post _ _
theorem agree_postClock (s : State) : Agree [.ports] s (postClock s) := agree_post _ _
theorem agree_postSetting (c : Chan) (s : State) : Agree [.ports] s (postSetting c s) := agree_post _ _
theorem agree_postCard (k : Card) (why : CardReason) (s : State) : Agree [.ports] s (postCard k why s) := agree_post _ _
theorem agree_postOutput (n : OutNo) (why : OutputReason) (s : State) : Agree [.ports] s (postOutput n why s) :=
  agree_post _ _
theorem agree_postPatch (p : Port) (n : OutNo) (s : State) : Agree [.ports] s (postPatch p n s) := agree_post _ _
theorem agree_postTalk (why : TalkReason) (s : State) : Agree [.ports] s (postTalk why s) := agree_post _ _
theorem agree_postPhantom (c : Chan) (why : PhantomReason) (s : State) : Agree [.ports] s (postPhantom c why s) :=
  agree_post _ _

/-! ### Control channels -/

theorem agree_dropAssembly (p : Port) (why : DropReason) (s : State) : Agree [.ports] s (dropAssembly p why s) := by
  unfold dropAssembly; split
  · exact Agree.refl s
  · exact (agree_modControl _ _ _).andThen (agree_postTo _ _ _)

theorem agree_queueRequest (p : Port) (m : Message) (s : State) : Agree [.ports] s (queueRequest p m s) :=
  Agree.ite (agree_modControl _ _ _) (agree_postTo _ _ _)

theorem agree_classify (p : Port) (m : Message) (s : State) : Agree [.ports] s (classify p m s) :=
  Agree.ite (agree_modControl _ _ _) (agree_queueRequest _ _ _)

theorem agree_extend (p : Port) (bytes : List Byte) (s : State) : Agree [.ports] s (extend p bytes s) := by
  unfold extend
  have h := agree_modControl p (fun k => { k with assembly := some { bytes := bytes, idle := 0 } }) s
  refine Agree.ite h (Agree.ite (h.andThen (agree_dropAssembly _ _ _)) (Agree.ite ?_ h))
  exact (h.andThen (agree_modControl _ _ _)).andThen (agree_classify _ _ _)

theorem agree_takeByte (p : Port) (b : ControlByte) (s : State) : Agree [.ports] s (takeByte p b s) := by
  unfold takeByte; split
  · exact (agree_dropAssembly _ _ _).andThen (agree_extend _ _ _)
  · split
    · exact Agree.refl s
    · exact agree_extend _ _ _

theorem agree_idleAssembly (p : Port) (s : State) : Agree [.ports] s (idleAssembly p s) := agree_modControl _ _ _

theorem agree_takeControl (p : Port) (bytes : List ControlByte) (s : State) :
    Agree [.ports] s (takeControl p bytes s) :=
  Agree.ite (agree_idleAssembly _ _) (Agree.forEach (agree_takeByte p) _ _)

theorem agree_assemblyTimedOut (p : Port) (s : State) : Agree [.ports] s (assemblyTimedOut p s) := by
  unfold assemblyTimedOut; split
  · exact Agree.ite (agree_dropAssembly _ _ _) (Agree.refl s)
  · exact Agree.refl s

/-- Serving a request touches what its owner touches, and the control channels. -/
theorem agree_serve {ps : List Part} {owner : Message → State → Served} (h : ∀ m s, Agree ps s (owner m s).state)
    (hp : partsIn [Part.ports] ps = true) (p : Port) (kind : Byte) (s : State) : Agree ps s (serve p kind owner s) := by
  unfold serve; split
  · exact Agree.refl s
  · refine Agree.ite ?_ (Agree.refl s)
    refine Agree.andThen (Agree.andThen ?_ (agree_modControl _ _ _) hp) (agree_modControl _ _ _) hp
    unfold checkAndServe; split
    · exact Agree.refl s
    · split
      · exact Agree.refl s
      · exact h _ _

theorem agree_serveUnknown (p : Port) (s : State) : Agree [.ports] s (serveUnknown p s) := by
  unfold serveUnknown; split
  · exact Agree.refl s
  · refine Agree.ite ?_ (Agree.refl s)
    exact (agree_modControl _ _ _).andThen (agree_modControl _ _ _)

/-- Taking an immediate request touches what its owner touches, and the control channels. -/
theorem agree_takeImmediate {ps : List Part} {owner : Message → State → Served} (h : ∀ m s, Agree ps s (owner m s).state)
    (hp : partsIn [Part.ports] ps = true) (p : Port) (kind : Byte) (s : State) :
    Agree ps s (takeImmediate p kind owner s) := by
  unfold takeImmediate; split
  · exact Agree.refl s
  · rename_i m rest _
    have t : Agree ps s (modControl p (fun k => { k with arrived := rest }) s) := (agree_modControl _ _ _).mono hp
    refine Agree.ite ?_ (Agree.refl s)
    refine Agree.ite (t.andThen (agree_postTo _ _ _) hp) (Agree.ite ?_ (Agree.ite ?_ ?_))
    · exact t.andThen (agree_modControl _ _ _) hp
    · exact t.andThen (agree_modControl _ _ _) hp
    · exact (t.trans (h _ _)).andThen (agree_modControl _ _ _) hp

/-! ### Channels -/

theorem agree_restartQuiet (s : State) : Agree [.retained] s (restartQuiet s) := agree_modRetained _ _

theorem agree_changeSetting (c : Chan) (f : Channel → Channel) (s : State) :
    Agree [.ports, .channels, .retained] s (changeSetting c f s) := by
  have h : Agree [.ports, .channels, .retained] s (modChannel c f s) := (agree_modChannel c f s).mono
  unfold changeSetting
  refine Agree.ite (Agree.ite h (h.andThen (agree_restartQuiet _))) ?_
  exact (Agree.ite h (h.andThen (agree_restartQuiet _))).andThen (agree_postSetting _ _)

theorem agree_queueWrite (c : Chan) (s : State) : Agree [.bus] s (queueWrite c s) := agree_modBus _ _

/-! ### Gain tracking -/

theorem agree_limitNotice (p : Port) (c : Chan) (s : State) : Agree [.ports, .desks] s (limitNotice p c s) := by
  unfold limitNotice
  exact Agree.ite ((agree_postTo _ _ _).mono.andThen (agree_modDesk _ _ _ _)) (Agree.refl s)

theorem agree_computeRecord (how : Nat → DeskRecord → DeskRecord) (p : Port) (c : Chan) (s : State) :
    Agree [.ports, .desks] s (computeRecord how p c s) :=
  (agree_modDesk _ _ _ _).mono.andThen (agree_limitNotice _ _ _)

theorem agree_applyToRecords (c : Chan) (s : State) : Agree [.ports, .desks] s (applyToRecords c s) :=
  Agree.forEach (fun p s => agree_computeRecord _ p c s) _ _

theorem agree_firstNetGain (c : Chan) (s : State) : Agree [.ports, .desks] s (firstNetGain c s) :=
  Agree.forEach (fun _ _ => (agree_modDesk _ _ _ _).mono.andThen (agree_computeRecord _ _ _ _)) _ _

theorem agree_resetRecords (p : Port) (s : State) : Agree [.desks] s (resetRecords p s) := by
  intro x hx; cases x <;> first | (exfalso; apply hx; simp; done) | rfl

/-! ### Outputs -/

theorem agree_redimAll (s : State) : Agree [.outputs] s (redimAll s) := by
  intro x hx; cases x <;> first | (exfalso; apply hx; simp; done) | rfl

theorem agree_expireDelay (n : OutNo) (s : State) : Agree [.ports, .outputs] s (expireDelay n s) :=
  Agree.ite ((agree_modOutput _ _ _).mono.andThen (agree_postOutput _ _ _)) (Agree.refl s)

theorem agree_outputLeft (p : Port) (n : OutNo) (s : State) : Agree [.ports, .outputs] s (outputLeft p n s) :=
  Agree.ite (((agree_modOutput _ _ _).mono.andThen (agree_postOutput _ _ _)).andThen (agree_expireDelay _ _))
    (Agree.refl s)

theorem agree_outputsLeft (p : Port) (s : State) : Agree [.ports, .outputs] s (outputsLeft p s) :=
  Agree.forEach (agree_outputLeft p) _ _

theorem agree_outputReturned (p : Port) (n : OutNo) (s : State) : Agree [.ports, .outputs] s (outputReturned p n s) :=
  Agree.ite ((agree_modOutput _ _ _).mono.andThen (agree_postOutput _ _ _)) (Agree.refl s)

theorem agree_outputsReturned (p : Port) (s : State) : Agree [.ports, .outputs] s (outputsReturned p s) :=
  Agree.forEach (agree_outputReturned p) _ _

theorem agree_patchOne (p : Port) (src : Option Source) (n : OutNo) (s : State) :
    Agree [.ports, .outputs] s (patchOne p src n s) := by
  unfold patchOne
  exact Agree.maybe (Agree.maybe (Agree.maybe (agree_modOutput _ _ _).mono (agree_postPatch _ _ _).mono)
    (agree_postOutput _ _ _).mono) (agree_expireDelay _ _)

theorem agree_setOne (f : OutputFields) (n : OutNo) (s : State) : Agree [.ports, .outputs] s (setOne f n s) := by
  unfold setOne
  exact Agree.maybe (agree_modOutput _ _ _).mono (agree_expireDelay _ _)

theorem agree_reportChange (p : Port) (before : State) (n : OutNo) (s : State) :
    Agree [.ports] s (reportChange p before n s) := Agree.ite (Agree.refl s) (agree_postPatch _ _ _)

theorem agree_setOutputs (p : Port) (f : OutputFields) (outs : List OutNo) (s : State) :
    Agree [.ports, .outputs] s (setOutputs p f outs s) :=
  (Agree.forEach (agree_setOne f) _ _).trans (Agree.forEach (fun n t => (agree_reportChange p s n t).mono) _ _)

theorem agree_resetOutputs (s : State) : Agree [.outputs] s (resetOutputs s) := by
  unfold resetOutputs
  generalize s.outputs.eachIdx (Output.hubReset s) = o
  intro x hx; cases x <;> first | (exfalso; apply hx; simp; done) | rfl

/-! ### Talk -/

theorem agree_followTalker (before : Option Port) (s : State) : Agree [.outputs] s (followTalker before s) :=
  Agree.ite (Agree.refl s) (agree_redimAll s)

theorem agree_expireHead (s : State) : Agree [.ports, .talk] s (expireHead s) := by
  unfold expireHead; split
  · exact ((agree_modTalk _ _).mono.andThen (agree_postTo _ _ _)).andThen (agree_postTalk _ _)
  · exact Agree.refl s

theorem agree_settleHead (n : Nat) (s : State) : Agree [.ports, .talk] s (settleHead n s) := by
  induction n generalizing s with
  | zero => exact Agree.refl s
  | succ n ih => unfold settleHead; exact Agree.ite ((agree_expireHead s).trans (ih _)) (Agree.refl s)

theorem agree_testHead (s : State) : Agree [.ports, .talk, .outputs] s (testHead s) :=
  (agree_settleHead 3 s).mono.andThen (agree_followTalker _ _)

theorem agree_headChanged (before : Option Port) (s : State) : Agree [.ports, .talk, .outputs] s (headChanged before s) := by
  have h : Agree [.ports, .talk, .outputs] s (followTalker before s) := (agree_followTalker before s).mono
  exact Agree.ite h (h.trans (agree_testHead _))

theorem agree_preempted (before : Option Port) (s : State) : Agree [.ports] s (preempted before s) := by
  unfold preempted; split
  · exact Agree.refl s
  · refine Agree.ite (Agree.refl s) ?_
    split
    · exact agree_postTo _ _ _
    · exact Agree.refl s

theorem agree_insertTalk (p : Port) (s : State) : Agree [.ports, .talk, .outputs] s (insertTalk p s) :=
  (((agree_modTalk _ _).mono.andThen (agree_postTalk _ _)).andThen (agree_preempted _ _)).trans (agree_headChanged _ _)

theorem agree_removeClaim (p : Port) (why : TalkReason) (s : State) :
    Agree [.ports, .talk, .outputs] s (removeClaim p why s) :=
  Agree.ite (((agree_modTalk _ _).mono.andThen (agree_postTalk _ _)).trans (agree_headChanged _ _)) (Agree.refl s)

theorem agree_resortTalk (s : State) : Agree [.ports, .talk, .outputs] s (resortTalk s) := by
  refine Agree.ite (Agree.refl s) ?_
  exact (((agree_modTalk _ _).mono.andThen (agree_postTalk _ _)).andThen (agree_preempted _ _)).trans (agree_headChanged _ _)

theorem agree_emptyTalk (s : State) : Agree [.talk, .outputs] s (emptyTalk s) :=
  (agree_modTalk _ _).mono.andThen (agree_followTalker _ _)

theorem agree_recomputeStage (s : State) : Agree [.ports, .talk] s (recomputeStage s) :=
  Agree.ite (Agree.refl s) ((agree_modTalk _ _).mono.andThen (agree_post _ _))

theorem agree_stageTaken (s : State) : Agree [.ports, .talk] s (stageTaken s) :=
  Agree.ite ((agree_modTalk _ _).mono.trans (agree_recomputeStage _)) (Agree.refl s)

/-! ### Ports -/

theorem agree_endProposal (pr : Proposal) (e : Ending) (s : State) : Agree [.consent] s (endProposal pr e s) :=
  agree_modConsent _ _

theorem agree_withdrawProposal (pr : Proposal) (why : Cause) (s : State) :
    Agree [.ports, .consent] s (withdrawProposal pr why s) :=
  (agree_endProposal _ _ _).mono.andThen (agree_post _ _)

theorem agree_departConsent (p : Port) (s : State) : Agree [.ports, .consent] s (departConsent p s) := by
  unfold departConsent; split
  · exact Agree.refl s
  · exact Agree.ite (agree_withdrawProposal _ _ _) (agree_modConsent _ _).mono

theorem agree_leaveAttached (p : Port) (s : State) : Agree touchedByLanes s (leaveAttached p s) :=
  ((agree_removeClaim _ _ _).mono.andThen (agree_departConsent _ _)).andThen (agree_outputsLeft _ _)

theorem agree_isolate (p : Port) (s : State) : Agree touchedByLanes s (isolate p s) :=
  ((agree_modRecord _ _ _).mono.trans (agree_leaveAttached _ _)).andThen (agree_postPort _ _ _)

theorem agree_rejoin (p : Port) (s : State) : Agree touchedByLanes s (rejoin p s) :=
  ((agree_modRecord _ _ _).mono.andThen (agree_outputsReturned _ _)).andThen (agree_postPort _ _ _)

theorem agree_enterVacant (p : Port) (why : PortReason) (s : State) : Agree [.ports] s (enterVacant p why s) :=
  ((agree_modRecord _ _ _).trans (agree_modControl _ _ _)).trans (agree_postPort _ _ _)

theorem agree_lanesChanged (p : Port) (was : Bool) (s : State) : Agree touchedByLanes s (lanesChanged p was s) := by
  unfold lanesChanged
  refine Agree.ite (Agree.refl s) ?_
  split
  · exact ((agree_modRecord _ _ _).andThen (agree_postPort _ _ _)).mono
  · exact agree_rejoin _ _
  · exact (agree_enterVacant _ _ _).mono
  · exact agree_isolate _ _
  · exact Agree.refl s

theorem agree_expireHold (p : Port) (s : State) : Agree [.ports] s (expireHold p s) :=
  Agree.ite (agree_enterVacant _ _ _) (Agree.refl s)

/-! ### Lanes -/

theorem agree_laneEvent (p : Port) (n : LaneName) (why : LaneReason) (f : Lane → Lane) (s : State) :
    Agree touchedByLanes s (laneEvent p n why f s) := by
  unfold laneEvent
  refine Agree.trans (Agree.mono (ps := [.ports]) ?_) (agree_lanesChanged _ _ _)
  have h : ∀ g, Agree [.ports] s (postLane p n why (modMerge p g (modLane p n f s))) := fun g =>
    ((agree_modLane _ _ _ _).trans (agree_modMerge _ _ _)).trans (agree_postLane _ _ _ _)
  exact Agree.ite ((h _).trans (agree_postLane _ _ _ _)) (h _)

theorem agree_storeCopy (p : Port) (n : LaneName) (c : Copy) (s : State) : Agree [.ports] s (storeCopy p n c s) :=
  agree_modMerge _ _ _

theorem agree_goodFrame (p : Port) (n : LaneName) (c : Copy) (s : State) : Agree [.ports] s (goodFrame p n c s) := by
  unfold goodFrame
  split
  · exact Agree.refl s
  · exact agree_modLane _ _ _ _
  · exact Agree.ite ((agree_modLane _ _ _ _).trans (agree_storeCopy _ _ _ _))
      (Agree.ite (agree_modLane _ _ _ _) ((agree_modLane _ _ _ _).trans (agree_postLane _ _ _ _)))
  · exact Agree.ite ((agree_modLane _ _ _ _).trans (agree_storeCopy _ _ _ _)) (agree_modLane _ _ _ _)

theorem agree_upstreamFrame (p : Port) (n : LaneName) (b : UpBytes) (s : State) :
    Agree [.ports] s (upstreamFrame p n b s) :=
  Agree.ite (Agree.refl s) (Agree.ite (agree_modLane _ _ _ _) (Agree.ite (agree_goodFrame _ _ _ _) (agree_modLane _ _ _ _)))

theorem agree_setPreferred (q : Port) (pref : Option LaneName) (s : State) : Agree [.ports] s (setPreferred q pref s) := by
  unfold setPreferred
  have h := agree_modMerge q (fun m => { m with preferred := pref }) s
  split
  · exact h
  · exact Agree.ite ((h.trans (agree_modMerge _ _ _)).trans (agree_postLane _ _ _ _)) h

theorem agree_requalifyLanes (q : Port) (offset : Nat) (s : State) : Agree touchedByLanes s (requalifyLanes q offset s) := by
  unfold requalifyLanes
  refine Agree.trans (Agree.mono (ps := [.ports]) ?_) (agree_lanesChanged _ _ _)
  have h := fun (f : LaneName → State → State) (hf : ∀ n t, Agree [.ports] t (f n t)) g =>
    (agree_modPort q g s).trans (Agree.forEach hf [.A, .B] _)
  refine Agree.ite (h _ (fun n t => Agree.ite (agree_postLane _ _ _ _) (Agree.refl t)) _) (Agree.trans (h _ ?_ _) (agree_postLane _ _ _ _))
  exact fun n t => Agree.ite (agree_postLane _ _ _ _) (Agree.refl t)

theorem agree_setOffset (q : Port) (offset : Nat) (s : State) : Agree touchedByLanes s (setOffset q offset s) := by
  unfold setOffset
  exact (agree_modMerge _ _ _).mono.trans (agree_requalifyLanes _ _ _)

/-! ### Phantom -/

theorem agree_enterPhantom (c : Chan) (st : PhantomState) (s : State) :
    Agree [.phantom, .startQueue, .supplyGuard, .bus] s (enterPhantom c st s) := by
  unfold enterPhantom resetGuard
  refine Agree.ite (Agree.andThen ?_ (agree_queueWrite _ _)) ?_ <;>
  · intro x hx; cases x <;> first | (exfalso; apply hx; simp; done) | rfl

theorem agree_changePhantom (c : Chan) (st : PhantomState) (why : PhantomReason) (s : State) :
    Agree touchedByPhantom s (changePhantom c st why s) :=
  (agree_enterPhantom _ _ _).mono.andThen (agree_postPhantom _ _ _)

theorem agree_startPhantom (c : Chan) (s : State) : Agree touchedByPhantom s (startPhantom c s) :=
  ((agree_enterPhantom _ _ _).mono.andThen (agree_queueWrite _ _)).andThen (agree_postPhantom _ _ _)

theorem agree_startUpTo (n : Nat) (s : State) : Agree touchedByPhantom s (startUpTo n s) := by
  induction n generalizing s with
  | zero => exact Agree.refl s
  | succ n ih =>
    unfold startUpTo; split
    · exact Agree.refl s
    · exact (agree_startPhantom _ _).trans (ih _)

theorem agree_startQueued (s : State) : Agree touchedByPhantom s (startQueued s) := agree_startUpTo _ _

theorem agree_phantomOn (c : Chan) (s : State) : Agree touchedByPhantom s (phantomOn c s) := by
  unfold phantomOn; split
  · exact (agree_changePhantom _ _ _ _).trans (agree_startQueued _)
  all_goals exact Agree.refl s

theorem agree_phantomOff (c : Chan) (s : State) : Agree touchedByPhantom s (phantomOff c s) := by
  unfold phantomOff; split
  · exact agree_changePhantom _ _ _ _
  · exact (agree_changePhantom _ _ _ _).trans (agree_startQueued _)
  all_goals first | exact agree_changePhantom _ _ _ _ | exact Agree.refl s

/-- Taking channels of a range touches what taking one touches. -/
theorem agree_takeChannels {ps : List Part} {act : Chan → State → State} (h : ∀ c s, Agree ps s (act c s)) (p : Port)
    (sat : Chan → State → Bool) (cs : List Chan) (t : Taken) :
    Agree ps t.state (takeChannels p act sat cs t).state := by
  induction cs generalizing t with
  | nil => exact Agree.refl _
  | cons c cs ih =>
    unfold takeChannels; split
    · exact (h c t.state).trans (ih _)
    · exact Agree.refl _

theorem agree_takePhantom (on : Bool) (c : Chan) (s : State) :
    Agree (.channels :: .retained :: touchedByPhantom) s (takePhantom on c s) := by
  unfold takePhantom
  have h : Agree (.channels :: .retained :: touchedByPhantom) s (changeSetting c (fun h => { h with phantom := on }) s) :=
    (agree_changeSetting _ _ _).mono
  cases on
  · exact h.andThen (agree_phantomOff _ _)
  · exact h.andThen (agree_phantomOn _ _)

theorem agree_setCardPhantom (c : Chan) (on : Bool) (s : State) :
    Agree [.channels, .phantom] s (setCardPhantom c on s) :=
  (agree_modChannel _ _ _).mono.andThen (agree_modPhantom _ _ _)

theorem agree_endTransition (c : Chan) (s : State) : Agree touchedByPhantom s (endTransition c s) := by
  unfold endTransition; split
  · exact (agree_changePhantom _ _ _ _).trans (agree_startQueued _)
  · exact agree_changePhantom _ _ _ _
  · exact (agree_changePhantom _ _ _ _).trans (agree_startQueued _)
  all_goals exact Agree.refl s

theorem agree_endIfDue (c : Chan) (s : State) : Agree touchedByPhantom s (endIfDue c s) :=
  Agree.ite (agree_endTransition _ _) (Agree.refl s)

theorem agree_endFrom (st : PhantomState) (c : Chan) (s : State) : Agree touchedByPhantom s (endFrom st c s) :=
  Agree.ite (agree_endIfDue _ _) (Agree.refl s)

theorem agree_phantomFaulted (k : Card) (status : Byte) (c : Chan) (s : State) :
    Agree (.channels :: .retained :: touchedByPhantom) s (phantomFaulted k status c s) := by
  unfold phantomFaulted
  have b : ∀ t, Agree (.channels :: .retained :: touchedByPhantom) s t →
      Agree (.channels :: .retained :: touchedByPhantom) s
        (if (s.phantomOf c).state = .off then t else postPhantom c .fault t) :=
    fun t h => Agree.ite h (h.andThen (agree_postPhantom _ _ _))
  apply b
  have d : ∀ t, Agree (.channels :: .retained :: touchedByPhantom) s t →
      Agree (.channels :: .retained :: touchedByPhantom) s
        (if (s.phantomOf c).fault = true then t
          else t |> modPhantom c (fun r => { r with fault := true })
            |> post (.phantomFault c (s.phantomOf c).state k status)) :=
    fun t h => Agree.ite h ((h.andThen (agree_modPhantom _ _ _)).andThen (agree_post _ _))
  apply d
  refine Agree.andThen ?_ (agree_changeSetting _ _ _)
  have e : Agree (.channels :: .retained :: touchedByPhantom) s
      (if (s.phantomOf c).state = .off then s else enterPhantom c .off s) :=
    Agree.ite (Agree.refl s) (agree_enterPhantom _ _ _).mono
  exact Agree.ite (e.andThen (agree_queueWrite _ _)) e

theorem agree_phantomReported (on : Bool) (c : Chan) (s : State) :
    Agree touchedByPhantom s (phantomReported on c s) := by
  unfold phantomReported
  have h : Agree touchedByPhantom s (modPhantom c (fun r => { r with fault := false }) s) := (agree_modPhantom _ _ _).mono
  split <;> first | exact h.trans (agree_changePhantom _ _ _ _) | exact h

theorem agree_phantomAbsent (c : Chan) (s : State) : Agree touchedByPhantom s (phantomAbsent c s) := by
  unfold phantomAbsent; split <;> first | exact agree_changePhantom _ _ _ _ | exact Agree.refl s

/-! ### Channel requests and applications -/

theorem agree_takeDesired (p : Port) (f : GainPad → GainPad) (c : Chan) (s : State) :
    Agree [.ports, .channels, .retained, .bus] s (takeDesired p f c s) :=
  Agree.ite (Agree.refl s) ((agree_changeSetting _ _ _).mono.andThen (agree_queueWrite _ _))

theorem agree_takeAuthority (p : Port) (a : AuthorityAction) (c : Chan) (s : State) :
    Agree [.ports, .channels, .retained] s (takeAuthority p a c s) := agree_changeSetting _ _ _

theorem agree_appendApplication (c : Chan) (v : GainPad) (who : Option Port) (s : State) :
    Agree [.channels] s (appendApplication c v who s) := agree_modChannel _ _ _

theorem agree_postApplied (c : Chan) (who : Option Port) (due : Nat) (s : State) :
    Agree [.ports] s (postApplied c who due s) := by
  unfold postApplied; split <;> first | exact agree_post _ _ | exact Agree.refl s

theorem agree_applyEntry (c : Chan) (e : Application) (s : State) :
    Agree [.ports, .channels, .desks] s (applyEntry c e s) := by
  unfold applyEntry
  have h : Agree [.ports, .channels, .desks] s (modChannel c (fun h => { h with applied := some e.value }) s) :=
    (agree_modChannel _ _ _).mono
  split
  · exact ((h.andThen (agree_modDesk _ _ _ _)).andThen (agree_applyToRecords _ _)).andThen (agree_postApplied _ _ _ _)
  · exact (h.andThen (agree_applyToRecords _ _)).andThen (agree_postApplied _ _ _ _)

theorem agree_applicationDue (c : Chan) (s : State) : Agree [.ports, .channels, .desks] s (applicationDue c s) := by
  unfold applicationDue; split
  · exact Agree.refl s
  · exact Agree.ite ((agree_modChannel _ _ _).mono.trans (agree_applyEntry _ _ _)) (Agree.refl s)

/-! ### The card bus -/

theorem agree_freeBus (s : State) : Agree [.bus] s (freeBus s) := agree_modBus _ _

theorem agree_postSetRate (r : Rate) (s : State) : Agree [.bus] s (postSetRate r s) := agree_modBus _ _

theorem agree_writeTest (c : Chan) (s : State) : Agree [.bus] s (writeTest c s) :=
  Agree.ite (Agree.refl s) (agree_queueWrite _ _)

theorem agree_firstReply (c : Chan) (v : GainPad) (s : State) :
    Agree [.ports, .channels, .desks, .freeReads] s (firstReply c v s) := by
  have h : Agree [.ports, .channels, .desks, .freeReads] s { s with freeReads := s.freeReads + 1 } := by
    intro x hx; cases x <;> first | (exfalso; apply hx; simp; done) | rfl
  exact ((h.andThen (agree_modChannel _ _ _)).andThen (agree_postApplied _ _ _ _)).andThen (agree_firstNetGain _ _)

theorem agree_laterReply (c : Chan) (v : GainPad) (s : State) : Agree [.channels] s (laterReply c v s) :=
  Agree.ite (Agree.refl s) ((agree_modChannel _ _ _).trans (agree_appendApplication _ _ _ _))

/-- What one channel of a poll reply may touch. -/
def touchedByReply : List Part := .channels :: .retained :: .desks :: .freeReads :: touchedByPhantom

theorem agree_channelReplied (k : Card) (known : Bool) (status : Byte) (c : Chan) (d : CardChannel) (s : State) :
    Agree touchedByReply s (channelReplied k known status c d s) := by
  unfold channelReplied
  have a : Agree touchedByReply s ((if known then laterReply c (reportedValue d) else firstReply c (reportedValue d)) s) := by
    cases known
    · exact (agree_firstReply _ _ _).mono
    · exact (agree_laterReply _ _ _).mono
  refine Agree.andThen ?_ (agree_writeTest _ _)
  have b := a.andThen (agree_setCardPhantom c d.phantomOn _)
  by_cases h : d.phantomFault = true
  · simp only [h, if_true]; exact b.andThen (agree_phantomFaulted _ _ _ _)
  · simp only [h]; exact b.andThen (agree_phantomReported _ _ _)

theorem agree_takePollReply (k : Card) (d : PollData) (s : State) :
    Agree (.cards :: touchedByReply) s (takePollReply k d s) := by
  unfold takePollReply
  have a : Agree (.cards :: touchedByReply) s (modCard k (CardRecord.replied s.hubFrame d.status) (freeBus s)) :=
    (agree_freeBus s).mono.andThen (agree_modCard _ _ _)
  have b := Agree.ite (c := (s.card k).state = .absent ∨ ¬ (s.card k).known = true)
    (a.andThen (agree_postCard k .replied _)) a
  exact ((b.andThen (Agree.forEach (fun c t => agree_channelReplied _ _ _ c _ t) _ _)).andThen
    (agree_modCard _ _ _)).andThen (agree_startQueued _)

theorem agree_settleEntry (c : Chan) (s : State) : Agree [.bus] s (settleEntry c s) :=
  Agree.ite (agree_modBus _ _) (Agree.refl s)

theorem agree_takeWriteAck (c : Chan) (v : GainPad) (ph : Bool) (who : Option Port) (s : State) :
    Agree [.bus, .cards, .channels, .phantom] s (takeWriteAck c v ph who s) := by
  unfold takeWriteAck
  have a : Agree [.bus, .cards, .channels, .phantom] s
      (modCard (cardOf c) (fun r => { r with timeouts := 0 }) (freeBus s)) :=
    (agree_freeBus s).mono.andThen (agree_modCard _ _ _)
  have b := Agree.ite (c := ((modCard (cardOf c) (fun r => { r with timeouts := 0 }) (freeBus s)).channel c).switched = some v)
    a (a.andThen (agree_appendApplication c v who _))
  exact ((b.andThen (agree_modChannel _ _ _)).andThen (agree_setCardPhantom _ _ _)).andThen (agree_settleEntry _ _)

theorem agree_becomeAbsent (k : Card) (s : State) : Agree (.cards :: touchedByPhantom) s (becomeAbsent k s) :=
  (((agree_modCard _ _ _).mono.andThen (agree_postCard _ _ _)).andThen (Agree.forEach agree_phantomAbsent _ _)).andThen
    (agree_startQueued _)

theorem agree_timeOut (k : Card) (poll : Option Nat) (s : State) :
    Agree (.cards :: touchedByPhantom) s (timeOut k poll s) := by
  unfold timeOut
  have a : Agree (.cards :: touchedByPhantom) s (modCard k (CardRecord.timedOut poll) (freeBus s)) :=
    (agree_freeBus s).mono.andThen (agree_modCard _ _ _)
  exact Agree.ite (a.trans (agree_becomeAbsent _ _)) a

/-! ### Delivery -/

theorem agree_truncatePlan (q : Port) (s : State) : Agree [.ports] s (truncatePlan q s) :=
  Agree.ite (Agree.refl s) ((agree_modPort _ _ _).trans (agree_postTo _ _ _))

theorem agree_changeRate (r : Rate) (s : State) : Agree [.ports, .rate, .rateMute] s (changeRate r s) := by
  unfold changeRate
  refine Agree.trans (t := { s with rate := r, rateMute := some Config.rateMute }) ?_
    (Agree.mono (Agree.forEach agree_truncatePlan _ _))
  intro x hx; cases x <;> first | (exfalso; apply hx; simp; done) | rfl

theorem agree_clipNotice (p : Port) (c : Chan) (slots : List Slot) (s : State) :
    Agree [.ports, .desks] s (clipNotice p c slots s) := by
  unfold clipNotice; split
  · exact Agree.refl s
  · exact Agree.ite ((agree_postTo _ _ _).mono.andThen (agree_modDesk _ _ _ _)) (Agree.refl s)

theorem agree_judgeChannel (p : Port) (c : Chan) (s : State) : Agree [.ports, .desks] s (judgeChannel p c s) :=
  (agree_modDesk _ _ _ _).mono.andThen (agree_clipNotice _ _ _ _)

theorem agree_judgeWindow (p : Port) (s : State) : Agree [.ports, .desks] s (judgeWindow p s) :=
  Agree.forEach (fun n => agree_judgeChannel p (chanNumbered n)) _ _

theorem agree_sendFrame (seq : Nat) (p : Port) (s : State) : Agree [.ports, .desks] s (sendFrame seq p s) :=
  (agree_judgeWindow p s).andThen (agree_modPort _ _ _)

theorem agree_sendFrames (seq : Nat) (s : State) : Agree [.ports, .desks] s (sendFrames seq s) :=
  Agree.forEach (agree_sendFrame seq) _ _

theorem agree_tickFrame (s : State) :
    Agree [.hubFrame, .ports, .phantom, .outputs, .retained, .desks, .rateMute] s (tickFrame s) := by
  intro x hx; cases x <;> first | (exfalso; apply hx; simp; done) | rfl

/-! ### Playout -/

theorem agree_playPort (p : Port) (s : State) : Agree [.ports] s (playPort p s) := by
  unfold playPort
  dsimp only
  split
  · exact (agree_modPort _ _ _).trans (agree_takeControl _ _ _)
  · exact (agree_modPort _ _ _).trans (agree_dropAssembly _ _ _)

theorem agree_holdPort (p : Port) (s : State) : Agree [.ports, .freeReads] s (holdPort p s) := by
  have h : Agree [.ports, .freeReads] s { s with freeReads := s.freeReads + 1 } := by
    intro x hx; cases x <;> first | (exfalso; apply hx; simp; done) | rfl
  exact (h.andThen (agree_modMerge _ _ _)).andThen (agree_idleAssembly _ _)

theorem agree_skipPort (p : Port) (s : State) : Agree [.ports] s (skipPort p s) := by
  unfold skipPort
  exact Agree.ite (agree_modMerge _ _ _) ((agree_modMerge _ _ _).trans (agree_dropAssembly _ _ _))

theorem agree_endPort (p : Port) (s : State) : Agree [.ports, .freeReads] s (endPort p s) := by
  unfold endPort
  have h : Agree [.ports, .freeReads] s (modMerge p (Merge.countWithout (s.port p).lanes.anyUp) s) :=
    (agree_modMerge _ _ _).mono
  exact Agree.ite (h.trans (agree_holdPort _ _)) ((h.andThen (agree_skipPort _ _)).andThen (agree_playPort _ _))

/-! ### Settings and consent -/

theorem agree_whenChanged {ps : List Part} {α : Type} [DecidableEq α] {field : Settings → α} {old : Settings}
    {f : State → State} {s : State} (h : Agree ps s (f s)) : Agree ps s (whenChanged field old f s) :=
  Agree.ite (Agree.refl s) h

theorem agree_qualify (p : Port) (n : LaneName) (s : State) : Agree touchedByLanes s (qualify p n s) :=
  Agree.ite (agree_laneEvent _ _ _ _ _) (Agree.refl s)

theorem agree_qualifyAll (s : State) : Agree touchedByLanes s (qualifyAll s) :=
  Agree.forEach (fun p s => (agree_qualify p .A s).trans (agree_qualify p .B _)) _ _

theorem agree_expireHolds (s : State) : Agree [.ports] s (expireHolds s) := Agree.forEach agree_expireHold _ _

theorem agree_endTransitions (s : State) : Agree touchedByPhantom s (endTransitions s) := Agree.forEach agree_endIfDue _ _

theorem agree_sourceChanged (s : State) : Agree [.clock, .ports] s (sourceChanged s) := by
  unfold sourceChanged
  split <;>
  · refine Agree.andThen ?_ (agree_postClock _)
    intro x hx; cases x <;> first | (exfalso; apply hx; simp; done) | rfl

theorem agree_settingEffects (old : Settings) (s : State) :
    Agree (.clock :: touchedByCarry) s (settingEffects old s) := by
  unfold settingEffects
  refine Agree.ite (Agree.refl s) ?_
  refine Agree.trans ?_ (agree_whenChanged (agree_recomputeStage _).mono)
  refine Agree.trans ?_ (agree_whenChanged (agree_resortTalk _).mono)
  refine Agree.trans ?_ (agree_whenChanged (agree_testHead _).mono)
  refine Agree.trans ?_ (agree_whenChanged (agree_endTransitions _).mono)
  refine Agree.trans ?_ (agree_whenChanged (agree_sourceChanged _).mono)
  refine Agree.trans ?_ (agree_whenChanged (agree_expireHolds _).mono)
  refine Agree.trans ?_ (agree_whenChanged (agree_qualifyAll _).mono)
  exact (agree_post _ _).mono

theorem agree_changeSettings (h : Settings) (s : State) :
    Agree (.clock :: touchedByCarry) s (changeSettings h s) := by
  refine Agree.trans (t := { s with settings := h }) ?_ (agree_settingEffects _ _)
  intro x hx; cases x <;> first | (exfalso; apply hx; simp [touchedByCarry]; done) | rfl

theorem agree_carryRate (r : Rate) (pr : Proposal) (s : State) :
    Agree [.ports, .rate, .rateMute, .bus] s (carryRate r pr s) :=
  ((agree_changeRate _ _).mono.andThen (agree_postSetRate _ _)).andThen (agree_post _ _)

theorem agree_carryGrant (a b : Chan) (pr : Proposal) (s : State) :
    Agree [.ports, .channels, .retained] s (carryGrant a b pr s) :=
  Agree.forEach (fun _ _ => agree_changeSetting _ _ _) _ _

end Sys2Proof.Machine
end

