-- ==== Sys2Proof/Laws/Ops.lean ====
section
/-! SUPPORT. What each shared operation can do, said once: events made in turn, reports offered, requests served, the
change of a channel's settings, a discarded assembly, a skipped and a held frame period, and the reset input. -/

namespace Sys2Proof.Machine

/-! ### Events made in turn -/

/-- What one event keeps, a list of them in turn keeps. -/
theorem forEach_keeps {α : Type} {P : State → Prop} {f : α → State → State} (h : ∀ a t, P t → P (f a t)) :
    ∀ (l : List α) (s : State), P s → P (forEach f l s) := by
  intro l
  induction l with
  | nil => exact fun s hs => hs
  | cons a l ih => exact fun s hs => ih _ (h a s hs)

/-- Events in turn: the first, then the others. -/
@[simp] theorem forEach_cons {α : Type} (f : α → State → State) (a : α) (l : List α) (s : State) :
    forEach f (a :: l) s = forEach f l (f a s) := rfl

@[simp] theorem forEach_nil {α : Type} (f : α → State → State) (s : State) : forEach f [] s = s := rfl

/-! ### Reports -/

/-- An offer changes the reports and the lost marker alone. -/
theorem Control.offer_eq (k : Control) (r : Report) :
    k.offer r = { k with reports := (k.offer r).reports, lost := (k.offer r).lost } := by
  unfold Control.offer
  split
  · rfl
  · split <;> rfl

/-- A report that has been offered stands in the queue, or the lost marker is set. -/
theorem Control.mem_offer (k : Control) (r : Report) (h : ∀ q, q.key = r.key → Report.replacing q r = r) :
    r ∈ (k.offer r).reports ∨ (k.offer r).lost = true := by
  unfold Control.offer
  split
  · rename_i hq
    obtain ⟨q, hq, hk⟩ := List.any_eq_true.1 hq
    have hk : q.key = r.key := by simpa using hk
    exact .inl (List.mem_map.2 ⟨q, hq, by simp [hk, h q hk]⟩)
  · split
    · exact .inl (by simp)
    · exact .inr rfl

/-- Offers keep reports of other kinds and subjects. -/
theorem Control.mem_offer_of_mem (k : Control) (q r : Report) (hq : q ∈ k.reports) (hk : q.key ≠ r.key) :
    q ∈ (k.offer r).reports := by
  unfold Control.offer
  split
  · exact List.mem_map.2 ⟨q, hq, by simp [hk]⟩
  · split
    · exact List.mem_append_left _ hq
    · exact hq

/-- The lost marker, once set, stays set by offers. -/
theorem Control.lost_offer (k : Control) (r : Report) (h : k.lost = true) : (k.offer r).lost = true := by
  unfold Control.offer
  split
  · exact h
  · split
    · exact h
    · rfl

/-- A state report as a port feels it: offered to its queue where its desk is present, and nothing else (R50). -/
theorem post_port (r : Report) (s : State) (q : Port) :
    (post r s).port q =
      if (s.portState q).present then { s.port q with control := (s.port q).control.offer r } else s.port q := by
  cases h : (s.portState q).present <;>
    simp_all [post, State.port, State.portState]

/-- A personal report as a port feels it: offered to the one port unless that is VACANT (R50). -/
theorem postTo_port (p : Port) (r : Report) (s : State) (q : Port) :
    (postTo p r s).port q =
      if p = q ∧ s.portState p ≠ .vacant then { s.port q with control := (s.port q).control.offer r } else s.port q := by
  unfold postTo
  by_cases hv : s.portState p = .vacant
  · simp [hv]
  · by_cases hp : p = q
    · subst hp; simp [hv, modControl, modPort, State.port]
    · simp [hv, hp, modControl, modPort, State.port, Bank.get_modify]

/-- A state report leaves the records of the ports as they are. -/
@[simp] theorem post_portState (r : Report) (s : State) (q : Port) : (post r s).portState q = s.portState q := by
  cases h : (s.portState q).present <;> simp [State.portState, post_port] at h ⊢ <;> simp [h]

/-- A personal report leaves the records of the ports as they are. -/
@[simp] theorem postTo_portState (p : Port) (r : Report) (s : State) (q : Port) :
    (postTo p r s).portState q = s.portState q := by
  have h : ∀ u v : PortUnit, v.record = u.record → ∀ (b : Prop) [Decidable b], (if b then v else u).record = u.record := by
    intro u v hv b _
    by_cases hb : b <;> simp [hb, hv]
  have := h (s.port q) { s.port q with control := (s.port q).control.offer r } rfl (p = q ∧ s.portState p ≠ .vacant)
  rw [State.portState, State.portState, postTo_port]
  exact congrArg PortRecord.state this

/-! ### Serving requests -/

/-- Serving either finds nothing to serve and changes nothing, or serves the head, of the kind given (R44). -/
theorem serve_cases (p : Port) (kind : Byte) (owner : Message → State → Served) (s : State) :
    serve p kind owner s = s ∨
      ∃ m rest, (s.port p).control.requests = m :: rest ∧ m.kind = kind ∧ (s.port p).control.replies.length < 8 ∧
        serve p kind owner s = popRequest p (pushReply p m (checkAndServe p owner m s)) := by
  unfold serve
  split
  · exact .inl rfl
  · rename_i m rest hm
    split
    · rename_i hk
      exact .inr ⟨m, rest, hm, hk.1, hk.2, rfl⟩
    · exact .inl rfl

/-- The head of the kind given, with its length right and its port state, goes to its owner. -/
theorem serve_accepted (p : Port) (kind : Byte) (m : Message) (owner : Message → State → Served) (s : State)
    (h : Accepted p kind m s) : serve p kind owner s = popRequest p (pushReply p m (owner m s)) := by
  obtain ⟨⟨-, hh, hk, hr⟩, hb, ha⟩ := h
  unfold serve
  match hq : (s.port p).control.requests with
  | [] => simp [hq] at hh
  | x :: rest =>
    obtain rfl : x = m := by simpa [hq] using hh
    have hr : (s.port p).control.replies.length < Config.replyPlaces := hr
    subst hk
    simp [hr, checkAndServe, hb, ha]

/-- A served request leaves the queue and its reply joins: the two updates of R44 are `answered`. -/
theorem popRequest_pushReply (p : Port) (m : Message) (r : Served) :
    popRequest p (pushReply p m r) = answered p m r.status r.steps r.result r.state := by
  simp only [popRequest, pushReply, answered, modControl, modPort]
  congr 1
  simp [Bank.modify, Bank.put, Bank.get]

/-- An immediate request of the kind given: nothing, or the four outcomes of R46. -/
theorem takeImmediate_cases (p : Port) (kind : Byte) (owner : Message → State → Served) (s : State) :
    takeImmediate p kind owner s = s ∨
      ∃ m rest, (s.port p).control.arrived = m :: rest ∧ m.kind = kind ∧
        (takeImmediate p kind owner s = loseRequest p m (taking p rest s) ∨
          takeImmediate p kind owner s = pushReply p m (refuse .malformed (taking p rest s)) ∨
          takeImmediate p kind owner s = pushReply p m (refuse .notAttached (taking p rest s)) ∨
          takeImmediate p kind owner s = pushReply p m (owner m (taking p rest s))) := by
  unfold takeImmediate
  split
  · exact .inl rfl
  · rename_i m rest hm
    split
    · rename_i hk
      refine .inr ⟨m, rest, hm, hk, ?_⟩
      simp only [taking]
      split
      · exact .inl rfl
      · split
        · exact .inr (.inl rfl)
        · split
          · exact .inr (.inr (.inl rfl))
          · exact .inr (.inr (.inr rfl))
    · exact .inl rfl

/-! ### A change of a channel's settings -/

/-- A change of a channel's settings makes the change in its record, and touches no other channel (R58). -/
theorem changeSetting_channel (c : Chan) (f : Channel → Channel) (s : State) (d : Chan) :
    (changeSetting c f s).channel d = if c = d then f (s.channel d) else s.channel d := by
  have h : (modChannel c f s).channel d = if c = d then f (s.channel d) else s.channel d := by
    by_cases hd : c = d
    · subst hd; simp
    · simp [hd, State.channel, modChannel, Bank.get_modify]
  unfold changeSetting
  simp only
  split <;> split <;> simpa [postSetting, post, restartQuiet, State.channel, modRetained] using h

/-! ### The end of a frame period at one port -/

/-- A discarded assembly as a port feels it: the assembly has gone, and MESSAGE DROPPED was offered to its port unless that
is VACANT; with none in progress nothing has changed (R40). -/
theorem dropAssembly_port (p q : Port) (why : DropReason) (s : State) :
    (dropAssembly p why s).port q =
      if p = q then { s.port p with
        control := match (s.port p).control.assembly with
          | none => (s.port p).control
          | some a =>
              if s.portState p = .vacant then { (s.port p).control with assembly := none }
              else Control.offer { (s.port p).control with assembly := none } (.messageDropped why (a.bytes[1]?) 1) }
      else s.port q := by
  unfold dropAssembly
  by_cases hq : p = q
  · subst hq
    cases h : (s.port p).control.assembly with
    | none => simp
    | some a =>
      have e : (modControl p (fun k => { k with assembly := none }) s).port p =
          { s.port p with control := { (s.port p).control with assembly := none } } := by
        simp [modControl, modPort, State.port]
      by_cases hv : s.portState p = .vacant <;> simp_all [postTo_port, State.portState]
  · cases h : (s.port p).control.assembly with
    | none => simp [hq]
    | some a =>
      rw [if_neg hq]
      exact (postTo_port _ _ _ _).trans (by simp [hq, modControl, modPort, State.port, Bank.get_modify])

/-- A merge buffer whose read position moves on is that of the unit moved on. -/
theorem Merge.skip_eq (k : Nat) (u : PortUnit) : u.merge.skip k = (u.movedOn k).merge := by
  have h : Entry.skip u.merge.next k = fun e =>
      if e.seq.any (fun x => decide ((x + 65536 - u.merge.next % 65536) % 65536 < k)) then { seq := none, a := none, b := none }
      else e := by
    funext e
    cases h : e.seq with
    | none => simp [Entry.skip, h]
    | some x =>
      by_cases hx : (x + 65536 - u.merge.next % 65536) % 65536 < k <;> simp [Entry.skip, h, hx, Config.seqMod]
  simp only [Merge.skip, PortUnit.movedOn, h, Config.seqMod]

/-- The sequence numbers that a lowered offset skips, as a port feels it: its read position has moved on, and where any was
skipped the control channel unit has discarded an assembly (R21, R40). -/
theorem skipPort_port (p q : Port) (k : Nat) (s : State)
    (hk : skipped s.hubFrame (s.port p).merge.next (s.port p).merge.offset = k) :
    (skipPort p s).port q =
      if p = q then { (s.port p).movedOn k with
        control := if k = 0 then (s.port p).control else ((dropAssembly p .missingFrame s).port p).control }
      else s.port q := by
  have e : ∀ q, (modMerge p (Merge.skip k) s).port q = if p = q then (s.port p).movedOn k else s.port q := by
    intro q
    by_cases h : p = q
    · subst h; simp only [modMerge, modPort, State.port, Bank.get_modify, if_true, Merge.skip_eq]; rfl
    · simp [modMerge, modPort, State.port, Bank.get_modify, h]
  simp only [skipPort, hk]
  by_cases h0 : k = 0
  · rw [if_pos h0, e, if_pos h0]; rfl
  · rw [if_neg h0, if_neg h0]
    refine (dropAssembly_port _ _ _ _).trans ?_
    by_cases h : p = q
    · subst h
      rw [if_pos rfl, if_pos rfl, dropAssembly_port, if_pos rfl, State.portState, State.portState, e, if_pos rfl]; rfl
    · rw [if_neg h, if_neg h, e, if_neg h]

/-- A held frame period as a port feels it: its merge buffer holds, its assembly idles, and nothing else moves (R21). -/
theorem holdPort_port (p q : Port) (s : State) :
    (holdPort p s).port q =
      if p = q then { s.port p with
        merge := (s.port p).merge.hold (heldSlots s.freeReads),
        control := { (s.port p).control with
          assembly := (s.port p).control.assembly.map fun a => { a with idle := a.idle + 1 } } }
      else s.port q := by
  by_cases h : p = q
  · subst h; simp [holdPort, idleAssembly, modControl, modMerge, modPort, State.port]
  · simp [holdPort, idleAssembly, modControl, modMerge, modPort, State.port, Bank.get_modify, h]

/-- A merge buffer that holds moves its mute and the slots handed on alone. -/
theorem Merge.hold_eq (slots : Bank 33 Slot) (m : Merge) :
    m.hold slots = { m with mute := m.mute.map (· - 1), handed := (m.hold slots).handed } := rfl

/-! ### The reset input and power-on (R165, R166) -/

/-- An assertion that is taken asserts the pin, and holds a hub that has power. -/
theorem takeReset_power (s : State) :
    (takeReset s).resetInput = true ∧ (takeReset s).power = if s.power = .off then .off else .held := by
  unfold takeReset
  by_cases h : s.power = .off <;> simp [h, holdReset, losePower]

/-- Power-on leaves the reset input as it is, and the hub held while it is asserted. -/
theorem powerOn_power (s : State) :
    (powerOn s).resetInput = s.resetInput ∧ (powerOn s).power = if s.resetInput then .held else .running := by
  have hl : ∀ p n (t : State), (seekIfLit p n t).resetInput = t.resetInput ∧ (seekIfLit p n t).power = t.power := by
    intro p n t
    have h : Agree touchedByLanes t (seekIfLit p n t) :=
      Agree.ite (Agree.refl t) (Agree.ite (agree_laneEvent _ _ _ _ _) (Agree.refl t))
    exact ⟨h .resetInput (by decide), h .power (by decide)⟩
  unfold powerOn
  cases h : s.resetInput
  · refine forEach_keeps (P := fun t => t.resetInput = false ∧ t.power = .running) (fun p t ht => ?_) _ _ ⟨rfl, rfl⟩
    exact ⟨((hl p .B _).1.trans (hl p .A t).1).trans ht.1, ((hl p .B _).2.trans (hl p .A t).2).trans ht.2⟩
  · exact ⟨rfl, rfl⟩

end Sys2Proof.Machine
end

