-- ==== Sys2Proof/Laws/PerInstr.lean ====
section
/-! SUPPORT. Statements made per command, one lemma for each constructor of Instr: they speak of the command as syntax. -/

/-! ### FootprintSound: the footprints agree with each other, and none holds the queue of waiting commands -/

/-- The queue of waiting commands lies outside the command's footprint; and where the ports lie outside it, no part of any
port's unit is in the finer footprint. -/
def Sys2Proof.Laws.FootprintSound.Statement (i : Sys2Proof.Instr) : Prop :=
  Sys2Proof.Machine.Part.pending ∉ Sys2Proof.Machine.footprint i ∧
    (Sys2Proof.Machine.Part.ports ∉ Sys2Proof.Machine.footprint i →
      ∀ q, Sys2Proof.Machine.portFootprint i q = [])

set_option Elab.async false
set_option linter.unusedSimpArgs false

namespace Sys2Proof.Laws.FootprintSound

open Sys2Proof.Machine

theorem powerOnReset (cause : ResetCause) : Statement (.powerOnReset cause) := by
  refine ⟨?_, fun h => ?_⟩ <;> simp_all [footprint, portFootprint, touchedByLanes, touchedByPhantom, touchedByCarry]

theorem resetInputAssert (pulse : ResetPulse) : Statement (.resetInputAssert pulse) := by
  refine ⟨?_, fun h => ?_⟩ <;> simp_all [footprint, portFootprint, touchedByLanes, touchedByPhantom, touchedByCarry]

theorem powerLoss : Statement (.powerLoss) := by
  refine ⟨?_, fun h => ?_⟩ <;> simp_all [footprint, portFootprint, touchedByLanes, touchedByPhantom, touchedByCarry]

theorem downstreamFrame : Statement (.downstreamFrame) := by
  refine ⟨?_, fun h => ?_⟩ <;> simp_all [footprint, portFootprint, touchedByLanes, touchedByPhantom, touchedByCarry]

theorem lightLost (p : Port) (l : LaneName) : Statement (.lightLost p l) := by
  refine ⟨?_, fun h => ?_⟩ <;> simp_all [footprint, portFootprint, touchedByLanes, touchedByPhantom, touchedByCarry]

theorem lightReturned (p : Port) (l : LaneName) : Statement (.lightReturned p l) := by
  refine ⟨?_, fun h => ?_⟩ <;> simp_all [footprint, portFootprint, touchedByLanes, touchedByPhantom, touchedByCarry]

theorem upstreamFrame (p : Port) (l : LaneName) (bytes : UpBytes) : Statement (.upstreamFrame p l bytes) := by
  refine ⟨?_, fun h => ?_⟩ <;> simp_all [footprint, portFootprint, touchedByLanes, touchedByPhantom, touchedByCarry]

theorem badSync (p : Port) (l : LaneName) : Statement (.badSync p l) := by
  refine ⟨?_, fun h => ?_⟩ <;> simp_all [footprint, portFootprint, touchedByLanes, touchedByPhantom, touchedByCarry]

theorem acquired (p : Port) (l : LaneName) : Statement (.acquired p l) := by
  refine ⟨?_, fun h => ?_⟩ <;> simp_all [footprint, portFootprint, touchedByLanes, touchedByPhantom, touchedByCarry]

theorem syncLost (p : Port) (l : LaneName) : Statement (.syncLost p l) := by
  refine ⟨?_, fun h => ?_⟩ <;> simp_all [footprint, portFootprint, touchedByLanes, touchedByPhantom, touchedByCarry]

theorem qualified (p : Port) (l : LaneName) : Statement (.qualified p l) := by
  refine ⟨?_, fun h => ?_⟩ <;> simp_all [footprint, portFootprint, touchedByLanes, touchedByPhantom, touchedByCarry]

theorem laneDrop (p : Port) (l : LaneName) : Statement (.laneDrop p l) := by
  refine ⟨?_, fun h => ?_⟩ <;> simp_all [footprint, portFootprint, touchedByLanes, touchedByPhantom, touchedByCarry]

theorem playout (inputs : FrameInputs) : Statement (.playout inputs) := by
  refine ⟨?_, fun h => ?_⟩ <;> simp_all [footprint, portFootprint, touchedByLanes, touchedByPhantom, touchedByCarry]

theorem playoutMuteEnd (p : Port) : Statement (.playoutMuteEnd p) := by
  refine ⟨?_, fun h => ?_⟩ <;> simp_all [footprint, portFootprint, touchedByLanes, touchedByPhantom, touchedByCarry]

theorem assemblyTimeout (p : Port) : Statement (.assemblyTimeout p) := by
  refine ⟨?_, fun h => ?_⟩ <;> simp_all [footprint, portFootprint, touchedByLanes, touchedByPhantom, touchedByCarry]

theorem wordclockEdge : Statement (.wordclockEdge) := by
  refine ⟨?_, fun h => ?_⟩ <;> simp_all [footprint, portFootprint, touchedByLanes, touchedByPhantom, touchedByCarry]

theorem wordclockMissing : Statement (.wordclockMissing) := by
  refine ⟨?_, fun h => ?_⟩ <;> simp_all [footprint, portFootprint, touchedByLanes, touchedByPhantom, touchedByCarry]

theorem clockLocked : Statement (.clockLocked) := by
  refine ⟨?_, fun h => ?_⟩ <;> simp_all [footprint, portFootprint, touchedByLanes, touchedByPhantom, touchedByCarry]

theorem clockHoldover : Statement (.clockHoldover) := by
  refine ⟨?_, fun h => ?_⟩ <;> simp_all [footprint, portFootprint, touchedByLanes, touchedByPhantom, touchedByCarry]

theorem holdExpired (p : Port) : Statement (.holdExpired p) := by
  refine ⟨?_, fun h => ?_⟩ <;> simp_all [footprint, portFootprint, touchedByLanes, touchedByPhantom, touchedByCarry]

theorem attach (p : Port) : Statement (.attach p) := by
  refine ⟨?_, fun h => ?_⟩ <;> simp_all [footprint, portFootprint, touchedByLanes, touchedByPhantom, touchedByCarry]

theorem detach (p : Port) : Statement (.detach p) := by
  refine ⟨?_, fun h => ?_⟩ <;> simp_all [footprint, portFootprint, touchedByLanes, touchedByPhantom, touchedByCarry]

theorem readPort (p : Port) : Statement (.readPort p) := by
  refine ⟨?_, fun h => ?_⟩ <;> simp_all [footprint, portFootprint, touchedByLanes, touchedByPhantom, touchedByCarry]

theorem readLanes (p : Port) : Statement (.readLanes p) := by
  refine ⟨?_, fun h => ?_⟩ <;> simp_all [footprint, portFootprint, touchedByLanes, touchedByPhantom, touchedByCarry]

theorem clearLaneCounters (p : Port) : Statement (.clearLaneCounters p) := by
  refine ⟨?_, fun h => ?_⟩ <;> simp_all [footprint, portFootprint, touchedByLanes, touchedByPhantom, touchedByCarry]

theorem setPort (p : Port) : Statement (.setPort p) := by
  refine ⟨?_, fun h => ?_⟩ <;> simp_all [footprint, portFootprint, touchedByLanes, touchedByPhantom, touchedByCarry]

theorem readHub (p : Port) : Statement (.readHub p) := by
  refine ⟨?_, fun h => ?_⟩ <;> simp_all [footprint, portFootprint, touchedByLanes, touchedByPhantom, touchedByCarry]

theorem setHub (p : Port) : Statement (.setHub p) := by
  refine ⟨?_, fun h => ?_⟩ <;> simp_all [footprint, portFootprint, touchedByLanes, touchedByPhantom, touchedByCarry]

theorem unknownRequest (p : Port) : Statement (.unknownRequest p) := by
  refine ⟨?_, fun h => ?_⟩ <;> simp_all [footprint, portFootprint, touchedByLanes, touchedByPhantom, touchedByCarry]

theorem readChannels (p : Port) : Statement (.readChannels p) := by
  refine ⟨?_, fun h => ?_⟩ <;> simp_all [footprint, portFootprint, touchedByLanes, touchedByPhantom, touchedByCarry]

theorem readCards (p : Port) : Statement (.readCards p) := by
  refine ⟨?_, fun h => ?_⟩ <;> simp_all [footprint, portFootprint, touchedByLanes, touchedByPhantom, touchedByCarry]

theorem setGain (p : Port) : Statement (.setGain p) := by
  refine ⟨?_, fun h => ?_⟩ <;> simp_all [footprint, portFootprint, touchedByLanes, touchedByPhantom, touchedByCarry]

theorem stepGain (p : Port) : Statement (.stepGain p) := by
  refine ⟨?_, fun h => ?_⟩ <;> simp_all [footprint, portFootprint, touchedByLanes, touchedByPhantom, touchedByCarry]

theorem setPad (p : Port) : Statement (.setPad p) := by
  refine ⟨?_, fun h => ?_⟩ <;> simp_all [footprint, portFootprint, touchedByLanes, touchedByPhantom, touchedByCarry]

theorem setAuthority (p : Port) : Statement (.setAuthority p) := by
  refine ⟨?_, fun h => ?_⟩ <;> simp_all [footprint, portFootprint, touchedByLanes, touchedByPhantom, touchedByCarry]

theorem setPhantom (p : Port) : Statement (.setPhantom p) := by
  refine ⟨?_, fun h => ?_⟩ <;> simp_all [footprint, portFootprint, touchedByLanes, touchedByPhantom, touchedByCarry]

theorem setTrim (p : Port) : Statement (.setTrim p) := by
  refine ⟨?_, fun h => ?_⟩ <;> simp_all [footprint, portFootprint, touchedByLanes, touchedByPhantom, touchedByCarry]

theorem setTracking (p : Port) : Statement (.setTracking p) := by
  refine ⟨?_, fun h => ?_⟩ <;> simp_all [footprint, portFootprint, touchedByLanes, touchedByPhantom, touchedByCarry]

theorem armNotices (p : Port) : Statement (.armNotices p) := by
  refine ⟨?_, fun h => ?_⟩ <;> simp_all [footprint, portFootprint, touchedByLanes, touchedByPhantom, touchedByCarry]

theorem readMeters (p : Port) : Statement (.readMeters p) := by
  refine ⟨?_, fun h => ?_⟩ <;> simp_all [footprint, portFootprint, touchedByLanes, touchedByPhantom, touchedByCarry]

theorem setPlan (p : Port) : Statement (.setPlan p) := by
  refine ⟨?_, fun h => ?_⟩ <;> simp_all [footprint, portFootprint, touchedByLanes, touchedByPhantom, touchedByCarry]

theorem readPlan (p : Port) : Statement (.readPlan p) := by
  refine ⟨?_, fun h => ?_⟩ <;> simp_all [footprint, portFootprint, touchedByLanes, touchedByPhantom, touchedByCarry]

theorem patchOutput (p : Port) : Statement (.patchOutput p) := by
  refine ⟨?_, fun h => ?_⟩ <;> simp_all [footprint, portFootprint, touchedByLanes, touchedByPhantom, touchedByCarry]

theorem setOutput (p : Port) : Statement (.setOutput p) := by
  refine ⟨?_, fun h => ?_⟩ <;> simp_all [footprint, portFootprint, touchedByLanes, touchedByPhantom, touchedByCarry]

theorem readOutputs (p : Port) : Statement (.readOutputs p) := by
  refine ⟨?_, fun h => ?_⟩ <;> simp_all [footprint, portFootprint, touchedByLanes, touchedByPhantom, touchedByCarry]

theorem talkOn (p : Port) : Statement (.talkOn p) := by
  refine ⟨?_, fun h => ?_⟩ <;> simp_all [footprint, portFootprint, touchedByLanes, touchedByPhantom, touchedByCarry]

theorem talkOff (p : Port) : Statement (.talkOff p) := by
  refine ⟨?_, fun h => ?_⟩ <;> simp_all [footprint, portFootprint, touchedByLanes, touchedByPhantom, touchedByCarry]

theorem readTalk (p : Port) : Statement (.readTalk p) := by
  refine ⟨?_, fun h => ?_⟩ <;> simp_all [footprint, portFootprint, touchedByLanes, touchedByPhantom, touchedByCarry]

theorem propose (p : Port) : Statement (.propose p) := by
  refine ⟨?_, fun h => ?_⟩ <;> simp_all [footprint, portFootprint, touchedByLanes, touchedByPhantom, touchedByCarry]

theorem object (p : Port) : Statement (.object p) := by
  refine ⟨?_, fun h => ?_⟩ <;> simp_all [footprint, portFootprint, touchedByLanes, touchedByPhantom, touchedByCarry]

theorem withdraw (p : Port) : Statement (.withdraw p) := by
  refine ⟨?_, fun h => ?_⟩ <;> simp_all [footprint, portFootprint, touchedByLanes, touchedByPhantom, touchedByCarry]

theorem readConsent (p : Port) : Statement (.readConsent p) := by
  refine ⟨?_, fun h => ?_⟩ <;> simp_all [footprint, portFootprint, touchedByLanes, touchedByPhantom, touchedByCarry]

theorem poll : Statement (.poll) := by
  refine ⟨?_, fun h => ?_⟩ <;> simp_all [footprint, portFootprint, touchedByLanes, touchedByPhantom, touchedByCarry]

theorem write : Statement (.write) := by
  refine ⟨?_, fun h => ?_⟩ <;> simp_all [footprint, portFootprint, touchedByLanes, touchedByPhantom, touchedByCarry]

theorem phantomOffAll : Statement (.phantomOffAll) := by
  refine ⟨?_, fun h => ?_⟩ <;> simp_all [footprint, portFootprint, touchedByLanes, touchedByPhantom, touchedByCarry]

theorem setRate : Statement (.setRate) := by
  refine ⟨?_, fun h => ?_⟩ <;> simp_all [footprint, portFootprint, touchedByLanes, touchedByPhantom, touchedByCarry]

theorem broadcastEnd : Statement (.broadcastEnd) := by
  refine ⟨?_, fun h => ?_⟩ <;> simp_all [footprint, portFootprint, touchedByLanes, touchedByPhantom, touchedByCarry]

theorem pollReply (k : Card) (data : PollData) : Statement (.pollReply k data) := by
  refine ⟨?_, fun h => ?_⟩ <;> simp_all [footprint, portFootprint, touchedByLanes, touchedByPhantom, touchedByCarry]

theorem writeAck (k : Card) (c : Chan) : Statement (.writeAck k c) := by
  refine ⟨?_, fun h => ?_⟩ <;> simp_all [footprint, portFootprint, touchedByLanes, touchedByPhantom, touchedByCarry]

theorem transactionTimeout : Statement (.transactionTimeout) := by
  refine ⟨?_, fun h => ?_⟩ <;> simp_all [footprint, portFootprint, touchedByLanes, touchedByPhantom, touchedByCarry]

theorem applicationDue (c : Chan) : Statement (.applicationDue c) := by
  refine ⟨?_, fun h => ?_⟩ <;> simp_all [footprint, portFootprint, touchedByLanes, touchedByPhantom, touchedByCarry]

theorem coefficientRampEnd (p : Port) (c : Chan) : Statement (.coefficientRampEnd p c) := by
  refine ⟨?_, fun h => ?_⟩ <;> simp_all [footprint, portFootprint, touchedByLanes, touchedByPhantom, touchedByCarry]

theorem ramped (c : Chan) : Statement (.ramped c) := by
  refine ⟨?_, fun h => ?_⟩ <;> simp_all [footprint, portFootprint, touchedByLanes, touchedByPhantom, touchedByCarry]

theorem settled (c : Chan) : Statement (.settled c) := by
  refine ⟨?_, fun h => ?_⟩ <;> simp_all [footprint, portFootprint, touchedByLanes, touchedByPhantom, touchedByCarry]

theorem discharged (c : Chan) : Statement (.discharged c) := by
  refine ⟨?_, fun h => ?_⟩ <;> simp_all [footprint, portFootprint, touchedByLanes, touchedByPhantom, touchedByCarry]

theorem rateMuteEnd : Statement (.rateMuteEnd) := by
  refine ⟨?_, fun h => ?_⟩ <;> simp_all [footprint, portFootprint, touchedByLanes, touchedByPhantom, touchedByCarry]

theorem delayExpired (o : OutNo) : Statement (.delayExpired o) := by
  refine ⟨?_, fun h => ?_⟩ <;> simp_all [footprint, portFootprint, touchedByLanes, touchedByPhantom, touchedByCarry]

theorem crossfadeEnd (o : OutNo) : Statement (.crossfadeEnd o) := by
  refine ⟨?_, fun h => ?_⟩ <;> simp_all [footprint, portFootprint, touchedByLanes, touchedByPhantom, touchedByCarry]

theorem dimRampEnd (o : OutNo) : Statement (.dimRampEnd o) := by
  refine ⟨?_, fun h => ?_⟩ <;> simp_all [footprint, portFootprint, touchedByLanes, touchedByPhantom, touchedByCarry]

theorem talkTimedOut : Statement (.talkTimedOut) := by
  refine ⟨?_, fun h => ?_⟩ <;> simp_all [footprint, portFootprint, touchedByLanes, touchedByPhantom, touchedByCarry]

theorem stageTalkTaken : Statement (.stageTalkTaken) := by
  refine ⟨?_, fun h => ?_⟩ <;> simp_all [footprint, portFootprint, touchedByLanes, touchedByPhantom, touchedByCarry]

theorem consentWindowExpired : Statement (.consentWindowExpired) := by
  refine ⟨?_, fun h => ?_⟩ <;> simp_all [footprint, portFootprint, touchedByLanes, touchedByPhantom, touchedByCarry]

theorem quietTimerExpired : Statement (.quietTimerExpired) := by
  refine ⟨?_, fun h => ?_⟩ <;> simp_all [footprint, portFootprint, touchedByLanes, touchedByPhantom, touchedByCarry]

theorem retainedWriteEnd : Statement (.retainedWriteEnd) := by
  refine ⟨?_, fun h => ?_⟩ <;> simp_all [footprint, portFootprint, touchedByLanes, touchedByPhantom, touchedByCarry]

end Sys2Proof.Laws.FootprintSound
end

