-- ==== Sys2Proof/WellFormed.lean ====
section
/-! DEFINITION. Which commands are well formed: what a sender outside the hub can send. The meanings take every command,
well formed or not. -/

namespace Sys2Proof

/-- The card that holds a channel, as the numbering of 00_scope gives it: card k holds channels 8k−7 to 8k. -/
def cardHolding (c : Chan) : Nat := num c / 8 + (if num c % 8 = 0 then 0 else 1)

/-- An upstream frame arrives only with its sync pattern, A7h C5h (R3, R168). -/
def syncThere (b : UpBytes) : Bool := b.get 0 = 0xA7 && b.get 1 = 0xC5

/-- A card's status code lies in 00h to FEh (R169). -/
def statusInRange (d : PollData) : Bool := d.status ≠ 0xFF

/-- A card acknowledges a channel that it holds (R69). -/
def holdsChannel (k : Card) (c : Chan) : Bool := cardHolding c = num k

/-- Whether a command is well formed. -/
def Instr.wellFormed : Instr → Bool
  | .upstreamFrame _ _ b => syncThere b
  | .pollReply _ d => statusInRange d
  | .writeAck k c => holdsChannel k c
  | .powerOnReset _ | .resetInputAssert _ | .powerLoss | .downstreamFrame | .lightLost _ _ | .lightReturned _ _
  | .badSync _ _ | .acquired _ _ | .syncLost _ _ | .qualified _ _ | .laneDrop _ _ | .playout _ | .playoutMuteEnd _
  | .assemblyTimeout _ | .wordclockEdge | .wordclockMissing | .clockLocked | .clockHoldover | .holdExpired _
  | .attach _ | .detach _ | .readPort _ | .readLanes _ | .clearLaneCounters _ | .setPort _ | .readHub _ | .setHub _
  | .unknownRequest _ | .readChannels _ | .readCards _ | .setGain _ | .stepGain _ | .setPad _ | .setAuthority _
  | .setPhantom _ | .setTrim _ | .setTracking _ | .armNotices _ | .readMeters _ | .setPlan _ | .readPlan _
  | .patchOutput _ | .setOutput _ | .readOutputs _ | .talkOn _ | .talkOff _ | .readTalk _ | .propose _ | .object _
  | .withdraw _ | .readConsent _ | .poll | .write | .phantomOffAll | .setRate | .broadcastEnd | .transactionTimeout
  | .applicationDue _ | .coefficientRampEnd _ _ | .ramped _ | .settled _ | .discharged _ | .rateMuteEnd
  | .delayExpired _ | .crossfadeEnd _ | .dimRampEnd _ | .talkTimedOut | .stageTalkTaken | .consentWindowExpired
  | .quietTimerExpired | .retainedWriteEnd => true

end Sys2Proof
end

