-- ==== Sys2Proof/Tests/Slice0.lean ====
section
/-! SUPPORT. Tests: what WellFormed refuses; the worked examples of the manual's chapters; a small test of each command;
and for each statement that has hypotheses a witness that states and operands meet them. Expected values are the manual's
own examples, or worked by hand from its rules. -/

set_option Elab.async false
set_option synthInstance.maxSize 1000

namespace Sys2Proof.Tests

open Sys2Proof Sys2Proof.Machine

/-! ### Builders of small states -/

/-- The next state a command answers, if it answers one. -/
def after (c : Instr) (s : State) : Option State :=
  match exec c s with
  | .next t => some t
  | _ => none

/-- What a command's next state shows. -/
def shows {α : Type} (c : Instr) (s : State) (f : State → α) : Option α := (after c s).map f

/-- A lane that is UP, with lag 2. -/
def upLane : Lane :=
  { Lane.reset with state := .up, lossOfLight := false, synced := true, reference := some 2, lastLag := some 2 }

/-- Port p ATTACHED, both lanes UP. -/
def attached (p : Port) (s : State) : State :=
  modPort p (fun u => { u with
    record := { u.record with state := .attached, serial := some 7, lastSerial := some 7 },
    lanes := { a := upLane, b := upLane } }) s

/-- A hub with a desk at port 1. -/
def desk : State := attached 0 State.reset

/-- A hub with desks at all three ports. -/
def desks3 : State := attached 2 (attached 1 desk)

/-- The port with its record in another state. -/
def inState (p : Port) (st : PortState) (s : State) : State := modRecord p (fun r => { r with state := st }) s

/-- A message with tag 5. -/
def msg (kind : Byte) (body : List Byte) : Message := { kind := kind, tag := 5, body := body }

/-- Port p with a request at the head of its queue. -/
def asking (p : Port) (kind : Byte) (body : List Byte) (s : State) : State :=
  modControl p (fun k => { k with requests := [msg kind body] }) s

/-- Port p with an immediate request just completed. -/
def sending (p : Port) (kind : Byte) (body : List Byte) (s : State) : State :=
  modControl p (fun k => { k with arrived := [msg kind body] }) s

/-- The newest reply of port p: status, steps done and result fields. -/
def reply (p : Port) (s : State) : Option (Status × Nat × List Byte) :=
  (s.port p).control.replies.getLast?.map fun r => (r.status, r.steps, r.result)

/-- The reports in port p's queue. -/
def reports (p : Port) (s : State) : List Report := (s.port p).control.reports

/-- Card k PRESENT, its channels at 30 dB, pad and phantom off. -/
def withCard (k : Card) (s : State) : State :=
  { modCard k (fun r => { r with state := .present, known := true, lastPoll := some 0 }) s with
    channels := s.channels.eachIdx fun c h =>
      if cardOf c = k then
        { h with desired := { gain := 30, pad := false }, switched := some { gain := 30, pad := false },
                 applied := some { gain := 30, pad := false }, cardPhantom := some false }
      else h }

/-- All cards PRESENT and just polled, and no broadcast left. -/
def polledCards (s : State) : State :=
  let t := (indexes 8).foldl (fun t k => withCard k t) s
  { t with bus := { t.bus with broadcasts := [] } }

/-- The 120 bytes of an upstream frame that echoes a sequence number, with a good check or a bad one. -/
def upFrame (echo : Nat) (good : Bool) : UpBytes :=
  let covered := bytesOf 2 echo ++ List.replicate 114 0
  Bank.ofList 120 0 ([0xA7, 0xC5] ++ covered ++ bytesOf 2 (checkOf covered + if good then 0 else 1))

/-- A silent copy that echoes a sequence number, with all its samples the same. -/
def copyOf (echo : Nat) (sample : Int) : Copy :=
  { echo := echo, deskHold := false, slots := Bank.const 33 { sample := sample, cond := .normal }, control := [] }

/-- Silent inputs with the button up. -/
def quietInputs : FrameInputs := { mics := Bank.const 64 { first := 0, second := 0 }, buttonPressed := false }

/-- The hub in the middle of hub frame f, the next playouts due at its end under P = 3. -/
def midFrame (f : Nat) (s : State) : State :=
  { s with hubFrame := f, begun := true, played := false,
           ports := s.ports.each fun u => { u with merge := { u.merge with next := (f + 65533) % 65536 } } }

/-- The hub at the end of hub frame f. -/
def endFrame (f : Nat) (s : State) : State := { s with hubFrame := f, begun := true, played := true }

/-- An entry of a merge buffer. -/
def entry (seq : Nat) (a b : Option Copy) : Entry := { seq := some seq, a := a, b := b }

/-- The proposal numbered 7, of port p, pending. -/
def proposed (p : Port) (a : Action) (voters : List Bool) (elapsed : Nat) (s : State) : State :=
  let pr : Proposal := { number := 7, action := a, proposer := p, voters := Bank.ofList 3 false voters,
                         elapsed := elapsed, opened := 0 }
  { s with consent := { s.consent with proposal := some pr, lastNumber := 7 } }

/-! ### What WellFormed refuses, check by check -/

theorem test_wf_refuses_bad_sync_pattern :
    (Instr.upstreamFrame 0 .A ((upFrame 9 true).put 1 0x5C)).wellFormed = false ∧
      (Instr.upstreamFrame 0 .A (upFrame 9 true)).wellFormed = true := by decide +kernel

theorem test_wf_refuses_status_above_the_codes :
    (Instr.pollReply 0 { status := 0xFF, channels := Bank.const 8 ⟨0, false, false, false⟩ }).wellFormed = false ∧
      (Instr.pollReply 0 { status := 0xFE, channels := Bank.const 8 ⟨0, false, false, false⟩ }).wellFormed = true := by
  decide +kernel

theorem test_wf_refuses_ack_for_another_cards_channel :
    (Instr.writeAck 0 8).wellFormed = false ∧ (Instr.writeAck 0 7).wellFormed = true ∧
      (Instr.writeAck 1 8).wellFormed = true := by decide +kernel

/-- The table gives no row any bits: no word spells a command, and withFetchWord leaves the state as it is. -/
theorem test_no_word_decodes : decodeTableWord 16 5 = none ∧ State.reset.withFetchWord 16 5 = State.reset := ⟨rfl, rfl⟩

/-! ### The formats of chapter 12 -/

/-- R168: the check of the nine characters "123456789", the known check value of this generator with inverted start. -/
theorem test_check_of_known_string :
    checkOf [0x31, 0x32, 0x33, 0x34, 0x35, 0x36, 0x37, 0x38, 0x39] = 0x29B1 := by decide +kernel

/-- R168: sample bytes 6 to 104, conditions 105 to 113, control status 114, control bytes 115 to 118. -/
theorem test_upstream_frame_layout :
    let b : UpBytes := ((((((((upFrame 513 true).put 4 1).put 5 0xFF).put 6 0xFF).put 7 0xFE).put 104 0x80).put 112 0xC0).put 113
      0xE8).put 114 0x0B
    ((upCopy b).echo, (upCopy b).deskHold, (upCopy b).slots.get 0, ((upCopy b).slots.get 32).cond,
        (upCopy b).control.head?, (upCopy b).control.length) =
      (513, true, { sample := -2, cond := .concealed }, .clipped, some { byte := 0x0B, start := true }, 4) := by
  decide +kernel

/-- R168: byte 3 of a downstream frame begins the sequence number; the flags are HOLD, rate and stage talk. -/
theorem test_downstream_frame_layout :
    let f : DownFrame := { seq := 0x1234, hold := true, rate := .double, stageTalk := true,
                           slots := Bank.const 96 { sample := -2, cond := .concealed },
                           control := [{ byte := 0x8B, start := true }], check := 0xABCD }
    (f.bytes.take 8, f.bytes.drop 293 |>.take 1, f.bytes.drop 317, f.bytes.length) =
      ([0xA7, 0x5C, 0x12, 0x34, 0x07, 0xFF, 0xFF, 0xFE], [0xAA], [0x28, 0x8B, 0, 0, 0, 0xAB, 0xCD], 324) := by
  decide +kernel

/-! ### The worked examples of the chapters -/

/-- 1.6: lag 2 in hub frame 1,002, and the wrap of the sequence number. -/
theorem test_lag : (lagOf 1002 1000, lagOf 65537 65535, lagOf 5 6) = (2, 2, 65535) := by decide +kernel

/-- 5.2: the entries of the coefficient table that the manual prints. -/
theorem test_coefficients_of_the_examples :
    ([-400, -340, -310, -300, -200, -100, -80, -75, -40, -15, 0, 20, 400].map coefficientOf) =
      [655, 1308, 1847, 2072, 6554, 20724, 26090, 27636, 41350, 55142, 65536, 82505, 6553600] := by decide +kernel

/-- 5.10: the samples of ports 1 and 3 before and after the change; 8.10: the fallback stream and the dim. -/
theorem test_scaled_samples :
    [scale 82505 2000000, scale 41350 3990525, scale 55142 2000000, scale 27636 3990525, scale 20724 1000000,
      scale 6554 316223] = [2517853, 2517825, 1682800, 1682772, 316223, 31624] := by decide +kernel

/-- 00_scope, "Rounding": halves away from zero. -/
theorem test_halves_away_from_zero : [roundDiv (316223 * 240) 480, roundDiv 1 2, roundDiv (-1) 2, roundDiv (-3) 2] =
    [158112, 1, -1, -2] := by decide +kernel

/-- 7.8: the readings of the two meters and of full scale, as tenths below 0 dBFS. -/
theorem test_meter_readings :
    [peakTenthsBelow 2517825, peakTenthsBelow 1682772, peakTenthsBelow 8388607] = [105, 140, 0] := by decide +kernel

/-- 5.11: the trim glide, steps 1, 2, 8, 16, 24, 31 and 32. -/
theorem test_trim_glide :
    ([1, 2, 8, 16, 24, 31, 32].map fun i => Ramp.value { start := 27636, target := 2072, steps := i }) =
      [26838, 26039, 21245, 14854, 8463, 2871, 2072] := by decide +kernel

/-- 7.7: the plans cut by the change to DOUBLE, and the cut that reaches the mic window. -/
theorem test_truncated_plans :
    [Plan.truncate 47 { mic := some ⟨1, 64⟩, ret := none }, Plan.truncate 47 { mic := some ⟨1, 40⟩, ret := none },
      Plan.truncate 47 { mic := some ⟨49, 16⟩, ret := some ⟨33, 64⟩ },
      Plan.truncate 47 { mic := some ⟨57, 48⟩, ret := some ⟨65, 80⟩ }] =
    [{ mic := some ⟨1, 47⟩, ret := none }, { mic := some ⟨1, 40⟩, ret := none },
      { mic := some ⟨49, 16⟩, ret := some ⟨33, 47⟩ }, { mic := some ⟨57, 39⟩, ret := none }] := by decide +kernel

/-- 8.10: the crossfade reversed after 100 of its 480 steps. -/
theorem test_crossfade_reverses :
    fadeTo (some { old := .ret ⟨1, 4⟩, new := .fallback 11 (-100), steps := 100 }) (.fallback 11 (-100)) (.ret ⟨1, 4⟩) =
      some { old := .fallback 11 (-100), new := .ret ⟨1, 4⟩, steps := 380 } := by decide +kernel

/-- 5.10: the compensations after port 2's change, and 5.12: port 3 at its limit. -/
theorem test_compensation :
    ([(20, 30, 36), (0, 36, 36), (-15, 30, 36), (-240, 30, 63), (-240, 30, 40)].map fun (x : Int × Int × Int) =>
        let r := ({ DeskRecord.reset with trim := x.1, anchor := some x.2.1 }).compute (some x.2.2)
        (r.wanted, r.comp, r.limited)) =
      [(-40, -40, false), (0, 0, false), (-75, -75, false), (-570, -400, true), (-340, -340, false)] := by decide +kernel

/-! ### One small test of each command, in the table's order -/

/-- R166: a valid image that wants phantom on channel 1 gives a queue of channel 1, and its gain comes back. -/
theorem test_power_on_restores :
    shows (.powerOnReset .supplies)
      { State.reset with power := .off, retained := { State.reset.retained with
          valid := true, entries := State.reset.retained.entries.put 0 { RetainedEntry.default with
            desired := { gain := 41, pad := true }, phantom := true } } }
      (fun t => (t.startQueue, (t.phantomOf 0).state, (t.channel 0).desired, t.retained.quiet, t.power)) =
    some ([0], .queued, ⟨41, true⟩, none, .running) := by decide +kernel

/-- R165: a write in progress is cut, the image fails, and the hub is held. -/
theorem test_reset_input :
    shows (.resetInputAssert .full)
      { desk with supplyGuard := true, retained := { desk.retained with
          valid := true, write := some { elapsed := 5, entries := desk.retained.entries } } }
      (fun t => (t.power, t.supplyGuard, t.retained.valid, t.retained.write.isNone)) =
    some (.held, false, false, true) := by decide +kernel

/-- R165: supplies that come up while the reset input is asserted leave the hub held; its release runs it. -/
theorem test_reset_input_holds :
    let s := { desk with power := .off, resetInput := true }
    shows (.powerOnReset .supplies) s (·.power) = some .held ∧
      shows (.powerOnReset .release) { s with power := .held } (·.power) = some .running := by decide +kernel

/-- R164: an image with no write in progress outlives the power. -/
theorem test_power_loss :
    shows .powerLoss { desk with retained := { desk.retained with valid := true, quiet := some 7 } }
      (fun t => (t.power, t.retained.valid, t.retained.quiet)) = some (.off, true, none) := by decide +kernel

/-- R2: the hub frame count does not wrap, the sequence number does; R1: a VACANT port is sent its frame too. -/
theorem test_downstream_frame :
    shows .downstreamFrame (endFrame 65535 desk)
      (fun t => (t.hubFrame, (t.port 2).sent.map (·.seq), (t.port 0).sent.map (·.hold))) =
    some (65536, some 0, some false) := by decide +kernel

/-- R125 and R86: channel 12 delivered under coefficient 41,350 raises port 1's meter to 2,517,825 (7.8). -/
theorem test_downstream_frame_meters :
    shows .downstreamFrame
      (modDesk 0 11 (fun r => { r with coefficient := 41350 })
        { withCard 1 (endFrame 20000 desk) with mics := Bank.const 64 { first := 3990525, second := 0 } })
      (fun t => ((t.desk 0 11).peak, (t.port 0).sent.map fun f => f.slots.get 11)) =
    some (2517825, some { sample := 2517825, cond := .normal }) := by decide +kernel

/-- R5 and R19: an UP lane that loses its light counts a drop, and the other lane becomes active. -/
theorem test_light_lost :
    shows (.lightLost 0 .A) desk
      (fun t => ((t.lane 0 .A).state, (t.lane 0 .A).drops, (t.lane 0 .A).lastLag, (t.port 0).merge.active, t.portState 0)) =
    some (.dark, 1, none, .B, .attached) := by decide +kernel

/-- R34 (2.10): the second lane lost isolates the port, and its claim is gone. -/
theorem test_both_lanes_lost :
    shows (.lightLost 0 .B)
      { modLane 0 .A (fun l => { l with state := .seeking }) desk with
        talk := { desk.talk with claims := [{ port := 0, live := 9 }] } }
      (fun t => (t.portState 0, (t.port 0).record.lossHold, t.talk.claims, (t.port 0).record.serial)) =
    some (.isolated, some 0, [], some 7) := by decide +kernel

/-- R5: light on a DARK lane. -/
theorem test_light_returned :
    shows (.lightReturned 1 .B) State.reset (fun t => ((t.lane 1 .B).state, (t.lane 1 .B).lossOfLight)) =
    some (.seeking, false) := by decide +kernel

/-- 1.6: the answer to sequence 1,000 arrives in hub frame 1,002 and stands in entry 0; R3: a bad check counts. -/
theorem test_upstream_frame :
    shows (.upstreamFrame 0 .A (upFrame 1000 true)) (midFrame 1002 desk)
      (fun t => (((t.port 0).merge.entries.get 0).seq, ((t.port 0).merge.entries.get 0).a.map (·.echo),
        (t.lane 0 .A).lastLag)) = some (some 1000, some 1000, some 2) ∧
    shows (.upstreamFrame 0 .A (upFrame 1000 false)) (midFrame 1002 desk)
      (fun t => (((t.port 0).merge.entries.get 0).seq, (t.lane 0 .A).errors)) = some (none, 1) := by decide +kernel

/-- R9: in QUALIFYING a bad-sync result is counted. -/
theorem test_bad_sync :
    shows (.badSync 0 .A) (modLane 0 .A (fun l => { l with state := .qualifying, badSyncs := 3, qualify := 50 }) desk)
      (fun t => ((t.lane 0 .A).badSyncs, (t.lane 0 .A).qualify)) = some (4, 50) := by decide +kernel

/-- R9 with R21: a good frame in UP ends a run of bad-sync results. -/
theorem test_bad_sync_run_ends_in_up :
    shows (.upstreamFrame 0 .A (upFrame 1000 true)) (modLane 0 .A (fun l => { l with badSyncs := 3 }) (midFrame 1002 desk))
      (fun t => ((t.lane 0 .A).state, (t.lane 0 .A).badSyncs)) = some (.up, 0) := by decide +kernel

/-- R6 and R15: the fourth good frame is the first of QUALIFYING, and its copy is stored. -/
theorem test_acquired :
    shows (.acquired 0 .A)
      (modLane 0 .A (fun l => { l with state := .seeking, acquisition := 4, lastLag := some 3,
                                       fourth := some (copyOf 9 0) }) desk)
      (fun t => ((t.lane 0 .A).state, (t.lane 0 .A).reference, ((t.port 0).merge.entries.get 1).seq)) =
    some (.qualifying, some 9, some 9) := by decide +kernel

/-- R9: the fourth bad-sync result in a row. -/
theorem test_sync_lost :
    shows (.syncLost 0 .A) (modLane 0 .A (fun l => { l with state := .qualifying, badSyncs := 4, qualify := 50 }) desk)
      (fun t => ((t.lane 0 .A).state, (t.lane 0 .A).qualify)) = some (.seeking, 0) := by decide +kernel

/-- R10 and R26: 48,000 good frames raise the lane, and the VACANT port is LINKED. -/
theorem test_qualified :
    shows (.qualified 1 .B) (modLane 1 .B (fun l => { l with state := .qualifying, qualify := 48000 }) State.reset)
      (fun t => ((t.lane 1 .B).state, t.portState 1, (t.port 1).merge.active)) = some (.up, .linked, .B) := by
  decide +kernel

/-- 1.6, the cut: the third miss drops lane A, lane B becomes active, and the two reports are posted in that order. -/
theorem test_lane_drop :
    shows (.laneDrop 0 .A) (modLane 0 .A (fun l => { l with misses := 3 }) desk)
      (fun t => ((t.lane 0 .A).state, (t.lane 0 .A).drops, (t.port 0).merge.active, t.portState 0, reports 0 t)) =
    some (.seeking, 1, .B, .attached,
      [.laneState 0 .A .seeking .dropped (some 2) .B, .laneState 0 .B .up .active (some 2) .B]) := by decide +kernel

/-- 1.6: at the end of hub frame 2,001 sequence 1,998 is played from lane B's copy, and lane A has missed once. R21 and
R18: a held frame period hands on silence while an earlier mute runs, and where no lane was UP for three. R21 and R40: under an
offset lowered by 2, 1998 and 1999 are skipped as 2000 is played, which discards an assembly. -/
theorem test_playout :
    let shut : Slot := { sample := 0, cond := .silenced }
    let held (f : Merge → Merge) : State := modMerge 0 (fun m => f { m with offset := 4 }) (midFrame 2001 desk)
    shows (.playout quietInputs)
      (modMerge 0 (fun m => { m with next := 1998, entries := m.entries.put 6 (entry 1998 none (some (copyOf 1998 77))) }) (midFrame 2001 desk))
      (fun t => (((t.port 0).merge.handed.get 32).sample, (t.port 0).merge.next, (t.lane 0 .A).misses,
        (t.lane 0 .B).misses, (t.port 0).merge.missing)) = some (77, 1999, 1, 0, 0) ∧
    shows (.playout quietInputs) (held fun m => { m with mute := some 5 })
        (fun t => ((t.port 0).merge.mute, (t.port 0).merge.handed.toList.all (· = shut))) = some (some 4, true) ∧
    shows (.playout quietInputs)
        (modPort 0 (fun u => { u with lanes := { a := Lane.reset, b := Lane.reset } }) (held fun m => { m with withoutLane := 2 }))
        (fun t => ((t.port 0).merge.withoutLane, (t.port 0).merge.handed.toList.all (· = shut))) = some (3, true) ∧
    shows (.playout quietInputs)
        (modControl 0 (fun k => { k with assembly := some ⟨[0x0B, 0x21], 1⟩ })
          (modMerge 0 (fun m => { m with offset := 1, entries := m.entries.put 0 (entry 2000 (some (copyOf 2000 9)) none) })
            (midFrame 2001 desk)))
        (fun t => (((t.port 0).merge.handed.get 0).sample, (t.port 0).merge.next, (t.port 0).control.assembly, reports 0 t)) =
      some (9, 2001, none, [.messageDropped .missingFrame (some 0x21) 1]) := by decide +kernel

/-- 8.10: step 240 of the crossfade gives the output sample 158,112. -/
theorem test_playout_crossfade :
    shows (.playout { quietInputs with mics := Bank.const 64 { first := 1000000, second := 0 } })
      (modOutput 4 (fun o => { o with
        source := some ⟨1, 4⟩, fallbackChannel := some 11,
        crossfade := some { old := .ret ⟨1, 4⟩, new := .fallback 11 (-100), steps := 240 } })
        (withCard 1 (midFrame 124240 desk)))
      (fun t => t.lines.get 4) = some [158112] := by decide +kernel

/-- R21: the mute has run its 32 frame periods. -/
theorem test_playout_mute_end :
    shows (.playoutMuteEnd 0) (modMerge 0 (fun m => { m with mute := some 0 }) desk) (fun t => (t.port 0).merge.mute) =
    some none := by decide +kernel

/-- R40: 64 frame periods without a byte. -/
theorem test_assembly_timeout :
    shows (.assemblyTimeout 0)
      (modControl 0 (fun k => { k with assembly := some { bytes := [0x0B, 0x21], idle := 64 } }) desk)
      (fun t => ((t.port 0).control.assembly, reports 0 t)) =
    some (none, [.messageDropped .timeout (some 0x21) 1]) := by decide +kernel

/-- R23. -/
theorem test_wordclock_edge :
    shows .wordclockEdge { desk with clock := { desk.clock with state := .holdover, requalify := 47999 } }
      (fun t => (t.clock.state, t.clock.requalify)) = some (.holdover, 48000) := by decide +kernel

/-- R23. -/
theorem test_wordclock_missing :
    shows .wordclockMissing { desk with clock := { desk.clock with state := .locked, missing := 3 } }
      (fun t => (t.clock.state, t.clock.missing)) = some (.locked, 4) := by decide +kernel

/-- R23. -/
theorem test_clock_locked :
    shows .clockLocked { desk with clock := { desk.clock with state := .holdover, requalify := 48000 } }
      (fun t => (t.clock.state, t.clock.missing, (reports 0 t).length)) = some (.locked, 0, 1) := by decide +kernel

/-- R23. -/
theorem test_clock_holdover :
    shows .clockHoldover { desk with clock := { desk.clock with state := .locked, missing := 4 } }
      (fun t => (t.clock.state, t.clock.requalify)) = some (.holdover, 0) := by decide +kernel

/-- R29 and R30: 2,000 ms, 96,000 frame periods. -/
theorem test_hold_expired :
    shows (.holdExpired 0) (modRecord 0 (fun r => { r with state := .isolated, lossHold := some 96000 }) desk)
      (fun t => (t.portState 0, (t.port 0).record.serial, (t.port 0).record.lastSerial)) =
    some (.vacant, none, some 7) := by decide +kernel

/-- R31: from LINKED, with another serial than the last: fresh, and R93 resets the records. -/
theorem test_attach :
    shows (.attach 0) (asking 0 kindAttach [0, 0, 0, 8, 1, 0x41]
        (modDesk 0 3 (fun r => { r with trim := 15 }) (inState 0 .linked desk)))
      (fun t => (reply 0 t, t.portState 0, (t.port 0).record.serial, (t.port 0).record.name, (t.desk 0 3).trim)) =
    some (some (.done, 1, [1]), .attached, some 8, [0x41], 0) := by decide +kernel

/-- R33: the port stays LINKED with its lanes UP. -/
theorem test_detach :
    shows (.detach 0) (asking 0 kindDetach [] desk) (fun t => (reply 0 t, t.portState 0, (t.port 0).record.serial)) =
    some (some (.done, 1, []), .linked, none) := by decide +kernel

/-- R38: an ATTACHED port with serial 7 and no name. -/
theorem test_read_port :
    shows (.readPort 0) (asking 0 kindReadPort [1] desk) (fun t => reply 0 t) =
    some (some (.done, 1, [2, 0, 0, 0, 7] ++ List.replicate 17 0 ++ [0, 0, 0, 7, 0xFF, 0xFF, 3, 0, 1, 3, 3])) := by
  decide +kernel

/-- R12: lane A with lag 2 and 258 errors. -/
theorem test_read_lanes :
    shows (.readLanes 0) (asking 0 kindReadLanes [1] (modLane 0 .A (fun l => { l with errors := 258 }) desk))
      (fun t => reply 0 t) =
    some (some (.done, 1, [3, 0, 1, 3, 0, 0, 0, 2, 0, 0, 0, 0, 1, 2, 0, 3, 0, 0, 0, 2, 0, 0, 0, 0, 0, 0, 0])) := by
  decide +kernel

/-- R12: lane B alone. -/
theorem test_clear_lane_counters :
    shows (.clearLaneCounters 0) (asking 0 kindClearLaneCounters [1, 2]
        (modLane 0 .A (fun l => { l with errors := 3 }) (modLane 0 .B (fun l => { l with errors := 4, drops := 5 }) desk)))
      (fun t => ((t.lane 0 .A).errors, (t.lane 0 .B).errors, (t.lane 0 .B).drops)) = some (3, 0, 0) := by decide +kernel

/-- R20 and R21: 9 is brought to 7, and the mute starts with the first playout; R21, step 3: an offset of 1 sends both
lanes back. The read position and an assembly are left to that playout (R40). -/
theorem test_set_port :
    shows (.setPort 0) (asking 0 kindSetPort [1, 1, 9, 0] desk)
      (fun t => (reply 0 t, (t.port 0).merge.offset, (t.port 0).merge.muteDue, (t.port 0).merge.mute)) =
      some (some (.clamped, 1, []), 7, true, none) ∧
    shows (.setPort 0) (asking 0 kindSetPort [1, 1, 1, 0] desk)
      (fun t => ((t.lane 0 .A).state, (t.lane 0 .B).overBudget, t.portState 0)) =
    some (.qualifying, true, .isolated) ∧
    shows (.setPort 0)
      (modControl 0 (fun k => { k with assembly := some ⟨[0x0B], 1⟩ }) (asking 0 kindSetPort [1, 3, 2, 2] (midFrame 2001 desk)))
      (fun t => ((t.port 0).merge.next, (t.port 0).merge.active, (t.port 0).control.assembly)) =
    some (1998, .B, some ⟨[0x0B], 1⟩) := by decide +kernel

/-- R56 and R170: the default settings in the order of SET HUB. -/
theorem test_read_hub :
    shows (.readHub 0) (asking 0 kindReadHub [] desk) (fun t => (reply 0 t).map fun r => r.2.2.take 15) =
    some (some [38, 5, 10, 5, 30, 2, 1, 3, 4, 0, 100, 0, 0, 0, 0]) := by decide +kernel

/-- R55: converter delay 200 is brought to 63; the order 3, 2, 1 is taken. -/
theorem test_set_hub :
    shows (.setHub 0) (asking 0 kindSetHub [0, 33, 200, 0, 0, 0, 0, 3, 2, 1, 0, 0, 0, 0, 0] desk)
      (fun t => (reply 0 t, t.settings.converterDelay, t.settings.priority)) =
    some (some (.clamped, 1, []), 63, [2, 1, 0]) := by decide +kernel

/-- R44, step 1. -/
theorem test_unknown_request :
    shows (.unknownRequest 0) (asking 0 0x20 [] desk) (fun t => reply 0 t) = some (some (.unknown, 0, [])) := by
  decide +kernel

/-- R68 and R170: channel 9 of a PRESENT card at 30 dB, all values known. -/
theorem test_read_channels :
    shows (.readChannels 0) (asking 0 kindReadChannels [9, 9] (withCard 1 desk))
      (fun t => reply 0 t) = some (some (.done, 1, [30, 30, 158, 3, 0, 0, 0])) := by
  decide +kernel

/-- R75: a card never polled. -/
theorem test_read_cards :
    shows (.readCards 0) (asking 0 kindReadCards [] desk) (fun t => (reply 0 t).map fun r => (r.2.2.take 7, r.2.2.length)) =
    some (some ([1, 0, 0, 0xFF, 0xFF, 0xFF, 0], 58)) := by decide +kernel

/-- 4.8: port 2's SET GAIN 12..12, 36. -/
theorem test_set_gain :
    shows (.setGain 1) (asking 1 kindSetGain [12, 12, 36] (polledCards desks3))
      (fun t => (reply 1 t, (t.channel 11).desired.gain, (t.channel 11).desiredBy, (t.channel 11).switched,
        t.bus.writeQueue)) =
    some (some (.done, 1, [0, 0]), 36, some 1, some { gain := 30, pad := false }, [11]) := by decide +kernel

/-- R65: +10 of 60 dB saturates at 63; the card is ABSENT, but CLAMPED comes before DEFERRED. -/
theorem test_step_gain :
    shows (.stepGain 0) (asking 0 kindStepGain [1, 1, 10] (modChannel 0 (fun h => { h with desired := ⟨60, false⟩ }) desk))
      (fun t => (reply 0 t, (t.channel 0).desired.gain)) = some (some (.clamped, 1, [1, 1]), 63) := by decide +kernel

/-- R61: port 3 has no authority at power-on. -/
theorem test_set_pad :
    shows (.setPad 2) (asking 2 kindSetPad [1, 2, 1] desks3) (fun t => (reply 2 t, (t.channel 0).desired.pad)) =
      some (some (.noAuthority, 0, [0, 0]), false) ∧
    shows (.setPad 0) (asking 0 kindSetPad [1, 2, 1] desks3) (fun t => (reply 0 t, (t.channel 1).desired.pad)) =
      some (some (.deferred, 2, [1, 0]), true) := by decide +kernel

/-- R62: from the set of 1 and 2 port 1 removes itself; then port 2 is the last. -/
theorem test_set_authority :
    shows (.setAuthority 0) (asking 0 kindSetAuthority [4, 4, 2, 0] desk)
      (fun t => (reply 0 t, (t.channel 3).authority.toList)) = some (some (.done, 1, []), [false, true, false]) ∧
    shows (.setAuthority 0) (asking 0 kindSetAuthority [4, 4, 2, 0]
        (modChannel 3 (fun h => { h with authority := Bank.ofList 3 false [true] }) desk))
      (fun t => (reply 0 t, (t.channel 3).authority.toList)) =
    some (some (.lastAuthority, 0, []), [true, false, false]) := by decide +kernel

/-- 6.8: SET PHANTOM 1..6, ON: 1 to 4 start, 5 and 6 stay queued; the reply gives queue length 2. -/
theorem test_set_phantom :
    shows (.setPhantom 1) (asking 1 kindSetPhantom [1, 6, 1] (polledCards desks3))
      (fun t => (reply 1 t, t.startQueue, (t.phantomOf 3).state, t.supplyGuard, t.bus.writeQueue)) =
    some (some (.done, 6, [0, 2]), [4, 5], .rampUp, true, [0, 1, 2, 3]) := by decide +kernel

/-- 6.8: channel 3 switched off: RAMP_DOWN, its timer stopped, and channel 5 starts. -/
theorem test_set_phantom_off :
    shows (.setPhantom 0) (asking 0 kindSetPhantom [3, 3, 0]
        { [0, 1, 2, 3].foldl (fun t c => modPhantom c (fun r => { r with state := .rampUp, timer := some 9 })
            (modChannel c (fun h => { h with phantom := true, cardPhantom := some true }) t)) (polledCards desks3) with
          startQueue := [4, 5] })
      (fun t => (t.phantomOf 2, (t.phantomOf 4).state, t.startQueue, t.bus.writeQueue)) =
    some ({ state := .rampDown, timer := none, fault := false }, .rampUp, [5], [2, 4]) := by decide +kernel

/-- 5.11: trim −240 at net gain 36 and anchor 30: −300, target 2,072, from 27,636. -/
theorem test_set_trim :
    shows (.setTrim 2) (asking 2 kindSetTrim [12, 12, 0xFF, 0x10]
        (modDesk 2 11 (fun r => { r with anchor := some 30, coefficient := 27636, comp := -75 })
          (modChannel 11 (fun h => { h with applied := some ⟨36, false⟩ }) desks3)))
      (fun t => (reply 2 t, (t.desk 2 11).comp, (t.desk 2 11).coefficient, (t.desk 2 11).ramp.map (·.target))) =
    some (some (.done, 1, [0, 0, 0xFF, 0x10]), -300, 27636, some 2072) := by decide +kernel

/-- R95: FOLLOW drops the gain difference; the trim stays. -/
theorem test_set_tracking :
    shows (.setTracking 0) (asking 0 kindSetTracking [12, 12, 1]
        (modDesk 0 11 (fun r => { r with trim := 20, anchor := some 30, comp := -40, coefficient := 41350 })
          (modChannel 11 (fun h => { h with applied := some ⟨36, false⟩ }) desk)))
      (fun t => (reply 0 t, (t.desk 0 11).mode, (t.desk 0 11).comp, (t.desk 0 11).ramp.map (·.target))) =
    some (some (.done, 1, [0, 0]), .follow, 20, some 82505) := by decide +kernel

/-- R124: CLIP alone is armed. -/
theorem test_arm_notices :
    shows (.armNotices 0) (asking 0 kindArmNotices [12, 12, 1]
        (modDesk 0 11 (fun r => { r with clipArmed := false, limitArmed := false }) desk))
      (fun t => (reply 0 t, (t.desk 0 11).clipArmed, (t.desk 0 11).limitArmed)) =
    some (some (.done, 1, [0, 0]), true, false) := by decide +kernel

/-- 7.8 and R170: 105 tenths below full scale, compensation −40, limited clear, in the mic window; the meter is then 0. -/
theorem test_read_meters :
    shows (.readMeters 0) (asking 0 kindReadMeters [12, 12] (modDesk 0 11 (fun r => { r with peak := 2517825, comp := -40 }) desk))
      (fun t => (reply 0 t, (t.desk 0 11).peak)) =
    some (some (.done, 1, [0x0D, 0x2B, 0x42]), 0) := by decide +kernel

/-- 7.7: port 3's plan of 64 slots at SINGLE. -/
theorem test_set_plan :
    shows (.setPlan 2) (asking 2 kindSetPlan [1, 49, 16, 1, 33, 64] desks3)
      (fun t => (reply 2 t, (t.port 2).plan.mic, (t.port 2).plan.ret)) =
    some (some (.done, 1, [1, 49, 16, 1, 33, 64, 64, 95]), some ⟨49, 16⟩, some ⟨33, 64⟩) := by decide +kernel

/-- R116: the default plan. -/
theorem test_read_plan :
    shows (.readPlan 0) (asking 0 kindReadPlan [1] desk) (fun t => reply 0 t) =
    some (some (.done, 1, [0, 1, 1, 64, 64, 0, 0, 0, 0, 95, 64, 0, 0, 0])) := by decide +kernel

/-- R135: outputs 31 and 32 take returns 1 and 2 of port 1, which is ATTACHED. -/
theorem test_patch_output :
    shows (.patchOutput 0) (asking 0 kindPatchOutput [31, 32, 1, 1] desk)
      (fun t => (reply 0 t, (t.output 31).source, (t.output 31).state, (t.output 31).crossfade.map (·.new))) =
    some (some (.done, 2, []), some ⟨0, 1⟩, .normal, some (.ret ⟨0, 1⟩)) := by decide +kernel

/-- R136: the fallback level +0.5 is brought to 0.0. -/
theorem test_set_output :
    shows (.setOutput 0) (asking 0 kindSetOutput [5, 5, 3, 12, 0, 5, 0, 0, 0, 0, 0] desk)
      (fun t => (reply 0 t, (t.output 4).fallbackChannel, (t.output 4).fallbackLevel)) =
    some (some (.clamped, 1, []), some 11, 0) := by decide +kernel

/-- R136: outputs 1 and 2 take a delay of 100 ms; output 1 has waited that long, and its expiry (step 3) is posted before the
changes (step 4). -/
theorem test_set_output_reports_last :
    shows (.setOutput 0) (asking 0 kindSetOutput [1, 2, 4, 0, 0, 0, 1, 0, 0, 0, 0]
        (modOutput 0 (fun o => { o with state := .waiting, timer := some 4800 }) desk))
      (fun t => ((t.output 0).state, ((reports 0 t).reverse.take 3).reverse.map Report.key)) =
    some (.fallback, [(11, 0), (12, 0), (12, 1)]) := by decide +kernel

/-- R138: one output and no live talker. -/
theorem test_read_outputs :
    shows (.readOutputs 0) (asking 0 kindReadOutputs [5, 5] desk)
      (fun t => (reply 0 t).map fun r => (r.1, r.2.1, r.2.2.take 3, r.2.2.getLast?)) =
    some (some (.done, 1, [2, 5, 0], some 0)) := by decide +kernel

/-- 9.9: port 2's claim stands ahead of those of ports 1 and 3, and port 1 hears that it lost the head. -/
theorem test_talk_on :
    shows (.talkOn 1) (asking 1 kindTalkOn []
        { desks3 with talk := { desks3.talk with claims := [⟨0, 200000⟩, ⟨2, 0⟩] } })
      (fun t => (t.talk.claims, (reports 0 t).contains (.talkPreempted 2 200000 (some 1)))) =
    some ([⟨1, 0⟩, ⟨0, 200000⟩, ⟨2, 0⟩], true) := by decide +kernel

/-- 9.9: port 2's TALK OFF gives its live time, 100,000. -/
theorem test_talk_off :
    shows (.talkOff 1) (sending 1 kindTalkOff []
        { desks3 with talk := { desks3.talk with claims := [⟨1, 100000⟩, ⟨0, 200000⟩, ⟨2, 0⟩] } })
      (fun t => (reply 1 t, t.talk.claims)) =
    some (some (.done, 1, [1, 1, 0x86, 0xA0]), [⟨0, 200000⟩, ⟨2, 0⟩]) := by decide +kernel

/-- R151: no claims; the order 2, 1, 3 and the limit of 30 s. -/
theorem test_read_talk :
    shows (.readTalk 0) (asking 0 kindReadTalk [] desk) (fun t => reply 0 t) =
    some (some (.done, 1, [0, 0, 2, 1, 3, 30, 0, 0, 0, 0, 0, 0])) := by decide +kernel

/-- 10.10: port 3's GRANT 1..16 is number 7, with voters 1 and 2. -/
theorem test_propose :
    shows (.propose 2) (asking 2 kindPropose [3, 1, 16] { desks3 with consent := { desks3.consent with lastNumber := 6 } })
      (fun t => (reply 2 t, t.consent.proposal.map fun pr => (pr.number, pr.action, pr.voters.toList),
        (reports 0 t).length)) =
    some (some (.done, 1, [7, 3, 5, 0]), some (7, .grant 0 15, [true, true, false]), 1) := by decide +kernel

/-- 10.10: an objection on the last frame. -/
theorem test_object :
    shows (.object 0) (sending 0 kindObject [7] (proposed 2 (.grant 0 15) [true] 239999 desks3))
      (fun t => (reply 0 t, t.consent.proposal, t.consent.lastOutcome.map (·.ending), reports 1 t)) =
    some (some (.done, 1, []), none, some .refused, [.consentEnded 7 (.grant 0 15) 2 .refused (some 0) none]) := by
  decide +kernel

/-- R157: the proposer withdraws; another number is TOO_LATE. -/
theorem test_withdraw :
    let s := proposed 2 .reset [true, true] 0 desks3
    shows (.withdraw 2) (asking 2 kindWithdraw [7] s)
      (fun t => (reply 2 t, t.consent.lastOutcome.map (·.ending), (reports 0 t).getLast?)) =
      some (some (.done, 1, []), some .withdrawn, some (.consentEnded 7 .reset 2 .withdrawn none (some .request))) ∧
    shows (.withdraw 2) (asking 2 kindWithdraw [8] s) (fun t => reply 2 t) = some (some (.tooLate, 0, [])) := by
  decide +kernel

/-- R158 and R152: none pending; the last outcome is a number, an action, a proposer and an outcome, none of them. -/
theorem test_read_consent :
    shows (.readConsent 0) (asking 0 kindReadConsent [] desk) (fun t => reply 0 t) =
    some (some (.done, 1, [0, 0, 0, 0, 0, 0, 0xFF, 0xFF, 0, 5, 0, 0, 0, 0, 0])) := by decide +kernel

/-- R71, case 4: the card after the one last polled. -/
theorem test_poll :
    let s := { polledCards desk with hubFrame := 9, bus := { (polledCards desk).bus with lastPolled := some 7 } }
    shows .poll s (fun t => (t.bus.transaction, t.bus.lastPolled)) = some (some (.poll 0 9), some 0) := by decide +kernel

/-- 4.8: the WRITE of channel 12 at 20,015: gain 36, phantom off, recorded port 2. -/
theorem test_write :
    let s := modChannel 11 (fun h => { h with desired := ⟨36, false⟩, desiredBy := some 1 }) (polledCards desk)
    let s := (indexes 8).foldl (fun t k => modCard k (fun r => { r with lastPoll := some 20000 }) t) s
    shows .write { s with hubFrame := 20015, bus := { s.bus with writeQueue := [11] } } (fun t => t.bus.transaction) =
    some (some (.write 11 ⟨36, false⟩ false (some 1) 20015)) := by decide +kernel

/-- R76: the broadcast that power-on queues starts first. -/
theorem test_phantom_off_all :
    shows .phantomOffAll { desk with hubFrame := 2 } (fun t => (t.bus.transaction, t.bus.broadcasts)) =
    some (some (.broadcast .phantomOffAll 2), []) := by decide +kernel

/-- R76. -/
theorem test_set_rate :
    shows .setRate { desk with bus := { desk.bus with broadcasts := [.setRate .double] } }
      (fun t => (t.bus.transaction, t.bus.broadcasts)) = some (some (.broadcast (.setRate .double) 0), []) := by
  decide +kernel

/-- R69: a broadcast takes 4 frame periods. -/
theorem test_broadcast_end :
    let s := { desk with hubFrame := 6, bus := { desk.bus with transaction := some (.broadcast .phantomOffAll 2) } }
    shows .broadcastEnd s (fun t => t.bus.transaction) = some none ∧
    shows .broadcastEnd { s with hubFrame := 5 } (fun t => t.bus.transaction.isSome) = some true := by decide +kernel

/-- 4.9: card 3 back at 40,174 with gain 0: channel 17 gets an unattributed application due at 40,212 and joins the write
queue behind 20 and 21. -/
theorem test_poll_reply :
    let s := { withCard 2 desk with hubFrame := 40174 }
    let s := { s with bus := { s.bus with transaction := some (.poll 2 40150), writeQueue := [19, 20] } }
    shows (.pollReply 2 { status := 0, channels := Bank.const 8 ⟨0, false, false, false⟩ })
      (modCard 2 (fun r => { r with state := .absent, timeouts := 3 }) s)
      (fun t => ((t.card 2).state, (t.card 2).timeouts, (t.channel 16).switched, (t.channel 16).applications,
        t.bus.writeQueue)) =
    some (.present, 0, some ⟨0, false⟩, [{ due := 40212, value := ⟨0, false⟩, author := none }],
      [19, 20, 16, 17, 18, 21, 22, 23]) := by decide +kernel

/-- 4.8: the ACK at 20,027: switched 36, an application due at 20,065 for port 2; desired 33 keeps the channel queued. -/
theorem test_write_ack :
    let s := modChannel 11 (fun h => { h with desired := ⟨33, false⟩, desiredBy := some 0 }) (polledCards desk)
    shows (.writeAck 1 11) { s with hubFrame := 20027, bus := { s.bus with
        writeQueue := [11], transaction := some (.write 11 ⟨36, false⟩ false (some 1) 20015) } }
      (fun t => ((t.channel 11).switched, (t.channel 11).applications, t.bus.writeQueue, t.bus.transaction)) =
    some (some ⟨36, false⟩, [{ due := 20065, value := ⟨36, false⟩, author := some 1 }], [11], none) := by decide +kernel

/-- 4.9: the third timeout in a row makes card 3 ABSENT. -/
theorem test_transaction_timeout :
    let s := modCard 2 (fun r => { r with timeouts := 2 }) (withCard 2 desk)
    shows .transactionTimeout { s with hubFrame := 30288, bus := { s.bus with
        writeQueue := [19], transaction := some (.write 19 ⟨40, false⟩ false (some 1) 30192) } }
      (fun t => ((t.card 2).state, (t.card 2).timeouts, t.bus.writeQueue, reports 0 t)) =
    some (.absent, 3, [19], [.cardState 2 .absent .noReply 3 none]) := by decide +kernel

/-- 5.10: at 10,038 port 2's anchor becomes 36, and port 1's coefficient steps to 41,350. -/
theorem test_application_due :
    let s := (indexes 3).foldl (fun t p => modDesk p 11 (fun r => { r with anchor := some 30, trim := if p = 0 then 20 else 0 }) t)
      { polledCards desks3 with hubFrame := 10038 }
    shows (.applicationDue 11)
      (modChannel 11 (fun h => { h with applications := [{ due := 10038, value := ⟨36, false⟩, author := some 1 }] }) s)
      (fun t => ((t.channel 11).applied, (t.desk 1 11).anchor, (t.desk 0 11).comp, (t.desk 0 11).coefficient,
        (t.desk 1 11).coefficient)) = some (some ⟨36, false⟩, some 36, -40, 41350, 65536) := by decide +kernel

/-- R88. -/
theorem test_coefficient_ramp_end :
    shows (.coefficientRampEnd 2 11) (modDesk 2 11 (fun r => { r with ramp := some ⟨27636, 2072, 32⟩ }) desks3)
      (fun t => ((t.desk 2 11).coefficient, (t.desk 2 11).ramp)) = some (2072, none) := by decide +kernel

/-- 6.8: the ramp of channel 1 ends, and channel 6 starts. -/
theorem test_ramped :
    let s := [0, 1, 3, 4].foldl (fun t c => modPhantom c (fun r => { r with state := .rampUp, timer := some 24000 }) t)
      (polledCards desks3)
    shows (.ramped 0) { s with startQueue := [5] } (fun t => (t.phantomOf 0, (t.phantomOf 5).state, t.startQueue)) =
    some ({ state := .settleUp, timer := some 0, fault := false }, .rampUp, []) := by decide +kernel

/-- R105: 1,000 ms of settling, 48,000 frame periods. -/
theorem test_settled :
    let s := modPhantom 0 (fun r => { r with state := .settleUp, timer := some 48000 }) desk
    shows (.settled 0) s (fun t => (t.phantomOf 0).state) = some .on ∧
    shows (.ramped 0) s (fun t => (t.phantomOf 0).state) = some .settleUp := by decide +kernel

/-- 6.8: the discharge of channel 3 ends at 72,000, desired off. -/
theorem test_discharged :
    shows (.discharged 2) (modPhantom 2 (fun r => { r with state := .rampDown, timer := some 72000 }) desk)
      (fun t => (t.phantomOf 2).state) = some .off ∧
    shows (.discharged 2) (modPhantom 2 (fun r => { r with state := .rampDown, timer := some 71999 }) desk)
      (fun t => (t.phantomOf 2).state) = some .rampDown := by decide +kernel

/-- R120. -/
theorem test_rate_mute_end :
    shows .rateMuteEnd { desk with rateMute := some 0 } (fun t => t.rateMute) = some none ∧
    shows .rateMuteEnd { desk with rateMute := some 1 } (fun t => t.rateMute) = some (some 1) := by decide +kernel

/-- 8.10: expiry at 24,000; the crossfade goes to channel 12 at −10.0. -/
theorem test_delay_expired :
    shows (.delayExpired 4) (modOutput 4 (fun o => { o with
        source := some ⟨1, 4⟩, fallbackChannel := some 11, state := .waiting, timer := some 24000 }) desk)
      (fun t => ((t.output 4).state, (t.output 4).timer, (t.output 4).crossfade)) =
    some (.fallback, none, some { old := .ret ⟨1, 4⟩, new := .fallback 11 (-100), steps := 0 }) := by decide +kernel

/-- R132. -/
theorem test_crossfade_end :
    shows (.crossfadeEnd 4) (modOutput 4 (fun o => { o with crossfade := some ⟨.silence, .fallback 11 0, 480⟩ }) desk)
      (fun t => (t.output 4).crossfade) = some none := by decide +kernel

/-- R133. -/
theorem test_dim_ramp_end :
    shows (.dimRampEnd 4) (modOutput 4 (fun o => { o with dimRamp := some ⟨65536, 6554, 32⟩ }) desk)
      (fun t => ((t.output 4).dimCoefficient, (t.output 4).dimRamp)) = some (6554, none) := by decide +kernel

/-- 9.9: port 1's claim expires at 1,440,000, and port 3 is live with its full time. -/
theorem test_talk_timed_out :
    shows .talkTimedOut { desks3 with talk := { desks3.talk with claims := [⟨0, 1440000⟩, ⟨2, 0⟩] } }
      (fun t => (t.talk.claims, (reports 0 t).contains (.talkTimedOut 1440000 30))) = some ([⟨2, 0⟩], true) := by
  decide +kernel

/-- 9.9, the stage button: 960 frame periods, with stage-talk channel 64. -/
theorem test_stage_talk_taken :
    shows .stageTalkTaken { desk with
        settings := { desk.settings with stageChannel := some 63 }, talk := { desk.talk with steady := 960 } }
      (fun t => (t.talk.taken, t.talk.active, t.talk.steady, reports 0 t)) =
    some (true, true, 0, [.stageTalk true true (some 63)]) := by decide +kernel

/-- 10.10: the grant carried at 240,000: channel 5 already held port 3, the others get it. -/
theorem test_consent_window_expired :
    let s := modChannel 4 (fun h => { h with authority := Bank.const 3 true }) desks3
    shows .consentWindowExpired (proposed 2 (.grant 0 15) [true] 240000 s)
      (fun t => ((t.channel 15).authority.toList, (t.channel 16).authority.toList, t.consent.proposal,
        ((reports 0 t).filter fun r => r.key.1 = 4).length)) =
    some ([true, true, true], [true, true, false], none, 15) := by decide +kernel

/-- R163. -/
theorem test_quiet_timer_expired :
    shows .quietTimerExpired { desk with retained := { desk.retained with quiet := some 96000, valid := true } }
      (fun t => (t.retained.valid, t.retained.quiet, t.retained.write.map (·.elapsed))) =
    some (false, none, some 0) := by decide +kernel

/-- R163. -/
theorem test_retained_write_end :
    shows .retainedWriteEnd { desk with retained := { desk.retained with
        write := some { elapsed := 1920, entries := desk.retained.entries } } }
      (fun t => (t.retained.valid, t.retained.write.isNone)) = some (true, true) := by decide +kernel

/-! ### Witnesses: for each statement with hypotheses, states and operands that meet them, clause by clause -/

/-- Every one of a list of bodies makes a request that port 1 has accepted, in a given state. -/
def AllAccepted (kind : Byte) (s : State) (bodies : List (List Byte)) : Prop :=
  ∀ b ∈ bodies, Accepted 0 kind (msg kind b) (asking 0 kind b s)

/-- Desks at all ports, with one command waiting. -/
def waiting : State := { desks3 with pending := [.lightLost 0 .A] }

theorem witness_StepTakesTheFrontCommand : waiting.pending = .lightLost 0 .A :: [] ∧ desk.pending = [] := by decide +kernel

theorem witness_CommandsLeaveOtherRecordsAlone :
    (∃ t, exec (.lightLost 0 .A) desk = .next t) ∧ PortPart.plan ∉ portFootprint (.lightLost 0 .A) 0 ∧
      PortPart.record ∉ portFootprint (.lightLost 0 .A) 1 ∧ touchesChannel (.lightLost 0 .A) 0 = false ∧
      touchesDesk (.setTrim 0) 1 63 = false ∧ touchesOutput (.crossfadeEnd 0) 31 = false :=
  ⟨⟨_, rfl⟩, by decide +kernel⟩

theorem witness_StoppedHubStandsStill :
    ∀ x ∈ [Power.held, Power.off], ({ desk with power := x } : State).power ≠ .running ∧
      ∀ c ∈ [Instr.lightLost 0 .A, .lightReturned 2 .B, .poll],
        c ≠ .powerLoss ∧ c ≠ .powerOnReset .supplies ∧ c ≠ .powerOnReset .release ∧ c ≠ .resetInputAssert .full ∧
          c ≠ .resetInputAssert .short := by decide +kernel

/-- Each threshold command one short of its target, or with its condition absent. -/
theorem witness_EventsNotDueChangeNothing :
    (∀ c ∈ [Instr.playout quietInputs, .acquired 0 .A, .syncLost 0 .A, .qualified 0 .A, .laneDrop 0 .A,
        .playoutMuteEnd 0, .assemblyTimeout 0, .clockLocked, .clockHoldover, .holdExpired 0, .poll, .write, .setRate,
        .broadcastEnd, .pollReply 0 { status := 0, channels := Bank.const 8 ⟨0, false, false, false⟩ }, .writeAck 0 0,
        .transactionTimeout, .applicationDue 0, .coefficientRampEnd 0 0, .ramped 0, .settled 0, .discharged 0,
        .rateMuteEnd, .delayExpired 0, .crossfadeEnd 0, .dimRampEnd 0, .talkTimedOut, .stageTalkTaken,
        .consentWindowExpired, .quietTimerExpired, .retainedWriteEnd], due c desk = false) ∧
      due .downstreamFrame (midFrame 0 desk) = false ∧
      due .phantomOffAll { desk with bus := { desk.bus with broadcasts := [] } } = false ∧
      due (.laneDrop 0 .A) (modLane 0 .A (fun l => { l with misses := 2 }) desk) = false ∧
      due .rateMuteEnd { desk with rateMute := some 1 } = false ∧
      due .quietTimerExpired { desk with retained := { desk.retained with quiet := some 95999 } } = false := by
  decide +kernel

theorem witness_PowerOnRestoresTheImage :
    (∀ x ∈ [Power.held, .running], let s := { desk with power := x, resetInput := true }
      s.resetInput = true ∧ s.power ≠ .off) ∧
    (let s := { desk with power := .off, resetInput := true }; s.resetInput = true ∧ s.power = .off) ∧
    desk.resetInput = false := by decide +kernel

theorem witness_PowerLossAndResetInputCutTheWrite :
    desk.power ≠ .off ∧ ({ desk with power := .held } : State).power ≠ .off ∧
      ({ desk with power := .off } : State).power = .off := by decide +kernel

theorem witness_ImageIsWrittenAfterQuiet :
    let s := { desk with retained := { desk.retained with
      quiet := some 96000, write := some { elapsed := 1920, entries := desk.retained.entries } } }
    s.power = .running ∧ s.retained.quiet = some 96000 ∧ (s.retained.write.map (·.elapsed)) = some 1920 := by
  decide +kernel

/-! The laws, each met by the hub with three desks and a command waiting, which runs to a next state. -/

theorem waiting_steps : ∃ t, step waiting = .next t := ⟨_, rfl⟩

theorem witness_StepKeepsLaneAndPortLaws :
    LaneLaw waiting ∧ PortLaw waiting ∧ PowerLaw waiting ∧ ∃ t, step waiting = .next t := by
  refine ⟨?_, ?_, ?_, waiting_steps⟩
  · unfold LaneLaw Lane.lawful; decide +kernel
  · unfold PortLaw; decide +kernel
  · unfold PowerLaw; decide +kernel

theorem witness_StepKeepsMergeLaw : MergeLaw waiting ∧ ∃ t, step waiting = .next t := by
  refine ⟨fun p => ?_, waiting_steps⟩
  have h : ∀ p i, (waiting.port p).merge.entries.get i = { seq := none, a := none, b := none } := by decide +kernel
  have hf : ∀ p n, (waiting.lane p n).fourth = none := by
    intro p n; cases n <;> revert p <;> decide +kernel
  have hr : ∀ p, 1 ≤ (waiting.port p).merge.offset ∧ (waiting.port p).merge.offset ≤ 7 ∧
      (waiting.port p).merge.next < 65536 := by decide +kernel
  refine ⟨(hr p).1, (hr p).2.1, (hr p).2.2, fun i => ?_, fun n c e => ?_⟩
  · rw [h]; exact ⟨rfl, rfl⟩
  · rw [hf] at e; cases e

theorem witness_StepKeepsControlLaw : ControlLaw waiting ∧ ∃ t, step waiting = .next t := by
  refine ⟨?_, waiting_steps⟩
  unfold ControlLaw Control.lawful; decide +kernel

theorem witness_StepKeepsRangeLaws :
    SettingsLaw waiting ∧ CompensationLaw waiting ∧ PlanLaw waiting ∧ ∃ t, step waiting = .next t := by
  refine ⟨?_, ?_, fun p => ?_, waiting_steps⟩
  · unfold SettingsLaw; decide +kernel
  · unfold CompensationLaw; decide +kernel
  · have h : ∀ p, (waiting.port p).plan = { mic := some ⟨1, 64⟩, ret := none } := by decide +kernel
    rw [h]
    refine ⟨fun w e => ?_, fun w e => ?_, ?_⟩
    · cases e; unfold Window.within; decide
    · cases e
    · decide +kernel

theorem witness_StepKeepsChannelLaws :
    GainLaw waiting ∧ AuthorityLaw waiting ∧ KnownLaw waiting ∧ BusLaw waiting ∧ ∃ t, step waiting = .next t := by
  have hc : ∀ c, waiting.channel c = Channel.reset := by decide +kernel
  have hr : ∀ c, waiting.retained.entries.get c = RetainedEntry.default := by decide +kernel
  have hk : ∀ k, waiting.card k = { state := .absent, known := false, timeouts := 0, lastPoll := none, status := none } := by
    decide +kernel
  have hw : waiting.retained.write = none := by decide +kernel
  have ht : waiting.bus.transaction = none := by decide +kernel
  refine ⟨⟨fun c => ?_, ?_, fun c => ?_, ?_⟩, ⟨fun c => ?_, fun c => ?_, ?_⟩, ⟨fun c => ?_, fun k => ?_, ?_⟩, ?_, waiting_steps⟩
  · rw [hc]; simp [Channel.reset, GainPad.inRange]
  · simp [ht]
  · rw [hr]; simp [RetainedEntry.default, GainPad.inRange]
  · simp [hw]
  · rw [hc]; exact ⟨0, rfl⟩
  · rw [hr]; exact ⟨0, rfl⟩
  · simp [hw]
  · rw [hc, hk]; simp [Channel.reset]
  · rw [hk]; simp
  · simp [ht]
  · unfold BusLaw; decide +kernel

theorem witness_StepKeepsPhantomLaws :
    StartQueueLaw waiting ∧ StartsLaw waiting ∧ SupplyGuardLaw waiting ∧ ∃ t, step waiting = .next t := by
  refine ⟨?_, ?_, ?_, waiting_steps⟩
  · unfold StartQueueLaw; decide +kernel
  · unfold StartsLaw; decide +kernel
  · unfold SupplyGuardLaw; decide +kernel

/-- The hub with three desks and every output NORMAL. -/
def normalOutputs : State := { waiting with outputs := waiting.outputs.each fun o => { o with state := .normal } }

theorem witness_StepKeepsOutputLaw : OutputLaw normalOutputs ∧ ∃ t, step normalOutputs = .next t := by
  refine ⟨fun o => ?_, ⟨_, rfl⟩⟩
  have h : ∀ o, normalOutputs.output o = { Output.reset o with state := .normal } := by decide +kernel
  have hp : ∀ p, normalOutputs.portState p = .attached := by decide +kernel
  rw [h]
  simp [Output.reset, hp]

theorem witness_StepKeepsTalkAndConsentLaws :
    let s := proposed 2 .reset [true, true] 0 { waiting with talk := { waiting.talk with claims := [⟨1, 5⟩, ⟨0, 9⟩] } }
    TalkLaw s ∧ StageLaw s ∧ ConsentLaw s ∧ ∃ t, step s = .next t := by
  refine ⟨?_, ?_, ?_, ⟨_, rfl⟩⟩
  · unfold TalkLaw; decide +kernel
  · unfold StageLaw; decide +kernel
  · refine ⟨by decide +kernel, fun pr e => ?_⟩
    cases e; decide +kernel

/-! Lanes, merge buffers and the clock -/

theorem witness_LightMovesTheLane :
    desk.power = .running ∧ (desk.lane 0 .A).state ≠ .dark ∧ (desk.lane 1 .A).state = .dark := by decide +kernel

/-- Port 1's lane A in another state, in the middle of hub frame 1,000. -/
def laneIn (st : LaneState) : State := midFrame 1000 (modLane 0 .A (fun l => { l with state := st }) desk)

/-- Lag 3 is P, lag 4 is late; once the playouts of hub frame 1,000 are made, each lag is one more. -/
theorem witness_UpstreamFrameIsJudged :
    (∀ st ∈ [LaneState.seeking, .qualifying, .up], (laneIn st).power = .running ∧ ((laneIn st).lane 0 .A).state = st ∧
      st ≠ .dark ∧ ((laneIn st).lane 0 .A).synced = true ∧ ((laneIn st).lane 0 .A).overBudget = false ∧
      lagOf (frameNow (laneIn st)) (upCopy (upFrame 997 true)).echo ≤ ((laneIn st).port 0).merge.offset ∧
      ((laneIn st).port 0).merge.offset < lagOf (frameNow (laneIn st)) (upCopy (upFrame 996 true)).echo ∧
      ((laneIn st).port 0).merge.offset < lagOf (frameNow { laneIn st with played := true }) (upCopy (upFrame 997 true)).echo) ∧
    upCheckGood (upFrame 997 true) = true ∧ upCheckGood (upFrame 996 true) = true ∧
    upCheckGood (upFrame 997 false) = false ∧ (upFrame 997 true).get 0 = 0xA7 ∧ (upFrame 997 true).get 1 = 0xC5 := by
  decide +kernel

theorem witness_BadSyncsSendTheLaneBack :
    ∀ k ∈ [0, 3, 4], let s := modLane 0 .A (fun l => { l with badSyncs := k }) (laneIn .qualifying)
      s.power = .running ∧ (s.lane 0 .A).state = .qualifying ∧ (s.lane 0 .A).synced = true ∧ (s.lane 0 .A).badSyncs = k ∧
        (upFrame 9 false).get 0 = 0xA7 ∧ (upFrame 9 false).get 1 = 0xC5 := by decide +kernel

theorem witness_LanesMoveWhenDue :
    (∀ g ∈ [3, 4],
      let s := modLane 0 .A (fun l => { l with acquisition := 4, lastLag := some g, fourth := some (copyOf 9 0) })
        (laneIn .seeking)
      (s.lane 0 .A).state = .seeking ∧ (s.lane 0 .A).acquisition = 4 ∧ (s.lane 0 .A).fourth = some (copyOf 9 0) ∧
        (s.lane 0 .A).lastLag.getD 0 = g ∧ (s.port 0).merge.offset = 3 ∧ s.power = .running) ∧
    (let s := modLane 0 .A (fun l => { l with qualify := 48000 }) (laneIn .qualifying);
      (s.lane 0 .A).state = .qualifying ∧ 480 * s.settings.qualifyTime ≤ (s.lane 0 .A).qualify) ∧
    (let s := modLane 0 .A (fun l => { l with misses := 3 }) (laneIn .up);
      (s.lane 0 .A).state = .up ∧ 3 ≤ (s.lane 0 .A).misses) := by decide +kernel

/-- Port 1 with lane B ready to rise to UP. -/
def risingB (s : State) : State := modLane 0 .B (fun l => { l with state := .qualifying, qualify := 48000 }) s

theorem witness_ActiveLaneFollowsTheLanes :
    (Instr.lightLost 0 .A ∈ laneCommands 0 .A ∧ (desk.port 0).lanes.isUp (desk.port 0).merge.active = true ∧
      shows (.lightLost 0 .A) desk (fun t => ((t.port 0).lanes.isUp .A, (t.port 0).lanes.isUp .B, (t.port 0).merge.active)) =
        some (false, true, .B) ∧ (desk.port 0).merge.active ≠ .B) ∧
    (Instr.qualified 0 .B ∈ laneCommands 0 .B ∧ ((risingB desk).port 0).lanes.isUp .B = false ∧
      shows (.qualified 0 .B) (risingB desk) (fun t => ((t.port 0).lanes.isUp .B, (t.port 0).lanes.isUp .A)) =
        some (true, true) ∧ ((risingB desk).port 0).merge.preferred ≠ some .B ∧
      shows (.qualified 0 .B) (risingB (modMerge 0 (fun m => { m with preferred := some .B }) desk))
        (fun t => ((t.port 0).lanes.isUp .B, (t.port 0).merge.preferred)) = some (true, some .B) ∧
      shows (.qualified 0 .B) (risingB State.reset)
        (fun t => ((t.port 0).lanes.isUp .B, (t.port 0).lanes.isUp .A)) = some (true, false)) ∧
    (desk.port 0).merge.active ≠ .B ∧
    shows (.lightLost 0 .B) desk (fun t => (t.port 0).lanes.isUp .B) = some false ∧
    shows (.acquired 0 .B) desk (fun t => (t.port 0).lanes.isUp .B) = some true := by decide +kernel

theorem witness_PlayoutTakesTheCopy :
    let u := (desk.port 0)
    let e := entry 65533 (some (copyOf 65533 1)) (some (copyOf 65533 2))
    (u.lanes.isUp u.merge.active = true ∧ e.seq = some u.merge.next ∧ e.get u.merge.active = some (copyOf 65533 1)) ∧
    ((entry 65533 none e.b).get u.merge.active = none ∧ u.lanes.isUp u.merge.active.other = true ∧
      (entry 65533 none e.b).get u.merge.active.other = some (copyOf 65533 2)) ∧
    (entry 65525 e.a e.b).seq ≠ some u.merge.next ∧
    (entry 65533 none none).get .A = none ∧ (entry 65533 none none).get .B = none ∧
    (∀ f ∈ [0, 1000, 65538], (midFrame f desk).power = .running ∧ (midFrame f desk).begun = true ∧
      (midFrame f desk).played = false ∧
      (((midFrame f desk).port 0).merge.next + ((midFrame f desk).port 0).merge.offset) % 65536 = f % 65536) ∧
    (∀ x ∈ [(4, 997, 1), (7, 997, 4), (3, 33764, 32767)],
      let s := modMerge 0 (fun m => { m with offset := x.1, next := x.2.1, mute := some 32 }) (midFrame 1000 desk)
      ((s.port 0).merge.next + (s.port 0).merge.offset) % 65536 = (s.hubFrame + x.2.2) % 65536 ∧
        (s.port 0).merge.mute.isSome = true) ∧
    (∀ x ∈ [(2, 997, 1), (1, 997, 2), (3, 33765, 32768)],
      let s := modMerge 0 (fun m => { m with offset := x.1, next := x.2.1 }) (midFrame 1000 desk)
      s.power = .running ∧ s.begun = true ∧ s.played = false ∧
        ((s.port 0).merge.next + (s.port 0).merge.offset + x.2.2) % 65536 = s.hubFrame % 65536) ∧
    (let s := modMerge 0 (fun m => { m with offset := 1, entries := m.entries.put 7 (entry 999 (some (copyOf 999 1)) none) })
        (midFrame 1000 desk);
      let u := (s.port 0).movedOn 2;
      chooseCopy u (u.merge.entries.get (Fin.ofNat 8 u.merge.next)) = some (copyOf 999 1)) ∧
    (let s := modPort 0 (fun u => { u with lanes := { a := Lane.reset, b := Lane.reset } })
        (modMerge 0 (fun m => { m with offset := 4, withoutLane := 2 }) (midFrame 1000 desk));
      ((s.port 0).merge.next + (s.port 0).merge.offset) % 65536 = (s.hubFrame + 1) % 65536 ∧
        (s.port 0).lanes.anyUp = false ∧ 2 ≤ (s.port 0).merge.withoutLane) ∧
    ((modMerge 0 (fun m => { m with muteDue := true }) (midFrame 1000 desk)).port 0).merge.muteDue = true ∧
    ((midFrame 1000 desk).port 0).merge.muteDue = false ∧
    (let s := modMerge 0 (fun m => { m with entries := m.entries.put 5 (entry 997 (some (copyOf 997 1)) none) })
        (midFrame 1000 desk);
      let u := (s.port 0).movedOn 0;
      (s.port 0).merge.mute = none ∧
        chooseCopy u (u.merge.entries.get (Fin.ofNat 8 u.merge.next)) = some (copyOf 997 1)) ∧
    (∀ k ∈ [0, 32768], let u := ((midFrame 1000 desk).port 0).movedOn k
      chooseCopy u (u.merge.entries.get (Fin.ofNat 8 u.merge.next)) = none) := by
  decide +kernel

theorem witness_ClockFollowsItsTable :
    let at' (st : ClockState) (n : Nat) : State := { desk with clock := { state := st, requalify := n, missing := n } }
    (at' .holdover 48000).power = .running ∧ (at' .holdover 48000).clock.state = .holdover ∧
      48000 ≤ (at' .holdover 48000).clock.requalify ∧ (at' .locked 4).clock.state = .locked ∧
      4 ≤ (at' .locked 4).clock.missing ∧ desk.clock.state = .internal ∧
    ∀ src ∈ [ClockSource.internal, .wordclock], ∀ x ∈ [(0 : Byte), 1],
      let body : List Byte := [1, 0, 0, 0, 0, 0, 0, 0, 0, 0, 0, 0, 0, x, 0]
      let s := { at' .locked 0 with settings := { desk.settings with source := src } }
      s.settings.source = src ∧ u16 body 0 = 256 ∧ u8 body 13 = x.toNat ∧ u8 body 13 ≤ 1 ∧
        Waiting 0 kindSetHub (msg kindSetHub body) (asking 0 kindSetHub body s) ∧
        bodyLengthRight kindSetHub body = true ∧ available kindSetHub ((asking 0 kindSetHub body s).portState 0) = true := by
  unfold Waiting; decide +kernel

/-- Each presence code, with 0, 1, the offset in force, 7 and 8 as the offset, and each preferred lane; a port that is LINKED;
lane A with lag 4, late for 3 and in time for 4, and both lanes late. -/
theorem witness_SetPortIsTaken :
    AllAccepted kindSetPort (midFrame 1000 desk)
        [[1, 0, 9, 9], [1, 1, 0, 0], [1, 1, 1, 0], [1, 1, 3, 0], [1, 1, 7, 0], [1, 1, 8, 0], [3, 1, 4, 0], [1, 2, 0, 0],
          [1, 2, 0, 1], [1, 2, 0, 2], [1, 3, 3, 0], [1, 3, 4, 1], [1, 3, 1, 2], [0, 1, 3, 0], [4, 1, 3, 0], [1, 2, 0, 3],
          [1, 3, 3, 3]] ∧
    (let s := (midFrame 1000 desk).port 0;
      s.merge.offset = 3 ∧ s.merge.preferred = none ∧ s.merge.active = .A ∧ s.lanes.isUp .B = true) ∧
    (midFrame 1000 desk).portState 0 ≠ .linked ∧
    shows (.setPort 0) (asking 0 kindSetPort [1, 2, 0, 2] (midFrame 1000 desk))
      (fun t => ((t.lane 0 .B).state, (t.port 0).merge.active)) = some (.up, .B) ∧
    shows (.setPort 0) (asking 0 kindSetPort [1, 3, 1, 2] (modLane 0 .A (fun l => { l with lastLag := some 1 }) (midFrame 1000 desk)))
      (fun t => ((t.port 0).lanes.isUp .B, (t.port 0).lanes.isUp .A, (t.port 0).merge.active)) = some (false, true, .A) ∧
    shows (.setPort 0) (asking 0 kindSetPort [1, 3, 1, 2] (midFrame 1000 desk))
      (fun t => ((t.lane 0 .A).state, (t.lane 0 .B).state, (t.port 0).merge.active)) = some (.qualifying, .qualifying, .B) ∧
    ∀ st ∈ [LaneState.up, .qualifying], let s := modLane 0 .A (fun l => { l with lastLag := some 4 }) (laneIn st)
      (s.lane 0 .A).state = st ∧ (s.lane 0 .A).lastLag.any (fun g => decide (3 < g)) = true ∧
        (s.lane 0 .A).lastLag.any (fun g => decide (4 < g)) = false := by
  unfold AllAccepted Accepted Waiting; decide +kernel

/-! Desk ports -/

/-- Port 1 with lane A alone UP, in a port state. -/
def oneLane (st : PortState) : State := inState 0 st (modLane 0 .B (fun l => { l with state := .seeking }) desk)

/-- Port 1 with no lane UP and lane B ready to rise, in a port state. -/
def noLane (st : PortState) : State :=
  inState 0 st (risingB (modLane 0 .A (fun l => { l with state := .seeking }) desk))

theorem witness_PortFollowsItsLanes :
    (∀ st ∈ [PortState.linked, .attached], ((oneLane st).port 0).lanes.anyUp = true ∧ (oneLane st).portState 0 = st ∧
      shows (.lightLost 0 .A) (oneLane st) (fun t => (t.port 0).lanes.anyUp) = some false) ∧
    (∀ st ∈ [PortState.vacant, .isolated], ((noLane st).port 0).lanes.anyUp = false ∧ (noLane st).portState 0 = st ∧
      shows (.qualified 0 .B) (noLane st) (fun t => (t.port 0).lanes.anyUp) = some true) ∧
    (desk.port 0).lanes.anyUp = true ∧
      shows (.lightLost 0 .A) desk (fun t => (t.port 0).lanes.anyUp) = some true := by decide +kernel

/-- An output that takes return 1 of port 1. -/
def fedBy1 (o : OutNo) (st : OutputState) (delay : Nat) (s : State) : State :=
  modOutput o (fun x => { x with source := some ⟨0, 0⟩, state := st, fallbackDelay := delay }) s

theorem witness_LeavingAndReturningAreFelt :
    (∀ p ∈ [(0 : Port), 1], let s := proposed p .reset [] 0 (fedBy1 3 .normal 5 (fedBy1 4 .normal 0 (oneLane .attached)))
      s.portState 0 = .attached ∧ shows (.lightLost 0 .A) s (fun t => t.portState 0) = some .isolated ∧
        s.consent.proposal.map (·.proposer) = some p ∧
        (s.output 3).fallbackDelay = 5 ∧ (s.output 4).fallbackDelay = 0 ∧
        ∀ o ∈ [(3 : OutNo), 4], (s.output o).state = .normal ∧ (s.output o).source = some ⟨0, 0⟩) ∧
    shows (.detach 0) (asking 0 kindDetach [] desk) (fun t => t.portState 0) = some .linked ∧
    (∀ st ∈ [OutputState.waiting, .fallback], let s := fedBy1 3 st 5 (noLane .isolated)
      s.portState 0 ≠ .attached ∧ shows (.qualified 0 .B) s (fun t => t.portState 0) = some .attached ∧
        (s.output 3).source = some ⟨0, 0⟩ ∧ (s.output 3).state = st ∧ (s.output 3).state ≠ .normal ∧
        (s.output 4).source = some ⟨1, 4⟩ ∧ (1 : Port) ≠ 0) := by decide +kernel

theorem witness_PortTimersExpire :
    (∀ st ∈ [PortState.vacant, .attached],
      let s := modControl 0 (fun k => { k with assembly := some { bytes := [0x0B], idle := 64 } }) (inState 0 st desk)
      s.power = .running ∧ (s.port 0).control.assembly = some { bytes := [0x0B], idle := 64 } ∧
        (s.port 0).control.reports = [] ∧ s.portState 0 = st) ∧
    (let s := modRecord 0 (fun r => { r with state := .isolated, lossHold := some 96000 }) desk;
      s.portState 0 = .isolated ∧ (s.port 0).record.lossHold = some 96000 ∧ 24000 * s.settings.lossHold ≤ 96000) := by
  decide +kernel

/-- Serials 0, 7 (the port's own) and 8; names of 0, 16 and 17 characters; proposals of the port and of another. -/
theorem witness_AttachRecordsTheDesk :
    ∀ st ∈ [PortState.linked, .attached, .isolated],
      ∀ s ∈ [desk, proposed 0 .reset [false, true] 0 desk, proposed 1 .reset [true, false] 0 desk],
        AllAccepted kindAttach (inState 0 st s)
          [[0, 0, 0, 0, 0], [0, 0, 0, 7, 0], [0, 0, 0, 8, 16] ++ List.replicate 16 0x41,
            [0, 0, 0, 8, 17] ++ List.replicate 17 0x41] ∧
        (inState 0 st s).portState 0 = st ∧ (s.port 0).record.serial = some 7 ∧ (s.port 0).record.lastSerial = some 7 := by
  unfold AllAccepted Accepted Waiting; decide +kernel

theorem witness_DetachEndsTheAttachment :
    ∀ st ∈ [PortState.attached, .isolated], AllAccepted kindDetach (inState 0 st desk) [[]] := by
  unfold AllAccepted Accepted Waiting; decide +kernel

/-! The control channel and the hub settings -/

/-- Bodies of 0 and 61 bytes; a queue of 0, 5, 7 and 8; an assembly of a kind and a tag as a length byte comes, and as the
frame to play is missing, with no skip and with one of two frames. -/
theorem witness_MessageAssembles :
    (∀ n ∈ [0, 61], ∀ r ∈ [0, 5, 7, 8],
      let s := modControl 0 (fun k => { k with requests := List.replicate r (msg kindSetGain [1, 1, 1]) }) desk
      (s.port 0).control.assembly = none ∧ (msg kindAttach (List.replicate n 0)).body.length ≤ 61 ∧
        isImmediate (msg kindAttach (List.replicate n 0)).kind = false ∧ (s.port 0).control.requests.length = r) ∧
    isImmediate (msg kindTalkOff []).kind = true ∧ (desk.port 0).control.assembly = none ∧
    ∀ st ∈ [PortState.vacant, .attached], ∀ k ∈ [0, 2],
      let s := inState 0 st (modControl 0 (fun k => { k with assembly := some ⟨[0x0B, 0x21], 1⟩ })
        (modMerge 0 (fun m => { m with offset := 3 - k }) (midFrame 1000 desk)))
      let u := (s.port 0).movedOn k
      (s.port 0).control.assembly = some ⟨[0x0B, 0x21], 1⟩ ∧ ([0x0B, 0x21] : List Byte).length = 2 ∧ 61 < (62 : Byte).toNat ∧
        s.power = .running ∧ s.begun = true ∧ s.played = false ∧ s.portState 0 = st ∧ (s.port 0).control.reports = [] ∧
        ((s.port 0).merge.next + (s.port 0).merge.offset + k) % 65536 = s.hubFrame % 65536 ∧
        chooseCopy u (u.merge.entries.get (Fin.ofNat 8 u.merge.next)) = none := by
  decide +kernel

/-- A body of zeros of the right length for a kind. -/
def rightBody (k : Byte) : List Byte :=
  List.replicate (if k = kindAttach then 5 else bodyLengths.getD (k.toNat - 2) 0) 0

/-- R169: an ATTACH body of 4 and 5 bytes, and one whose name length byte does not match. -/
theorem witness_RequestsAreCheckedFirst_lengths :
    bodyLengthRight 0x01 [0, 0, 0, 0] = false ∧ bodyLengthRight 0x01 [0, 0, 0, 0, 0] = true ∧
      bodyLengthRight 0x01 [0, 0, 0, 0, 2, 0] = false ∧ available 0x13 .linked = true ∧ available 0x05 .linked = false := by
  decide

theorem witness_RequestsAreCheckedFirst :
    (∀ x ∈ queuedKinds, Waiting 0 x.1 (msg x.1 (List.replicate 7 0)) (asking 0 x.1 (List.replicate 7 0) desk) ∧
      bodyLengthRight x.1 (List.replicate 7 0) = false ∧
      Waiting 0 x.1 (msg x.1 (rightBody x.1)) (inState 0 .vacant (asking 0 x.1 (rightBody x.1) desk)) ∧
      bodyLengthRight x.1 (rightBody x.1) = true ∧ available x.1 .vacant = false ∧
      (desk.port 0).control.requests = [] ∧ x.1 ≠ 0x20) ∧
    (∀ k ∈ [(0x00 : Byte), 0x20, 0xFF], isRequestKind k = false ∧ Waiting 0 k (msg k []) (asking 0 k [] desk)) ∧
    (∀ x ∈ immediateKinds,
      Arrived 0 x.1 (msg x.1 (rightBody x.1)) [] (sending 0 x.1 (rightBody x.1) (inState 0 .linked desk)) ∧
      Arrived 0 x.1 (msg x.1 [1, 2]) [] (sending 0 x.1 [1, 2] desk) ∧ bodyLengthRight x.1 [1, 2] = false ∧
      bodyLengthRight x.1 (rightBody x.1) = true) ∧
    (let s := modControl 0 (fun k => { k with replies := List.replicate 8 ⟨1, 1, .done, 1, []⟩ }) (sending 0 kindTalkOff [] desk);
      Arrived 0 kindTalkOff (msg kindTalkOff []) [] s ∧ 8 ≤ (s.port 0).control.replies.length) := by
  unfold Waiting Arrived; decide +kernel

/-- A control channel with n reports of different subjects. -/
def withReports (n : Nat) : Control :=
  { Control.reset with reports := (List.range n).map fun i => .clip (Fin.ofNat 64 i) 0 false 0 none }

theorem witness_ReportsCoalesce :
    (withReports 3).reports = [.clip 0 0 false 0 none] ++ .clip 1 0 false 0 none :: [.clip 2 0 false 0 none] ∧
      (Report.clip 1 0 false 0 none).key = (Report.clip 1 9 true 0 none).key ∧
      (∀ x ∈ [Report.clip 0 0 false 0 none] ++ [.clip 2 0 false 0 none], x.key ≠ (Report.clip 1 9 true 0 none).key) ∧
      (∀ n ∈ [0, 31, 32], (withReports n).reports.length = n ∧
        ∀ x ∈ (withReports n).reports, x.key ≠ (Report.clip 63 0 false 0 none).key) ∧
      (∀ why tag n, Report.clip 63 0 false 0 none ≠ .messageDropped why tag n) ∧
      ∀ kind tag n, Report.clip 63 0 false 0 none ≠ .requestLost kind tag n := by
  refine ⟨by decide +kernel, by decide +kernel, by decide +kernel, by decide +kernel, ?_, ?_⟩ <;>
    · intros; exact Report.noConfusion

theorem witness_ArbiterSendsRepliesFirst :
    let r : Reply := ⟨1, 1, .done, 1, []⟩
    ({ Control.reset with outbound := [1, 2] }).outbound = 1 :: [2] ∧ Control.reset.outbound = [] ∧
      ({ Control.reset with replies := [r] }).replies = r :: [] ∧ ({ Control.reset with replies := [r] }).outbound = [] ∧
      (withReports 1).replies = [] ∧ (withReports 1).reports = .clip 0 0 false 0 none :: [] ∧
      (withReports 1).outbound = [] ∧ ((withReports 1).nextByte false).isSome = true ∧
      (Control.reset.nextByte false).isNone = true ∧ Control.reset.replies = [] ∧ Control.reset.reports = [] := by decide +kernel

/-- A twice-named port, an unknown source; all ten fields present at and past their ends; and none present. -/
theorem witness_SetHubTakesThePresentFields :
    AllAccepted kindSetHub desk
      [[0, 32, 0, 0, 0, 0, 0, 1, 1, 2, 0, 0, 0, 0, 0], [1, 0, 0, 0, 0, 0, 0, 0, 0, 0, 0, 0, 0, 2, 0],
        [3, 255, 255, 255, 255, 255, 255, 3, 2, 1, 255, 255, 255, 1, 255], [3, 255, 0, 0, 0, 0, 0, 2, 1, 3, 0, 0, 0, 0, 0],
        List.replicate 15 0] ∧
      orderGiven [0, 32, 0, 0, 0, 0, 0, 1, 1, 2, 0, 0, 0, 0, 0] = none ∧
      orderGiven [3, 255, 255, 255, 255, 255, 255, 3, 2, 1, 255, 255, 255, 1, 255] = some [2, 1, 0] := by
  unfold AllAccepted Accepted Waiting; decide +kernel

/-- What the changed settings act on: a lane at the shortest qualify time and one below it; a loss hold at the shortest
target and one below it; phantom transitions at the shortest targets; and claims at the shortest live limit. -/
theorem witness_SetHubTakesThePresentFields_effects :
    (∀ k ∈ [479, 480], let s := modLane 0 .A (fun l => { l with state := .qualifying, qualify := k }) desk
      (s.lane 0 .A).state = .qualifying ∧ (s.lane 0 .A).qualify = k) ∧
    (∀ e ∈ [23999, 24000],
      let s := modPort 1 (fun u => { u with lanes := { a := Lane.reset, b := Lane.reset } })
        (modRecord 1 (fun r => { r with state := .isolated, lossHold := some e }) desks3)
      (s.port 1).record.lossHold = some e ∧ s.portState 1 = .isolated ∧
        shows (.setHub 0) (asking 0 kindSetHub [0, 64, 0, 0, 0, 0, 0, 0, 0, 0, 1, 0, 0, 0, 0] s)
          (fun t => (t.port 1).lanes.anyUp) = some false) ∧
    (∀ x ∈ [(PhantomState.rampUp, 4800), (.settleUp, 9600), (.rampDown, 14400), (.rampDown, 14399)],
      let s := modPhantom 0 (fun r => { r with state := x.1, timer := some x.2 }) desk
      StartQueueLaw s ∧ (s.phantomOf 0).timer = some x.2 ∧ (s.phantomOf 0).state = x.1) ∧
    (([⟨1, 240000⟩, ⟨0, 239999⟩, ⟨2, 7⟩] : List Claim).map Claim.port).Nodup := by
  unfold StartQueueLaw; decide +kernel

/-! Channels, cards and the card bus -/

theorem witness_GainAndPadRequestsTakeTheRange :
    AllAccepted kindSetGain desk [[1, 64, 63], [1, 1, 64], [64, 64, 0], [0, 1, 5], [2, 1, 5], [1, 65, 5]] ∧
    AllAccepted kindStepGain desk [[1, 64, 10], [1, 1, 0xF6], [1, 1, 11], [1, 1, 0x80], [0, 1, 5]] ∧
    AllAccepted kindSetPad desk [[1, 64, 0], [1, 64, 1], [1, 64, 2], [0, 1, 1]] ∧
    (rangeOf 64 1 64).map List.length = some 64 ∧ rangeOf 64 64 64 = some [63] ∧ rangeOf 64 0 1 = none ∧
    rangeOf 64 2 1 = none ∧ rangeOf 64 1 65 = none := by
  unfold AllAccepted Accepted Waiting; decide +kernel

/-- ADD port 3; REMOVE SELF with another holder and without; unknown actions and ports. -/
theorem witness_SetAuthorityTakesTheRange :
    (∀ held ∈ [[true, true], [true, false], [false, true]],
      let s := modChannel 0 (fun h => { h with authority := Bank.ofList 3 false held }) desk
      AllAccepted kindSetAuthority s
        [[1, 1, 1, 3], [1, 1, 2, 0], [1, 1, 0, 1], [1, 1, 3, 1], [1, 1, 1, 0], [1, 1, 1, 4], [0, 1, 1, 3], [2, 1, 2, 0]]) ∧
    rangeOf 64 1 1 = some [0] ∧ rangeOf 64 0 1 = none ∧ rangeOf 64 2 1 = none ∧
    (let s := modChannel 0 (fun h => { h with authority := Bank.ofList 3 false [true] }) desk;
      ∃ c ∈ [(0 : Chan)], (s.channel c).authority.get 0 = true ∧ ∀ r, r ≠ 0 → (s.channel c).authority.get r = false) ∧
    (∀ c ∈ [(0 : Chan)], (desk.channel c).authority.get 0 = true ∧ ∃ r, r ≠ 0 ∧ (desk.channel c).authority.get r = true) := by
  unfold AllAccepted Accepted Waiting; decide +kernel

/-- Two entries due in hub frame 10,038, the last of them the one applied, and one due later. -/
theorem witness_ApplicationsTakeEffect :
    let e : Application := ⟨10038, ⟨30, true⟩, none⟩
    let x : Application := ⟨10038, ⟨36, false⟩, some 1⟩
    let s := modChannel 11 (fun h => { h with applications := [e, x, ⟨10039, ⟨0, false⟩, none⟩] })
      { desks3 with hubFrame := 10038 }
    s.power = .running ∧ (s.channel 11).applications = e :: [x, ⟨10039, ⟨0, false⟩, none⟩] ∧ e.due ≤ s.hubFrame ∧
      ((e :: [x, ⟨10039, ⟨0, false⟩, none⟩]).filter fun y => y.due = e.due).getLast? = some x := by decide +kernel

/-- The cards all polled in one hub frame, some frames ago, with card 4 polled longer ago. -/
def polledAgo (age : Nat) : State :=
  let s := (indexes 8).foldl (fun t k => modCard k (fun r => { r with lastPoll := some (if k = 3 then 0 else 1) }) t)
    (polledCards desk)
  { s with hubFrame := age }

theorem witness_BusServesInOrder :
    desk.bus.broadcasts = .phantomOffAll :: [] ∧ busChoice desk = .broadcast .phantomOffAll ∧
    (polledAgo 4802).bus.broadcasts = [] ∧ overdue (polledAgo 4802) 3 = true ∧
    (∀ j, overdue (polledAgo 4802) j = true → pollAge (polledAgo 4802) j < pollAge (polledAgo 4802) 3 ∨
      (pollAge (polledAgo 4802) j = pollAge (polledAgo 4802) 3 ∧ 3 ≤ j)) ∧
    (∀ k, overdue (polledAgo 4800) k = false) ∧ (∀ k, k ≠ 3 → overdue (polledAgo 4801) k = false) ∧
    overdue (polledAgo 4801) 3 = true ∧ busChoice (polledAgo 4800) = .poll 0 ∧
    (let s := modCard 0 (fun r => { r with state := .absent }) (polledAgo 4800);
      let s := { s with bus := { s.bus with writeQueue := [] ++ [0] ++ 63 :: [8] } };
      s.cardPresent 0 = false ∧ s.cardPresent 63 = true ∧ s.bus.transaction = none ∧ busChoice s = .write 63) ∧
    (let s := { desk with hubFrame := 4, bus := { desk.bus with transaction := some (.broadcast (.setRate .double) 0) } };
      s.bus.transaction = some (.broadcast (.setRate .double) 0) ∧ 0 + 4 ≤ s.hubFrame) ∧
    busChoice { desk with bus := { desk.bus with broadcasts := [.setRate .double] } } = .broadcast (.setRate .double) := by
  decide +kernel

/-- At 24 and at 96 frame periods; a known card and an unknown one; phantom wanted and reported. -/
theorem witness_PollRepliesAreTaken :
    (∀ f ∈ [124, 196], ∀ s ∈ [desk, withCard 0 desk],
      let t := { s with hubFrame := f, bus := { s.bus with transaction := some (.poll 0 100) } }
      t.power = .running ∧ t.bus.transaction = some (.poll 0 100) ∧ 100 + 24 ≤ t.hubFrame ∧ t.hubFrame ≤ 100 + 96) ∧
    (desk.card 0).known = false ∧ ((withCard 0 desk).card 0).known = true ∧ (desk.card 0).state = .absent ∧
    (∀ p, (desk.desk p 0).anchor = none ∧ (desk.desk p 0).mode = .track) ∧
    (let s := modDesk 0 0 (fun r => { r with anchor := some 20 }) (modDesk 1 0 (fun r => { r with mode := .follow }) desk);
      (s.desk 0 0).anchor = some 20 ∧ (s.desk 0 0).mode = .track ∧ (s.desk 1 0).mode = .follow) ∧ cardOf 0 = 0 ∧ cardOf 63 = 7 ∧
    (∀ fault ∈ [true, false], ∀ wanted ∈ [true, false],
      let s := modPhantom 0 (fun r => { r with fault := fault }) (modChannel 0 (fun h => { h with phantom := wanted }) desk)
      (s.phantomOf 0).fault = fault ∧ (s.channel 0).phantom = wanted) ∧
    (∀ x ∈ [CardChannel.mk 30 false true true, ⟨30, false, true, false⟩, ⟨30, false, false, false⟩],
      (Bank.const 8 x).get (Fin.ofNat 8 (0 : Chan).val) = x) := by decide +kernel

theorem witness_PollRepliesAreTaken_phantom :
    ∀ st ∈ [PhantomState.off, .queued, .rampUp, .settleUp, .on, .rampDown],
      let s := modPhantom 0 (fun r => { r with state := st }) (withCard 0 desk)
      StartQueueLaw { s with startQueue := if st = .queued then [0] else [] } ∧ (s.phantomOf 0).state = st := by
  unfold StartQueueLaw; decide +kernel

theorem witness_AcksAndTimeoutsEndTransactions :
    (∀ f ∈ [112, 196],
      let s := { desk with hubFrame := f, bus := { desk.bus with transaction := some (.write 63 ⟨36, false⟩ true (some 1) 100) } }
      s.power = .running ∧ s.bus.transaction = some (.write 63 ⟨36, false⟩ true (some 1) 100) ∧ 100 + 12 ≤ s.hubFrame ∧
        s.hubFrame ≤ 100 + 96 ∧ cardOf 63 = 7 ∧ (f = 196 → 100 + 96 ≤ s.hubFrame)) ∧
    (let s := modCard 0 (fun r => { r with timeouts := 2 }) (withCard 0 desk);
      let s := { s with hubFrame := 196, bus := { s.bus with transaction := some (.poll 0 100) } };
      s.bus.transaction = some (.poll 0 100) ∧ 100 + 96 ≤ s.hubFrame ∧ (s.card 0).state = .present ∧
        2 ≤ (s.card 0).timeouts) := by decide +kernel

/-! Gain tracking -/

theorem witness_CoefficientTableIsExact :
    (-400 : Int) ≤ -400 ∧ (-400 : Int) < 400 ∧ (400 : Int) ≤ 400 ∧ (Output.reset 0).dim = .level (-200) ∧
      silenced (withCard 0 desk) 0 = false := by decide +kernel

theorem witness_RampsRunAndEnd :
    let x : Ramp := ⟨27636, 2072, 0⟩
    let r := { DeskRecord.reset with ramp := some x }
    (r.ramp = some { start := 27636, target := 2072, steps := 0 } ∧ r.stepNext = none) ∧
    desk.power = .running ∧
    ((modDesk 0 0 (fun r => { r with ramp := some ⟨1, 2, 32⟩ }) desk).desk 0 0).ramp = some ⟨1, 2, 32⟩ ∧
    ((modOutput 0 (fun o => { o with crossfade := some ⟨.silence, .silence, 480⟩, dimRamp := some ⟨1, 2, 32⟩ }) desk).output
      0).crossfade = some ⟨.silence, .silence, 480⟩ ∧
    ((modMerge 0 (fun m => { m with mute := some 0 }) desk).port 0).merge.mute = some 0 ∧
    ({ desk with rateMute := some 0 } : State).rateMute = some 0 := by decide +kernel

/-- Trims −240, −241 and +240; net gain known and unknown; TRACK and FOLLOW. -/
theorem witness_TrimAndTrackingAreTaken :
    rangeOf 64 1 64 = some (indexes 64) ∧
    AllAccepted kindSetTrim desk
      [[1, 64, 0xFF, 0x10], [1, 64, 0xFF, 0x0F], [1, 64, 0, 240], [1, 64, 0, 0], [0, 0, 0, 0], [2, 1, 0, 0]] ∧
    AllAccepted kindSetTracking desk [[1, 64, 0], [1, 64, 1], [1, 64, 2], [0, 0, 0], [2, 1, 1]] ∧
    rangeOf 64 0 0 = none ∧ rangeOf 64 2 1 = none ∧
    (let s := modDesk 0 0 (fun r => { r with anchor := some 63, limitArmed := true, ramp := some ⟨65536, 655, 3⟩ })
        (modChannel 0 (fun h => { h with applied := some ⟨0, false⟩ }) desk);
      (s.desk 0 0).limitArmed = true ∧ s.portState 0 ≠ .vacant ∧ (s.desk 0 0).goal = coefficientOf (-400) ∧
        (s.desk 0 0).goal ≠ coefficientOf (-340) ∧ (s.channel 0).net = some 0) ∧
    (let s := modDesk 0 0 (fun r => { r with anchor := some 30 }) (withCard 0 desk);
      (s.desk 0 0).mode = .track ∧ (s.desk 0 0).anchor = some 30 ∧ (s.channel 0).net = some 30 ∧ (s.desk 0 0).trim = 0) ∧
    (desk.desk 0 0).anchor = none ∧ (desk.channel 0).net = none ∧
    ((modDesk 0 0 (fun r => { r with mode := .follow }) desk).desk 0 0).mode = .follow := by
  unfold AllAccepted Accepted Waiting; decide +kernel

theorem witness_NoticesMetersAndCounters :
    AllAccepted kindArmNotices desk [[1, 64, 1], [1, 64, 2], [1, 64, 3], [1, 64, 0], [1, 64, 4], [0, 1, 1]] ∧
    AllAccepted kindReadMeters desk [[1, 16], [49, 64], [1, 17], [1, 65]] ∧
    AllAccepted kindClearLaneCounters desk [[1, 1], [3, 2], [1, 3], [0, 1], [4, 1], [1, 0], [1, 4]] ∧
    (rangeOf 64 1 16).map List.length = some 16 ∧ (rangeOf 64 1 17).map List.length = some 17 ∧ rangeOf 64 0 1 = none ∧
    (∀ x ∈ [(-400 : Int), 0, 400], let s := modDesk 0 11 (fun r => { r with comp := x }) desk;
      -400 ≤ (s.desk 0 11).comp ∧ (s.desk 0 11).comp ≤ 400) := by
  unfold AllAccepted Accepted Waiting; decide +kernel

/-! Phantom -/

theorem witness_SetPhantomTakesTheRange :
    (∀ st ∈ [PhantomState.off, .queued, .rampUp, .settleUp, .on, .rampDown],
      let s := modPhantom 0 (fun r => { r with state := st }) desk
      let s := { s with startQueue := if st = .queued then [0] else [] }
      AllAccepted kindSetPhantom s [[1, 2, 0], [1, 2, 1], [1, 2, 2], [0, 1, 1], [2, 1, 0]] ∧ StartQueueLaw s ∧
        (s.phantomOf 0).state = st) ∧
    rangeOf 64 1 2 = some [0, 1] ∧ rangeOf 64 0 1 = none ∧ rangeOf 64 2 1 = none ∧ authorised 0 desk [0, 1] = [0, 1] ∧
    authorised 2 desk [0, 1] = [] := by
  unfold AllAccepted Accepted Waiting StartQueueLaw; decide +kernel

/-- A channel QUEUED on an ABSENT card and, behind it, one on a PRESENT card: SET PHANTOM 2..2, ON starts the second, and
the requested one too where its card is PRESENT; the card phantom reads off, on and unknown. -/
theorem witness_SetPhantomTakesTheRange_starts :
    ∀ known ∈ [none, some false, some true],
      let s := modPhantom 8 (fun r => { r with state := .queued }) (modPhantom 63 (fun r => { r with state := .queued })
        (modChannel 63 (fun h => { h with phantom := true, cardPhantom := known }) (withCard 7 desk)))
      let s := { s with startQueue := [8, 63] }
      Accepted 0 kindSetPhantom (msg kindSetPhantom [2, 2, 1]) (asking 0 kindSetPhantom [2, 2, 1] s) ∧ StartQueueLaw s ∧
        s.cardPresent 8 = false ∧ s.cardPresent 63 = true ∧ (s.channel 63).cardPhantom = known ∧
        (s.channel 63).phantom = true ∧ shows (.setPhantom 0) (asking 0 kindSetPhantom [2, 2, 1] s)
          (fun t => ((t.phantomOf 63).state, (t.phantomOf 8).state, (t.phantomOf 1).state, t.startQueue)) =
        some (.rampUp, .queued, .queued, [8, 1]) := by
  unfold Accepted Waiting StartQueueLaw; decide +kernel

/-- With no start left to make: SET PHANTOM 63..64, ON starts both channels past one QUEUED on an ABSENT card, whose desired
phantom is off. -/
theorem witness_SetPhantomTakesTheRange_law :
    let s := { modPhantom 8 (fun r => { r with state := .queued }) (withCard 7 desk) with startQueue := [8] }
    Accepted 0 kindSetPhantom (msg kindSetPhantom [63, 64, 1]) (asking 0 kindSetPhantom [63, 64, 1] s) ∧
      StartQueueLaw (asking 0 kindSetPhantom [63, 64, 1] s) ∧ StartsLaw (asking 0 kindSetPhantom [63, 64, 1] s) ∧
      (s.channel 8).phantom = false ∧
      shows (.setPhantom 0) (asking 0 kindSetPhantom [63, 64, 1] s)
        (fun t => ((t.phantomOf 62).state, (t.phantomOf 63).state, t.startQueue)) = some (.rampUp, .rampUp, [8]) := by
  unfold Accepted Waiting StartQueueLaw StartsLaw; decide +kernel

theorem witness_PhantomTransitionsEnd :
    ∀ x ∈ [(PhantomState.rampUp, 24000), (.settleUp, 48000), (.rampDown, 72000)],
      let s := modPhantom 0 (fun r => { r with state := x.1, timer := some x.2 }) desk
      s.power = .running ∧ StartQueueLaw s ∧ (s.phantomOf 0).state = x.1 ∧ (s.phantomOf 0).timer = some x.2 ∧
        (x.1 = .rampUp → 4800 * s.settings.rampTime ≤ x.2) ∧ (x.1 = .settleUp → 4800 * s.settings.settleTime ≤ x.2) ∧
        (x.1 = .rampDown → 4800 * (s.settings.rampTime + s.settings.settleTime) ≤ x.2) := by
  unfold StartQueueLaw; decide +kernel

/-! Delivery to the desks -/

/-- The first frame, and a later one; windows at the ends of their range; a CLIP notice that the frame carries; a dim ramp
before its last step and after it. -/
theorem witness_FramePeriodStarts :
    State.reset.power = .running ∧ State.reset.begun = false ∧ (endFrame 5 desk).power = .running ∧
      (endFrame 5 desk).begun = true ∧ (endFrame 5 desk).played = true ∧
    (∀ w ∈ [Window.mk 1 64, ⟨64, 63⟩, ⟨64, 64⟩], w.within 64) ∧
    (let s := modPort 0 (fun u => { u with plan := { mic := some ⟨64, 1⟩, ret := none } })
        (modDesk 0 0 (fun r => { r with coefficient := 82505 })
          { withCard 0 (endFrame 5 desk) with mics := Bank.const 64 { first := 8388607, second := 0 } });
      clipReports s 0 = [.clip 0 5 false 0 (some 30)] ∧
        shows .downstreamFrame s (fun t => (t.port 0).sent.map fun f => (f.control.map ControlByte.byte)) =
          some (some [0x48, 0, 11, 1])) ∧
    (∀ n ∈ [0, 31, 32], let s := modOutput 0 (fun o => { o with dimRamp := some ⟨65536, 0, n⟩ }) (endFrame 5 desk)
      (s.output 0).dimRamp = some ⟨65536, 0, n⟩) := by
  unfold Window.within; decide +kernel

/-- A channel in the window and one outside it; a slot that clips, on an armed record of a port with DESK HOLD. -/
theorem witness_DeliveredSlotsAreMetered :
    let s := modPort 0 (fun u => { u with
        merge := { u.merge with deskHold := true }, plan := { mic := some ⟨57, 1⟩, ret := none } })
      (modDesk 0 0 (fun r => { r with coefficient := 82505 })
        { withCard 0 (endFrame 5 desk) with mics := Bank.const 64 { first := 8388607, second := 0 } })
    s.power = .running ∧ s.played = true ∧ (∀ n ∈ windowItems 64 (s.port 0).plan.mic, chanNumbered n ≠ 1) ∧
      1 ∈ windowItems 64 (s.port 0).plan.mic ∧ chanNumbered 1 = 0 ∧
      (micSlots s 0 0).find? (fun y => decide (y.cond = .clipped)) = some { sample := 8388607, cond := .clipped } ∧
      (s.desk 0 0).clipArmed = true ∧ s.portState 0 ≠ .vacant ∧ (s.port 0).merge.deskHold = true ∧
      (s.port 0).control.outbound = [] ∧ (∀ x ∈ micSlots s 0 63, x.cond ≠ .clipped) := by decide +kernel

/-- 7.7: port 3's windows at SINGLE, and cut at DOUBLE. -/
theorem witness_FrameSlotsFollowThePlan :
    let at' (r : Rate) (last : Nat) : State :=
      { modPort 2 (fun u => { u with plan := { mic := some ⟨49, 16⟩, ret := some ⟨33, last⟩ } }) (withCard 6 desks3) with rate := r }
    (∀ x ∈ [(Rate.single, 64), (.double, 47)], let s := at' x.1 x.2
      s.rate = x.1 ∧ (windowItems 64 (s.port 2).plan.mic)[0]? = some 49 ∧
        (windowItems 64 (s.port 2).plan.mic)[31]? = some 16 ∧
        (windowItems 96 (s.port 2).plan.ret)[0]? = some (32 * (1 : Port).val + num (0 : Fin 32)) ∧
        (windowItems 96 (s.port 2).plan.ret)[14]? = some (32 * (1 : Port).val + num (14 : Fin 32)) ∧ s.rateMute = none) ∧
    (let s := modDesk 0 48 (fun r => { r with coefficient := 82505 }) (at' .single 64);
      s.cardPresent 48 = true ∧ s.cardPresent 0 = false ∧ (s.phantomOf 48).state = .off ∧
        scale 82505 (8388607 : Int) > 8388607 ∧ scale 82505 (-8388608 : Int) < -8388608 ∧ scale 82505 (1 : Int) = 1) ∧
    (let s : State := { desks3 with
        talk := { claims := [⟨1, 0⟩], taken := true, steady := 0, active := true },
        settings := { desks3.settings with stageChannel := some 63 } };
      s.talk.active = true ∧ s.settings.stageChannel = some 63 ∧ s.talk.claims = ⟨1, 0⟩ :: [] ∧
        desks3.talk.active = false ∧ desks3.talk.claims = []) := by decide +kernel

/-- Windows 1..64, 49..16 and 64..64; SET PLAN at 95 and 96 slots; absent, unknown and out-of-range windows. -/
theorem witness_PlansAreSetAndCut :
    (∀ w ∈ [Window.mk 1 64, ⟨49, 16⟩, ⟨64, 64⟩], w.within 64) ∧ (Window.mk 33 64).within 96 ∧
    AllAccepted kindSetPlan desk
      [[1, 1, 64, 1, 1, 31], [1, 1, 64, 1, 1, 32], [0, 0, 0, 0, 0, 0], [2, 1, 1, 0, 0, 0], [1, 0, 1, 0, 0, 0],
        [1, 1, 65, 0, 0, 0], [0, 0, 0, 1, 96, 97]] ∧
    windowLength 64 (some ⟨1, 64⟩) + windowLength 96 (some ⟨1, 31⟩) = 95 ∧
    windowLength 64 (some ⟨1, 64⟩) + windowLength 96 (some ⟨1, 32⟩) = 96 ∧
    (∀ x ∈ [(2, 1, 1), (1, 0, 1), (1, 1, 65)], windowGiven 64 x.1 x.2.1 x.2.2 = none) ∧
    47 < Plan.total { mic := some ⟨57, 48⟩, ret := some ⟨65, 80⟩ } ∧ Plan.total { mic := some ⟨1, 40⟩, ret := none } ≤ 47 := by
  unfold AllAccepted Accepted Waiting Window.within; decide +kernel

/-! Stage outputs -/

/-- A refused range, port and return; the last return that fits; NONE; sources in every port state. -/
theorem witness_PatchOutputTakesTheRange :
    (∀ st ∈ [PortState.vacant, .linked, .attached, .isolated],
      AllAccepted kindPatchOutput (inState 1 st desks3)
        [[0, 1, 1, 1], [1, 2, 4, 1], [1, 2, 1, 0], [1, 2, 1, 32], [1, 2, 1, 31], [1, 32, 2, 1], [1, 32, 0, 0]]) ∧
    rangeOf 32 0 1 = none ∧ rangeOf 32 1 2 = some [0, 1] ∧ (desks3.output 0).source = some ⟨1, 0⟩ ∧
    (desks3.output 0).fallbackDelay ≠ 0 ∧
    (∀ st ∈ [PortState.linked, .isolated], let s := modOutput 0 (fun o => { o with fallbackDelay := 0 }) (inState 1 st desks3)
      AllAccepted kindPatchOutput s [[1, 2, 2, 3]] ∧ s.portState 1 = st ∧ (s.output 0).fallbackDelay = 0 ∧
        (s.output 0).source ≠ some ⟨1, 2⟩) := by
  unfold AllAccepted Accepted Waiting; decide +kernel

theorem witness_SetOutputAndDelays :
    (∀ e ∈ [4799, 4800],
      let s := modOutput 0 (fun o => { o with state := .waiting, timer := some e }) desk
      AllAccepted kindSetOutput s
        [[0, 1, 31, 0, 0, 0, 0, 0, 0, 0, 0], [1, 2, 8, 0, 0, 0, 0, 2, 0, 0, 0], [1, 2, 16, 0, 0, 0, 0, 0, 2, 0, 0],
          [1, 2, 31, 64, 0xFE, 0x70, 50, 1, 0, 0xFE, 0x70], [1, 2, 31, 65, 0xFE, 0x6F, 51, 0, 1, 0, 1],
          [1, 2, 4, 0, 0, 0, 1, 0, 0, 0, 0], [1, 2, 0, 0, 0, 0, 0, 0, 0, 0, 0]] ∧
        (s.output 0).state = .waiting ∧ (s.output 0).timer = some e) ∧
    rangeOf 32 0 1 = none ∧ rangeOf 32 1 2 = some [0, 1] ∧
    (let s := modOutput 0 (fun o => { o with state := .waiting, timer := some 24000 }) desk;
      s.power = .running ∧ (s.output 0).state = .waiting ∧ (s.output 0).timer = some 24000 ∧
        4800 * (s.output 0).fallbackDelay ≤ 24000) := by
  unfold AllAccepted Accepted Waiting; decide +kernel

theorem witness_OutputsCarryTheirStreams :
    let s := modOutput 0 (fun o => { o with crossfade := some ⟨.silence, .ret ⟨1, 0⟩, 240⟩ }) (midFrame 1000 desks3)
    (s.power = .running ∧ s.begun = true ∧ s.played = false ∧ s.rateMute = none ∧
      (s.output 0).crossfade = some ⟨.silence, .ret ⟨1, 0⟩, 240⟩ ∧ (s.output 1).crossfade = none) ∧
    ({ s with rateMute := some 4800 } : State).rateMute.isSome = true ∧ s.rate = .single ∧
    ({ s with rate := .double } : State).rate = .double ∧ Stream.silence ≠ .ret ⟨1, 0⟩ ∧
    Stream.fallback 0 0 ≠ .ret ⟨1, 0⟩ ∧ Stream.fallback 0 0 ≠ .silence := by decide +kernel

/-! Talkback -/

theorem witness_EndsOfFramesAreCounted :
    let s := proposed 0 .reset [] 5 { midFrame 1000 desks3 with talk := { desks3.talk with claims := [⟨1, 5⟩, ⟨0, 9⟩] } }
    (s.power = .running ∧ s.begun = true ∧ s.played = false ∧ s.talk.claims = ⟨1, 5⟩ :: [⟨0, 9⟩]) ∧
      desks3.talk.claims = [] ∧ 960 ≤ ({ desks3.talk with steady := 960 }).steady := by decide +kernel

/-- Claims of ports 2 and 3, with port 1 asking; a claim of its own; an expired head. -/
theorem witness_TalkClaimsComeAndGo :
    (∀ cs ∈ [[], [Claim.mk 1 5, ⟨2, 7⟩], [⟨1, 5⟩, ⟨0, 7⟩], [⟨0, 7⟩], [⟨0, 7⟩, ⟨2, 1440000⟩]],
      let s := { desks3 with talk := { desks3.talk with claims := cs } }
      (s.talk.claims.map Claim.port).Nodup ∧ AllAccepted kindTalkOn s [[]] ∧ 1 ≤ s.settings.liveLimit ∧
        (s.talk.claims.Pairwise fun c d => rank s.settings.priority c.port ≤ rank s.settings.priority d.port) ∧
        Arrived 0 kindTalkOff (msg kindTalkOff []) [] (sending 0 kindTalkOff [] s) ∧
        ((sending 0 kindTalkOff [] s).port 0).control.replies.length < 8 ∧ s.portState 0 = .attached) ∧
    (let s := { desks3 with talk := { desks3.talk with claims := [⟨0, 1440000⟩, ⟨2, 0⟩] } };
      s.power = .running ∧ s.talk.claims = ⟨0, 1440000⟩ :: [⟨2, 0⟩] ∧ 48000 * s.settings.liveLimit ≤ 1440000) := by
  unfold AllAccepted Accepted Waiting Arrived; decide +kernel

/-! Consent -/

/-- Unknown actions, rates and ranges; each action; a pending proposal; voters and none; the number 255. -/
theorem witness_ProposalsOpen :
    (∀ s ∈ [desk, desks3, proposed 1 .reset [true] 0 desks3, { desks3 with consent := { desks3.consent with lastNumber := 255 } }],
      AllAccepted kindPropose s
        [[0, 0, 0], [4, 0, 0], [1, 2, 0], [3, 0, 1], [3, 1, 65], [3, 2, 1], [1, 0, 0], [1, 1, 0], [2, 0, 0], [3, 1, 64]] ∧
      s.consent.lastNumber ≤ 255) ∧
    (∀ c ∈ indexes 64, (desk.channel c).authority.get 0 = true) ∧ rangeOf 64 1 64 = some (indexes 64) ∧
    desks3.consent.proposal = none ∧ (proposed 1 .reset [true] 0 desks3).consent.proposal.isSome = true ∧
    (let voters : PortSet := Bank.ofList 3 false [false, true, true];
      (∀ q, voters.get q = true ↔ desks3.portState q = .attached ∧ q ≠ 0 ∧ (Bank.const 3 true).get q = true) ∧
        ∃ q, voters.get q = true) ∧
    (let voters : PortSet := Bank.const 3 false;
      (∀ q, voters.get q = true ↔ desk.portState q = .attached ∧ q ≠ 0 ∧ (Bank.const 3 true).get q = true) ∧
        ∀ q, voters.get q = false) := by
  unfold AllAccepted Accepted Waiting; decide +kernel

theorem witness_ProposalsOpen_grant :
    let s := modChannel 0 (fun h => { h with authority := Bank.ofList 3 false [false, true] }) desks3
    let stake : PortSet := Bank.ofList 3 false [true, true]
    (∃ f l : Chan, num f = 1 ∧ num l = 2 ∧ f ≤ l ∧
      (∀ q, stake.get q = true ↔ ∃ c, f ≤ c ∧ c ≤ l ∧ (s.channel c).authority.get q = true) ∧
      (false = true ↔ ∀ c, f ≤ c → c ≤ l → (s.channel c).authority.get 0 = true)) ∧
      Accepted 0 kindPropose (msg kindPropose [3, 1, 2]) (asking 0 kindPropose [3, 1, 2] s) := by
  refine ⟨⟨0, 1, ?_⟩, ?_⟩
  · decide +kernel
  · unfold Accepted Waiting; decide +kernel

/-- The right number and a wrong one; a voter and a port that is none; the proposer and another port. -/
theorem witness_ProposalsAreEnded :
    (∀ s ∈ [desks3, proposed 2 .reset [true, true] 0 desks3, proposed 2 .reset [false, true] 0 desks3, proposed 0 .reset [] 0 desks3],
      ∀ n ∈ [(7 : Byte), 8],
        Arrived 0 kindObject (msg kindObject [n]) [] (sending 0 kindObject [n] s) ∧
        ((sending 0 kindObject [n] s).port 0).control.replies.length < 8 ∧
        (sending 0 kindObject [n] s).portState 0 = .attached ∧
        Accepted 0 kindWithdraw (msg kindWithdraw [n]) (asking 0 kindWithdraw [n] s)) ∧
    (proposed 2 .reset [true, true] 0 desks3).consent.proposal.map (fun pr => (pr.number, pr.voters.get 0, pr.proposer)) =
      some (7, true, 2) := by
  unfold Arrived Accepted Waiting; decide +kernel

theorem witness_CarriedProposalsAreExecuted :
    ∀ a ∈ [Action.rate .double, .reset, .grant 0 15], let s := proposed 2 a [true] 240000 desks3
      s.power = .running ∧ s.consent.proposal.map (fun pr => (pr.action, pr.elapsed)) = some (a, 240000) ∧
        48000 * s.settings.consentWindow ≤ 240000 ∧ (s.channel 0).authority.get 2 = false ∧ s.portState 1 ≠ .vacant := by
  decide +kernel

/-- HUB RESET with port 2 in each state: an output that takes its own default return, and one that takes another's. -/
theorem witness_CarriedProposalsAreExecuted_outputs :
    ∀ st ∈ [PortState.vacant, .linked, .attached, .isolated], ∀ e ∈ [23999, 24000],
      let s := modOutput 3 (fun o => { o with source := some ⟨1, 3⟩, state := .waiting, timer := some e })
        (fedBy1 4 .normal 5 (proposed 2 .reset [true] 240000 (inState 1 st desks3)))
      s.consent.proposal.map (fun pr => (pr.action, pr.elapsed)) = some (.reset, 240000) ∧ s.portState 1 = st ∧
        (s.output 3).source = some ⟨1, 3⟩ ∧ (s.output 3).state = .waiting ∧ (s.output 3).timer = some e ∧
        (s.output 4).source = some ⟨0, 0⟩ ∧
        (st = .isolated → shows .consentWindowExpired s (fun t => t.portState 1) = some .isolated) := by
  decide +kernel

/-! The reads -/

theorem witness_ReadsAnswerTheState :
    (∀ k ∈ [kindReadPort, kindReadLanes, kindReadPlan], AllAccepted k desks3 [[1], [3], [0], [4]]) ∧
    (∀ k ∈ [kindReadHub, kindReadCards, kindReadTalk, kindReadConsent], AllAccepted k (inState 0 .linked desks3) [[]]) ∧
    AllAccepted kindReadChannels desks3 [[1, 8], [57, 64], [1, 9]] ∧ AllAccepted kindReadOutputs desks3 [[1, 2], [31, 32], [1, 3]] ∧
    (rangeOf 64 57 64).map List.length = some 8 ∧ (rangeOf 64 1 9).map List.length = some 9 ∧
    (rangeOf 32 31 32).map List.length = some 2 ∧ (rangeOf 32 1 3).map List.length = some 3 ∧
    desks3.settings.priority.length = 3 ∧
    (let s := withCard 0 desks3;
      (s.channel 0).applied = some ⟨30, false⟩ ∧ (s.channel 0).switched = some ⟨30, false⟩ ∧
        (s.channel 0).cardPhantom = some false ∧ (s.channel 0).applications.length < 16 ∧ (s.channel 63).applied = none) := by
  unfold AllAccepted Accepted Waiting; decide +kernel

end Sys2Proof.Tests
end

section
/-! PROOF. Reports as the ports feel them: an operation that does nothing to the units of the ports but offer reports, what
such operations leave as it was, and which reports that were heard are heard still. -/

namespace Sys2Proof.Machine

/-! ### Offers in turn -/

/-- Offers in turn change the reports and the lost marker alone. -/
theorem Control.foldl_offer_eq (rs : List Report) (k : Control) :
    rs.foldl Control.offer k =
      { k with reports := (rs.foldl Control.offer k).reports, lost := (rs.foldl Control.offer k).lost } := by
  induction rs generalizing k with
  | nil => rfl
  | cons r rs ih =>
    rw [List.foldl_cons, ih (k.offer r), Control.offer_eq k r]

@[simp] theorem Control.foldl_offer_assembly (rs : List Report) (k : Control) :
    (rs.foldl Control.offer k).assembly = k.assembly := by rw [Control.foldl_offer_eq]

@[simp] theorem Control.foldl_offer_requests (rs : List Report) (k : Control) :
    (rs.foldl Control.offer k).requests = k.requests := by rw [Control.foldl_offer_eq]

@[simp] theorem Control.foldl_offer_hold (rs : List Report) (k : Control) :
    (rs.foldl Control.offer k).hold = k.hold := by rw [Control.foldl_offer_eq]

@[simp] theorem Control.foldl_offer_arrived (rs : List Report) (k : Control) :
    (rs.foldl Control.offer k).arrived = k.arrived := by rw [Control.foldl_offer_eq]

@[simp] theorem Control.foldl_offer_outbound (rs : List Report) (k : Control) :
    (rs.foldl Control.offer k).outbound = k.outbound := by rw [Control.foldl_offer_eq]

@[simp] theorem Control.foldl_offer_replies (rs : List Report) (k : Control) :
    (rs.foldl Control.offer k).replies = k.replies := by rw [Control.foldl_offer_eq]

/-- A report that stands in a queue, or was lost there, is so still after offers of other kinds and subjects. -/
theorem Control.heard_foldl_offer {r : Report} {rs : List Report} (hr : ∀ x ∈ rs, r.key ≠ x.key) (k : Control)
    (h : r ∈ k.reports ∨ k.lost = true) :
    r ∈ (rs.foldl Control.offer k).reports ∨ (rs.foldl Control.offer k).lost = true := by
  induction rs generalizing k with
  | nil => exact h
  | cons x rs ih =>
    refine ih (fun y hy => hr y (List.mem_cons_of_mem _ hy)) (k.offer x) ?_
    exact h.imp (fun hm => k.mem_offer_of_mem r x hm (hr x List.mem_cons_self)) (k.lost_offer x)

/-- Of two reports of one kind and subject the newer stands as it is, but for the two kinds that count (R52). -/
theorem Report.replacing_eq {r : Report} (h : r.key.1 < 22) (q : Report) : q.replacing r = r := by
  unfold Report.replacing
  split
  · simp [Report.key] at h
  · simp [Report.key] at h
  · rfl

/-! ### Operations that only offer reports -/

/-- From s to t every port has been offered reports of the kinds named, and its unit is otherwise as it was. -/
def Offers (kinds : List Nat) (s t : State) : Prop :=
  ∀ q, ∃ rs : List Report, (∀ r ∈ rs, r.key.1 ∈ kinds) ∧
    t.port q = { s.port q with control := rs.foldl Control.offer (s.port q).control }

theorem Offers.of_ports {ks : List Nat} {s t : State} (h : t.ports = s.ports) : Offers ks s t := by
  intro q
  refine ⟨[], by simp, ?_⟩
  simp only [State.port, h, List.foldl_nil]

theorem Offers.refl {ks : List Nat} (s : State) : Offers ks s s := .of_ports rfl

/-- An operation outside whose reach the ports lie offers nothing. -/
theorem Agree.offers {ps : List Part} {ks : List Nat} {s t : State} (h : Agree ps s t) (hp : ps.contains .ports = false) :
    Offers ks s t := .of_ports (h .ports (by simpa using hp))

theorem Offers.mono {ks ls : List Nat} {s t : State} (h : Offers ks s t) (hk : ks.all ls.contains = true) :
    Offers ls s t := fun q =>
  let ⟨rs, hr, e⟩ := h q
  ⟨rs, fun r hm => List.contains_iff_mem.1 (List.all_eq_true.1 hk _ (hr r hm)), e⟩

theorem Offers.trans {ks : List Nat} {s t u : State} (h : Offers ks s t) (g : Offers ks t u) : Offers ks s u := by
  intro q
  obtain ⟨rs, hr, e⟩ := h q
  obtain ⟨xs, hx, e'⟩ := g q
  refine ⟨rs ++ xs, fun r hm => (List.mem_append.1 hm).elim (hr r) (hx r), ?_⟩
  rw [e', e, List.foldl_append]

/-- One more operation at the end of a chain. -/
theorem Offers.andThen {ks ls : List Nat} {s t u : State} (h : Offers ks s t) (g : Offers ls t u)
    (hk : ls.all ks.contains = true) : Offers ks s u := h.trans (g.mono hk)

theorem Offers.ite {ks : List Nat} {s t u : State} {c : Prop} [Decidable c] (h : Offers ks s t) (g : Offers ks s u) :
    Offers ks s (if c then t else u) := by split <;> assumption

/-- An operation that is left out or made. -/
theorem Offers.maybe {ks : List Nat} {s t u : State} {c : Prop} [Decidable c] (h : Offers ks s t) (g : Offers ks t u) :
    Offers ks s (if c then t else u) := Offers.ite h (h.trans g)

/-- An operation that is made or left out. -/
theorem Offers.also {ks : List Nat} {s t u : State} {c : Prop} [Decidable c] (h : Offers ks s t) (g : Offers ks t u) :
    Offers ks s (if c then u else t) := Offers.ite (h.trans g) h

theorem Offers.forEach {ks : List Nat} {α : Type} {f : α → State → State} (h : ∀ a s, Offers ks s (f a s)) (l : List α)
    (s : State) : Offers ks s (Machine.forEach f l s) :=
  forEach_keeps (P := Offers ks s) (fun a t ht => ht.trans (h a t)) l s (.refl s)

theorem offers_post {ks : List Nat} (r : Report) (s : State) (hr : ks.contains r.key.1 = true) :
    Offers ks s (post r s) := by
  intro q
  rw [post_port]
  split
  · exact ⟨[r], by simpa using hr, rfl⟩
  · exact ⟨[], by simp, rfl⟩

theorem offers_postTo {ks : List Nat} (p : Port) (r : Report) (s : State) (hr : ks.contains r.key.1 = true) :
    Offers ks s (postTo p r s) := by
  intro q
  rw [postTo_port]
  split
  · exact ⟨[r], by simpa using hr, rfl⟩
  · exact ⟨[], by simp, rfl⟩

section
variable {ks : List Nat} {s t : State} (h : Offers ks s t) (q : Port)
include h

theorem Offers.record : (t.port q).record = (s.port q).record := by obtain ⟨rs, -, e⟩ := h q; rw [e]
theorem Offers.lanes : (t.port q).lanes = (s.port q).lanes := by obtain ⟨rs, -, e⟩ := h q; rw [e]
theorem Offers.merge : (t.port q).merge = (s.port q).merge := by obtain ⟨rs, -, e⟩ := h q; rw [e]
theorem Offers.plan : (t.port q).plan = (s.port q).plan := by obtain ⟨rs, -, e⟩ := h q; rw [e]
theorem Offers.sent : (t.port q).sent = (s.port q).sent := by obtain ⟨rs, -, e⟩ := h q; rw [e]
theorem Offers.portState : t.portState q = s.portState q := congrArg PortRecord.state (h.record q)
theorem Offers.lane (n : LaneName) : t.lane q n = s.lane q n := congrArg (Lanes.get · n) (h.lanes q)
theorem Offers.assembly : (t.port q).control.assembly = (s.port q).control.assembly := by
  obtain ⟨rs, -, e⟩ := h q; rw [e]; exact Control.foldl_offer_assembly _ _

/-- A report that was heard is heard still after offers of other kinds. -/
theorem Offers.heard {r : Report} (hr : r.key.1 ∉ ks) (hh : Heard r q s) : Heard r q t := by
  obtain ⟨rs, hk, e⟩ := h q
  unfold Heard
  rw [e]
  exact Control.heard_foldl_offer (fun x hx hxr => hr (hxr ▸ hk x hx)) _ hh
end

/-! ### What stands heard -/

/-- From s to t no desk has come to be present, and a present one that had heard a report has heard it still. -/
def StillHeard (r : Report) (s t : State) : Prop :=
  ∀ q, (t.portState q).present = true → (s.portState q).present = true ∧ (Heard r q s → Heard r q t)

theorem StillHeard.trans {r : Report} {s t u : State} (h : StillHeard r s t) (g : StillHeard r t u) : StillHeard r s u :=
  fun q hq => ⟨(h q (g q hq).1).1, fun hh => (g q hq).2 ((h q (g q hq).1).2 hh)⟩

theorem StillHeard.refl {r : Report} (s : State) : StillHeard r s s := fun _ hq => ⟨hq, id⟩

theorem Offers.stillHeard {ks : List Nat} {r : Report} {s t : State} (h : Offers ks s t) (hr : r.key.1 ∉ ks) :
    StillHeard r s t := fun q hq => ⟨h.portState q ▸ hq, h.heard q hr⟩

theorem Posted.still {r : Report} {s t : State} (h : Posted r s) (g : StillHeard r s t) : Posted r t :=
  fun q hq => (g q hq).2 (h q (g q hq).1)

theorem Posted.offers {ks : List Nat} {r : Report} {s t : State} (h : Posted r s) (g : Offers ks s t)
    (hr : r.key.1 ∉ ks) : Posted r t := h.still (g.stillHeard hr)

/-- A change of a unit that leaves what is heard, and brings no desk to be present. -/
theorem stillHeard_modPort {r : Report} (p : Port) {f : PortUnit → PortUnit} {s : State}
    (hp : (f (s.port p)).record.state.present = true → (s.portState p).present = true)
    (hc : (f (s.port p)).control = (s.port p).control) : StillHeard r s (modPort p f s) := by
  intro q hq
  by_cases h : p = q
  · subst h
    simp only [State.portState, Heard, modPort_port_same, hc] at hq ⊢
    exact ⟨hp hq, id⟩
  · simp only [State.portState, Heard, modPort_port_ne h] at hq ⊢
    exact ⟨hq, id⟩

/-- A port that has not heard a report matters no more once its desk is absent. -/
theorem stillHeard_modPort_absent {r : Report} (p : Port) {f : PortUnit → PortUnit} {s : State}
    (hp : (f (s.port p)).record.state.present = false) : StillHeard r s (modPort p f s) := by
  intro q hq
  by_cases h : p = q
  · subst h
    simp only [State.portState, modPort_port_same, hp] at hq
    exact absurd hq (by decide)
  · simp only [State.portState, Heard, modPort_port_ne h] at hq ⊢
    exact ⟨hq, id⟩

/-- A state report that has just been posted has been heard by every desk that is present (R50). -/
theorem posted_post {r : Report} (hr : r.key.1 < 22) (s : State) : Posted r (post r s) := by
  intro q hq
  have hq : (s.portState q).present = true := by simpa using hq
  unfold Heard
  rw [post_port, if_pos hq]
  exact Control.mem_offer _ _ fun x _ => Report.replacing_eq hr x

/-- Another report of another kind or subject leaves what was heard. -/
theorem stillHeard_post {r x : Report} (h : r.key ≠ x.key) (s : State) : StillHeard r s (post x s) := by
  intro q hq
  have hq : (s.portState q).present = true := by simpa using hq
  refine ⟨hq, fun hh => ?_⟩
  unfold Heard
  rw [post_port, if_pos hq]
  exact Or.imp (fun hm => Control.mem_offer_of_mem _ r x hm h) (Control.lost_offer _ x) hh

end Sys2Proof.Machine
end

section
/-! PROOF. Which shared operations do nothing to the units of the ports but offer reports, and of which kinds, the kinds
numbered as in `Report.key`. -/

namespace Sys2Proof.Machine

/-! ### Reports of one state -/

theorem offers_postLane (p : Port) (n : LaneName) (why : LaneReason) (s : State) : Offers [0] s (postLane p n why s) :=
  offers_post _ _ rfl
theorem offers_postPort (p : Port) (why : PortReason) (s : State) : Offers [1] s (postPort p why s) := offers_post _ _ rfl
theorem offers_postClock (s : State) : Offers [2] s (postClock s) := offers_post _ _ rfl
theorem offers_postCard (k : Card) (why : CardReason) (s : State) : Offers [3] s (postCard k why s) := offers_post _ _ rfl
theorem offers_postSetting (c : Chan) (s : State) : Offers [4] s (postSetting c s) := offers_post _ _ rfl
theorem offers_postPhantom (c : Chan) (why : PhantomReason) (s : State) : Offers [6] s (postPhantom c why s) :=
  offers_post _ _ rfl
theorem offers_postOutput (n : OutNo) (why : OutputReason) (s : State) : Offers [11] s (postOutput n why s) :=
  offers_post _ _ rfl
theorem offers_postPatch (p : Port) (n : OutNo) (s : State) : Offers [12] s (postPatch p n s) := offers_post _ _ rfl
theorem offers_postTalk (why : TalkReason) (s : State) : Offers [13] s (postTalk why s) := offers_post _ _ rfl

/-! ### Channels and gain tracking -/

theorem offers_changeSetting (c : Chan) (f : Channel → Channel) (s : State) : Offers [4] s (changeSetting c f s) := by
  have h : Offers [4] s (modChannel c f s) := (agree_modChannel c f s).offers rfl
  have g (t : State) : Offers [4] t (restartQuiet t) := (agree_restartQuiet t).offers rfl
  unfold changeSetting
  exact Offers.ite (Offers.ite h (h.trans (g _))) ((Offers.ite h (h.trans (g _))).andThen (offers_postSetting _ _) rfl)

theorem offers_limitNotice (p : Port) (c : Chan) (s : State) : Offers [9] s (limitNotice p c s) :=
  Offers.ite ((offers_postTo _ _ _ rfl).trans ((agree_modDesk _ _ _ _).offers rfl)) (.refl s)

theorem offers_computeRecord (how : Nat → DeskRecord → DeskRecord) (p : Port) (c : Chan) (s : State) :
    Offers [9] s (computeRecord how p c s) :=
  ((agree_modDesk _ _ _ _).offers rfl).trans (offers_limitNotice _ _ _)

theorem offers_applyToRecords (c : Chan) (s : State) : Offers [9] s (applyToRecords c s) :=
  Offers.forEach (fun p => offers_computeRecord _ p c) _ _

theorem offers_firstNetGain (c : Chan) (s : State) : Offers [9] s (firstNetGain c s) :=
  Offers.forEach (fun _ _ => ((agree_modDesk _ _ _ _).offers rfl).trans (offers_computeRecord _ _ _ _)) _ _

theorem offers_trimRecord (p : Port) (x : Int) (c : Chan) (s : State) : Offers [9] s (trimRecord p x c s) :=
  Offers.ite (.refl s) (((agree_modDesk _ _ _ _).offers rfl).trans (offers_computeRecord _ _ _ _))

theorem offers_trackRecord (p : Port) (m : Mode) (c : Chan) (s : State) : Offers [9] s (trackRecord p m c s) := by
  unfold trackRecord
  split
  · exact ((agree_modDesk _ _ _ _).offers rfl).trans (offers_computeRecord _ _ _ _)
  · exact ((agree_modDesk _ _ _ _).offers rfl).trans (offers_computeRecord _ _ _ _)
  · exact .refl s

theorem offers_postApplied (c : Chan) (who : Option Port) (due : Nat) (s : State) :
    Offers [5] s (postApplied c who due s) := by
  unfold postApplied
  split
  · exact offers_post _ _ rfl
  · exact .refl s

theorem offers_applyEntry (c : Chan) (e : Application) (s : State) : Offers [5, 9] s (applyEntry c e s) := by
  have h : Offers [5, 9] s (modChannel c (fun h => { h with applied := some e.value }) s) := (agree_modChannel _ _ _).offers rfl
  unfold applyEntry
  split
  · exact ((h.trans ((agree_modDesk _ _ _ _).offers rfl)).andThen (offers_applyToRecords _ _) rfl).andThen (offers_postApplied _ _ _ _) rfl
  · exact (h.andThen (offers_applyToRecords _ _) rfl).andThen (offers_postApplied _ _ _ _) rfl

theorem offers_applicationDue (c : Chan) (s : State) : Offers [5, 9] s (applicationDue c s) := by
  unfold applicationDue
  split
  · exact .refl s
  · exact Offers.ite (((agree_modChannel _ _ _).offers rfl).trans (offers_applyEntry _ _ _)) (.refl s)

theorem offers_takeDesired (p : Port) (f : GainPad → GainPad) (c : Chan) (s : State) :
    Offers [4] s (takeDesired p f c s) :=
  Offers.ite (.refl s) ((offers_changeSetting _ _ _).trans ((agree_queueWrite _ _).offers rfl))

/-- Taking channels of a range offers what taking one offers. -/
theorem offers_takeChannels {ks : List Nat} {act : Chan → State → State} (h : ∀ c s, Offers ks s (act c s)) (p : Port)
    (sat : Chan → State → Bool) (cs : List Chan) (x : Taken) :
    Offers ks x.state (takeChannels p act sat cs x).state := by
  induction cs generalizing x with
  | nil => exact .refl _
  | cons c cs ih =>
    unfold takeChannels
    split
    · exact (h c x.state).trans (ih _)
    · exact .refl _

/-! ### Outputs -/

theorem offers_expireDelay (n : OutNo) (s : State) : Offers [11] s (expireDelay n s) :=
  Offers.ite (((agree_modOutput _ _ _).offers rfl).trans (offers_postOutput _ _ _)) (.refl s)

theorem offers_outputLeft (p : Port) (n : OutNo) (s : State) : Offers [11] s (outputLeft p n s) :=
  Offers.ite ((((agree_modOutput _ _ _).offers rfl).trans (offers_postOutput _ _ _)).trans (offers_expireDelay _ _)) (.refl s)

theorem offers_outputsLeft (p : Port) (s : State) : Offers [11] s (outputsLeft p s) :=
  Offers.forEach (offers_outputLeft p) _ _

theorem offers_outputReturned (p : Port) (n : OutNo) (s : State) : Offers [11] s (outputReturned p n s) :=
  Offers.ite (((agree_modOutput _ _ _).offers rfl).trans (offers_postOutput _ _ _)) (.refl s)

theorem offers_outputsReturned (p : Port) (s : State) : Offers [11] s (outputsReturned p s) :=
  Offers.forEach (offers_outputReturned p) _ _

theorem offers_patchOne (p : Port) (src : Option Source) (n : OutNo) (s : State) :
    Offers [11, 12] s (patchOne p src n s) := by
  unfold patchOne
  exact Offers.maybe (Offers.maybe (Offers.maybe ((agree_modOutput _ _ _).offers rfl) ((offers_postPatch _ _ _).mono rfl))
    ((offers_postOutput _ _ _).mono rfl)) ((offers_expireDelay _ _).mono rfl)

theorem offers_setOne (f : OutputFields) (n : OutNo) (s : State) : Offers [11] s (setOne f n s) := by
  unfold setOne
  exact Offers.maybe ((agree_modOutput _ _ _).offers rfl) (offers_expireDelay _ _)

theorem offers_reportChange (p : Port) (before : State) (n : OutNo) (s : State) :
    Offers [12] s (reportChange p before n s) := Offers.ite (.refl s) (offers_postPatch _ _ _)

theorem offers_setOutputs (p : Port) (f : OutputFields) (outs : List OutNo) (s : State) :
    Offers [11, 12] s (setOutputs p f outs s) :=
  ((Offers.forEach (offers_setOne f) _ _).mono rfl).trans ((Offers.forEach (offers_reportChange p s) _ _).mono rfl)

/-! ### Talk -/

theorem offers_expireHead (s : State) : Offers [13, 15] s (expireHead s) := by
  unfold expireHead
  split
  · exact (((agree_modTalk _ _).offers rfl).trans (offers_postTo _ _ _ rfl)).andThen (offers_postTalk _ _) rfl
  · exact .refl s

theorem offers_settleHead (n : Nat) (s : State) : Offers [13, 15] s (settleHead n s) := by
  induction n generalizing s with
  | zero => exact .refl s
  | succ n ih => unfold settleHead; exact Offers.ite ((offers_expireHead s).trans (ih _)) (.refl s)

theorem offers_testHead (s : State) : Offers [13, 15] s (testHead s) :=
  (offers_settleHead 3 s).trans ((agree_followTalker _ _).offers rfl)

theorem offers_headChanged (before : Option Port) (s : State) : Offers [13, 15] s (headChanged before s) :=
  Offers.maybe ((agree_followTalker before s).offers rfl) (offers_testHead _)

theorem offers_preempted (before : Option Port) (s : State) : Offers [14] s (preempted before s) := by
  unfold preempted
  split
  · exact .refl s
  · refine Offers.ite (.refl s) ?_
    split
    · exact offers_postTo _ _ _ rfl
    · exact .refl s

theorem offers_insertTalk (p : Port) (s : State) : Offers [13, 14, 15] s (insertTalk p s) :=
  ((((agree_modTalk _ _).offers rfl).andThen (offers_postTalk _ _) rfl).andThen (offers_preempted _ _) rfl).andThen
    (offers_headChanged _ _) rfl

theorem offers_removeClaim (p : Port) (why : TalkReason) (s : State) : Offers [13, 15] s (removeClaim p why s) :=
  Offers.ite ((((agree_modTalk _ _).offers rfl).andThen (offers_postTalk _ _) rfl).trans (offers_headChanged _ _)) (.refl s)

theorem offers_resortTalk (s : State) : Offers [13, 14, 15] s (resortTalk s) := by
  refine Offers.ite (.refl s) ?_
  exact ((((agree_modTalk _ _).offers rfl).andThen (offers_postTalk _ _) rfl).andThen (offers_preempted _ _) rfl).andThen
    (offers_headChanged _ _) rfl

theorem offers_recomputeStage (s : State) : Offers [16] s (recomputeStage s) :=
  Offers.ite (.refl s) (((agree_modTalk _ _).offers rfl).trans (offers_post _ _ rfl))

theorem offers_stageTaken (s : State) : Offers [16] s (stageTaken s) :=
  Offers.ite (((agree_modTalk _ _).offers rfl).trans (offers_recomputeStage _)) (.refl s)

/-! ### Consent, and what a departure reaches -/

theorem offers_withdrawProposal (pr : Proposal) (why : Cause) (s : State) : Offers [18] s (withdrawProposal pr why s) :=
  ((agree_endProposal _ _ _).offers rfl).trans (offers_post _ _ rfl)

theorem offers_departConsent (p : Port) (s : State) : Offers [18] s (departConsent p s) := by
  unfold departConsent
  split
  · exact .refl s
  · exact Offers.ite (offers_withdrawProposal _ _ _) ((agree_modConsent _ _).offers rfl)

theorem offers_leaveAttached (p : Port) (s : State) : Offers [11, 13, 15, 18] s (leaveAttached p s) :=
  (((offers_removeClaim _ _ _).mono rfl).andThen (offers_departConsent _ _) rfl).andThen (offers_outputsLeft _ _) rfl

theorem offers_carryGrant (first last : Chan) (pr : Proposal) (s : State) : Offers [4] s (carryGrant first last pr s) :=
  Offers.forEach (fun _ _ => offers_changeSetting _ _ _) _ _

theorem offers_askVoters (pr : Proposal) (s : State) : Offers [17] s (askVoters pr s) :=
  Offers.forEach (fun _ t => Offers.ite (offers_postTo _ _ _ rfl) (.refl t)) _ _

/-! ### Phantom -/

theorem offers_changePhantom (c : Chan) (st : PhantomState) (why : PhantomReason) (s : State) :
    Offers [6] s (changePhantom c st why s) :=
  ((agree_enterPhantom _ _ _).offers rfl).trans (offers_postPhantom _ _ _)

theorem offers_startPhantom (c : Chan) (s : State) : Offers [6] s (startPhantom c s) :=
  (((agree_enterPhantom _ _ _).offers rfl).trans ((agree_queueWrite _ _).offers rfl)).trans (offers_postPhantom _ _ _)

theorem offers_startUpTo (n : Nat) (s : State) : Offers [6] s (startUpTo n s) := by
  induction n generalizing s with
  | zero => exact .refl s
  | succ n ih =>
    unfold startUpTo
    split
    · exact .refl s
    · exact (offers_startPhantom _ _).trans (ih _)

theorem offers_startQueued (s : State) : Offers [6] s (startQueued s) := offers_startUpTo _ _

theorem offers_phantomOn (c : Chan) (s : State) : Offers [6] s (phantomOn c s) := by
  unfold phantomOn
  split
  · exact (offers_changePhantom _ _ _ _).trans (offers_startQueued _)
  all_goals exact .refl s

theorem offers_phantomOff (c : Chan) (s : State) : Offers [6] s (phantomOff c s) := by
  unfold phantomOff
  split
  · exact offers_changePhantom _ _ _ _
  · exact (offers_changePhantom _ _ _ _).trans (offers_startQueued _)
  · exact offers_changePhantom _ _ _ _
  · exact offers_changePhantom _ _ _ _
  all_goals exact .refl s

theorem offers_takePhantom (on : Bool) (c : Chan) (s : State) : Offers [4, 6] s (takePhantom on c s) := by
  have h : Offers [4, 6] s (changeSetting c (fun h => { h with phantom := on }) s) := (offers_changeSetting _ _ _).mono rfl
  unfold takePhantom
  cases on
  · exact h.andThen (offers_phantomOff _ _) rfl
  · exact h.andThen (offers_phantomOn _ _) rfl

theorem offers_endTransition (c : Chan) (s : State) : Offers [6] s (endTransition c s) := by
  unfold endTransition
  split
  · exact (offers_changePhantom _ _ _ _).trans (offers_startQueued _)
  · exact offers_changePhantom _ _ _ _
  · exact (offers_changePhantom _ _ _ _).trans (offers_startQueued _)
  all_goals exact .refl s

theorem offers_endIfDue (c : Chan) (s : State) : Offers [6] s (endIfDue c s) :=
  Offers.ite (offers_endTransition _ _) (.refl s)

theorem offers_endFrom (st : PhantomState) (c : Chan) (s : State) : Offers [6] s (endFrom st c s) :=
  Offers.ite (offers_endIfDue _ _) (.refl s)

theorem offers_endTransitions (s : State) : Offers [6] s (endTransitions s) := Offers.forEach offers_endIfDue _ _

theorem offers_phantomFaulted (k : Card) (status : Byte) (c : Chan) (s : State) :
    Offers [4, 6, 7] s (phantomFaulted k status c s) := by
  have enter : Offers [4, 6, 7] s (if (s.phantomOf c).state = .off then s else enterPhantom c .off s) :=
    Offers.ite (.refl s) ((agree_enterPhantom _ _ _).offers rfl)
  unfold phantomFaulted
  refine Offers.maybe ?_ ((offers_postPhantom _ _ _).mono rfl)
  refine Offers.maybe ?_ (((agree_modPhantom _ _ _).offers rfl).trans (offers_post _ _ rfl))
  exact (Offers.also enter ((agree_queueWrite _ _).offers rfl)).andThen (offers_changeSetting _ _ _) rfl

theorem offers_phantomReported (on : Bool) (c : Chan) (s : State) : Offers [6] s (phantomReported on c s) := by
  have h : Offers [6] s (modPhantom c (fun r => { r with fault := false }) s) := (agree_modPhantom _ _ _).offers rfl
  unfold phantomReported
  split
  all_goals first | exact h.trans (offers_changePhantom _ _ _ _) | exact h

theorem offers_phantomAbsent (c : Chan) (s : State) : Offers [6] s (phantomAbsent c s) := by
  unfold phantomAbsent
  split
  all_goals first | exact offers_changePhantom _ _ _ _ | exact .refl s

/-! ### The card bus -/

theorem offers_firstReply (c : Chan) (v : GainPad) (s : State) : Offers [5, 9] s (firstReply c v s) := by
  have h : Offers [5, 9] s { s with freeReads := s.freeReads + 1 } := .of_ports rfl
  exact ((h.trans ((agree_modChannel _ _ _).offers rfl)).andThen (offers_postApplied _ _ _ _) rfl).andThen (offers_firstNetGain _ _) rfl

theorem offers_channelReplied (k : Card) (known : Bool) (status : Byte) (c : Chan) (d : CardChannel) (s : State) :
    Offers [4, 5, 6, 7, 9] s (channelReplied k known status c d s) := by
  have values : Offers [4, 5, 6, 7, 9] s
      ((if known then laterReply c (reportedValue d) else firstReply c (reportedValue d)) s) := by
    cases known
    · exact (offers_firstReply _ _ _).mono rfl
    · exact (agree_laterReply _ _ _).offers rfl
  have timed := values.trans ((agree_setCardPhantom c d.phantomOn _).offers rfl)
  unfold channelReplied
  refine Offers.trans ?_ ((agree_writeTest _ _).offers rfl)
  by_cases h : d.phantomFault = true
  · simp only [h, if_true]; exact timed.andThen (offers_phantomFaulted _ _ _ _) rfl
  · simp only [h]; exact timed.andThen (offers_phantomReported _ _ _) rfl

theorem offers_takePollReply (k : Card) (d : PollData) (s : State) :
    Offers [3, 4, 5, 6, 7, 9] s (takePollReply k d s) := by
  have card : Offers [3, 4, 5, 6, 7, 9] s (modCard k (CardRecord.replied s.hubFrame d.status) (freeBus s)) :=
    ((agree_freeBus s).offers rfl).trans ((agree_modCard _ _ _).offers rfl)
  have told := Offers.ite (c := (s.card k).state = .absent ∨ ¬ (s.card k).known = true)
    (card.andThen (offers_postCard k .replied _) rfl) card
  unfold takePollReply
  exact ((told.andThen (Offers.forEach (fun c => offers_channelReplied _ _ _ c _) _ _) rfl).trans
    ((agree_modCard _ _ _).offers rfl)).andThen (offers_startQueued _) rfl

theorem offers_becomeAbsent (k : Card) (s : State) : Offers [3, 6] s (becomeAbsent k s) :=
  ((((agree_modCard _ _ _).offers rfl).andThen (offers_postCard _ _ _) rfl).andThen (Offers.forEach offers_phantomAbsent _ _) rfl).andThen
    (offers_startQueued _) rfl

theorem offers_timeOut (k : Card) (poll : Option Nat) (s : State) : Offers [3, 6] s (timeOut k poll s) := by
  have card : Offers [3, 6] s (modCard k (CardRecord.timedOut poll) (freeBus s)) :=
    ((agree_freeBus s).offers rfl).trans ((agree_modCard _ _ _).offers rfl)
  unfold timeOut
  exact Offers.also card (offers_becomeAbsent _ _)

/-! ### Delivery and the clock -/

theorem offers_clipNotice (p : Port) (c : Chan) (slots : List Slot) (s : State) :
    Offers [8] s (clipNotice p c slots s) := by
  unfold clipNotice
  split
  · exact .refl s
  · exact Offers.ite ((offers_postTo _ _ _ rfl).trans ((agree_modDesk _ _ _ _).offers rfl)) (.refl s)

theorem offers_judgeChannel (p : Port) (c : Chan) (s : State) : Offers [8] s (judgeChannel p c s) :=
  ((agree_modDesk _ _ _ _).offers rfl).trans (offers_clipNotice _ _ _ _)

theorem offers_judgeWindow (p : Port) (s : State) : Offers [8] s (judgeWindow p s) :=
  Offers.forEach (fun n => offers_judgeChannel p (chanNumbered n)) _ _

theorem offers_sourceChanged (s : State) : Offers [2] s (sourceChanged s) := by
  unfold sourceChanged
  split
  · exact (Offers.of_ports rfl).trans (offers_postClock _)
  · exact (Offers.of_ports rfl).trans (offers_postClock _)

theorem offers_lockClock (s : State) : Offers [2] s (lockClock s) :=
  Offers.ite ((Offers.of_ports rfl).trans (offers_postClock _)) (.refl s)

theorem offers_holdoverClock (s : State) : Offers [2] s (holdoverClock s) :=
  Offers.ite ((Offers.of_ports rfl).trans (offers_postClock _)) (.refl s)

end Sys2Proof.Machine
end

section
/-! PROOF. Port units: an event of a lane, a change of the playout offset and an entry to VACANT as functions of one port's
unit, each tied to the operation of the model by the reports that it offers besides. -/

namespace Sys2Proof.Machine

/-! ### Banks and updates -/

/-- Two banks are equal when they agree at every index. -/
theorem Bank.ext_get {α : Type} {n : Nat} {a b : Bank n α} (h : ∀ i, a.get i = b.get i) : a = b :=
  Vector.ext fun i hi => h ⟨i, hi⟩

theorem modPort_congr {p : Port} {f g : PortUnit → PortUnit} {s : State} (h : f (s.port p) = g (s.port p)) :
    modPort p f s = modPort p g s := by
  simp only [modPort, Bank.modify]
  rw [show f (s.ports.get p) = g (s.ports.get p) from h]

/-- A change that leaves a unit as it is leaves the state as it is. -/
theorem modPort_eq_self {p : Port} {f : PortUnit → PortUnit} {s : State} (h : f (s.port p) = s.port p) :
    modPort p f s = s := by
  have e : s.ports.modify p f = s.ports := Bank.ext_get fun i => by
    rw [Bank.get_modify]
    split
    · next hi => subst hi; exact h
    · rfl
  simp only [modPort, e]

theorem modPort_modPort (p : Port) (f g : PortUnit → PortUnit) (s : State) :
    modPort p g (modPort p f s) = modPort p (fun u => g (f u)) s := by
  simp only [modPort]
  congr 1
  refine Bank.ext_get fun i => ?_
  simp only [Bank.get_modify]
  split <;> simp

/-! ### What the units hold beside their control channels -/

/-- From s to t every port's record, lanes and merge buffer have stood as they were. -/
def UnitsStand (s t : State) : Prop :=
  ∀ q, (t.port q).record = (s.port q).record ∧ (t.port q).lanes = (s.port q).lanes ∧ (t.port q).merge = (s.port q).merge

theorem UnitsStand.refl (s : State) : UnitsStand s s := fun _ => ⟨rfl, rfl, rfl⟩

theorem UnitsStand.trans {s t u : State} (h : UnitsStand s t) (g : UnitsStand t u) : UnitsStand s u := fun q =>
  ⟨(g q).1.trans (h q).1, (g q).2.1.trans (h q).2.1, (g q).2.2.trans (h q).2.2⟩

theorem Offers.unitsStand {ks : List Nat} {s t : State} (h : Offers ks s t) : UnitsStand s t := fun q =>
  ⟨h.record q, h.lanes q, h.merge q⟩

theorem Agree.unitsStand {ps : List Part} {s t : State} (h : Agree ps s t) (hp : ps.contains .ports = false) :
    UnitsStand s t := (h.offers (ks := []) hp).unitsStand

theorem UnitsStand.ite {s t u : State} {c : Prop} [Decidable c] (h : UnitsStand s t) (g : UnitsStand s u) :
    UnitsStand s (if c then t else u) := by split <;> assumption

theorem UnitsStand.forEach {α : Type} {f : α → State → State} (h : ∀ a s, UnitsStand s (f a s)) (l : List α)
    (s : State) : UnitsStand s (Machine.forEach f l s) :=
  forEach_keeps (P := UnitsStand s) (fun a t ht => ht.trans (h a t)) l s (.refl s)

theorem unitsStand_modPort (p : Port) {f : PortUnit → PortUnit} (s : State)
    (hf : ∀ u, (f u).record = u.record ∧ (f u).lanes = u.lanes ∧ (f u).merge = u.merge) : UnitsStand s (modPort p f s) := by
  intro q
  rw [modPort_port]
  split
  · next h => subst h; exact hf _
  · exact ⟨rfl, rfl, rfl⟩

theorem unitsStand_modControl (p : Port) (f : Control → Control) (s : State) : UnitsStand s (modControl p f s) :=
  unitsStand_modPort p s fun _ => ⟨rfl, rfl, rfl⟩

/-! ### The port controller told of its lanes (R26 to R28) -/

/-- The record of a port that enters VACANT (R30). -/
def PortRecord.vacated (r : PortRecord) : PortRecord := { r with state := .vacant, serial := none, name := [], lossHold := none }

/-- The record of a port after its lanes went from `was` to `now`, each saying whether one of them is UP. -/
def PortRecord.follow (was now : Bool) (r : PortRecord) : PortRecord :=
  if was = now then r
  else
    match r.state, now with
    | .vacant, true => { r with state := .linked }
    | .isolated, true => { r with state := .attached, lossHold := none }
    | .linked, false => r.vacated
    | .attached, false => { r with state := .isolated, lossHold := some 0 }
    | _, _ => r

/-- The unit of a port that enters VACANT (R30). -/
def PortUnit.vacated (u : PortUnit) : PortUnit := { u with record := u.record.vacated, control := u.control.vacated }

/-- The unit of a port whose controller is told of its lanes, one of which was UP before or not. -/
def PortUnit.told (was : Bool) (u : PortUnit) : PortUnit :=
  { u with
    record := u.record.follow was u.lanes.anyUp,
    control := if was = true ∧ u.lanes.anyUp = false ∧ u.record.state = .linked then u.control.vacated else u.control }

theorem offers_enterVacant (p : Port) (why : PortReason) (s : State) :
    Offers [1] (modPort p PortUnit.vacated s) (enterVacant p why s) := by
  have e : vacate p s = modPort p PortUnit.vacated s := modPort_modPort _ _ _ _
  unfold enterVacant
  rw [e]
  exact offers_postPort _ _ _

theorem offers_lanesChanged (p : Port) (was : Bool) (s : State) :
    Offers [1, 11, 13, 15, 18] (modPort p (PortUnit.told was) s) (lanesChanged p was s) := by
  have record (f : PortRecord → PortRecord) (h : (s.port p).told was = { s.port p with record := f (s.port p).record }) :
      modPort p (PortUnit.told was) s = modRecord p f s := modPort_congr h
  unfold lanesChanged
  simp only
  by_cases hw : was = (s.port p).lanes.anyUp
  · rw [if_pos hw, modPort_eq_self]
    · exact .refl s
    · cases was <;> simp [PortUnit.told, PortRecord.follow, ← hw]
  · rw [if_neg hw]
    cases hp : s.portState p <;> cases hn : (s.port p).lanes.anyUp <;>
      obtain rfl : was = _ := Bool.eq_not_of_ne (hn ▸ hw) <;>
      have hs := (show (s.port p).record.state = s.portState p from rfl).trans hp
    case vacant.true =>
      rw [record (fun r => { r with state := .linked }) (by simp [PortUnit.told, PortRecord.follow, hs, hn])]
      exact (offers_postPort _ _ _).mono rfl
    case isolated.true =>
      rw [record (fun r => { r with state := .attached, lossHold := none })
        (by simp [PortUnit.told, PortRecord.follow, hs, hn])]
      exact ((offers_outputsReturned _ _).mono rfl).andThen (offers_postPort _ _ _) rfl
    case linked.false =>
      rw [modPort_congr (g := PortUnit.vacated)
        (by simp [PortUnit.told, PortRecord.follow, PortUnit.vacated, hs, hn])]
      exact (offers_enterVacant _ _ _).mono rfl
    case attached.false =>
      rw [record (fun r => { r with state := .isolated, lossHold := some 0 })
        (by simp [PortUnit.told, PortRecord.follow, hs, hn])]
      exact ((offers_leaveAttached _ _).mono rfl).andThen (offers_postPort _ _ _) rfl
    all_goals
      rw [modPort_eq_self (by simp [PortUnit.told, PortRecord.follow, hs, hn])]
      exact .refl s

/-- What has been offered to a port beforehand is offered still once its controller has been told, or is gone with the
queue of a port that is VACANT then (R30). -/
theorem Offers.told {ks : List Nat} {s t : State} (h : Offers ks s t) (p : Port) (was : Bool) :
    Offers ks (modPort p (PortUnit.told was) s) (modPort p (PortUnit.told was) t) := by
  intro q
  obtain ⟨rs, hr, e⟩ := h q
  by_cases hq : p = q
  · subst hq
    rw [modPort_port_same, modPort_port_same, e]
    by_cases hv : was = true ∧ (s.port p).lanes.anyUp = false ∧ (s.port p).record.state = .linked
    · refine ⟨[], by simp, ?_⟩
      simp [PortUnit.told, hv, Control.vacated]
    · exact ⟨rs, hr, by simp [PortUnit.told, hv]⟩
  · rw [modPort_port_ne hq, modPort_port_ne hq]
    exact ⟨rs, hr, e⟩

/-! ### Lane events (R13, R19) -/

/-- The unit of a port with one lane changed and the active lane following (R19). -/
def PortUnit.laneMoved (n : LaneName) (f : Lane → Lane) (u : PortUnit) : PortUnit :=
  { u with
    lanes := u.lanes.put n (f (u.lanes.get n)),
    merge := { u.merge with active := activeAfter u.lanes (u.lanes.put n (f (u.lanes.get n))) u.merge n } }

/-- The unit of a port after an event of one of its lanes, the port controller told. -/
def PortUnit.laneEvent (n : LaneName) (f : Lane → Lane) (u : PortUnit) : PortUnit :=
  (u.laneMoved n f).told u.lanes.anyUp

/-- An event of a lane: the lane and the active lane change, the reports are offered, the port controller is told. -/
theorem laneEvent_eq (p : Port) (n : LaneName) (why : LaneReason) (f : Lane → Lane) (s : State) :
    laneEvent p n why f s =
      lanesChanged p (s.port p).lanes.anyUp
        (if ((s.port p).laneMoved n f).merge.active ≠ (s.port p).merge.active ∧
            ((s.port p).laneMoved n f).merge.active ≠ n then
          postLane p ((s.port p).laneMoved n f).merge.active .active
            (postLane p n why (modPort p (PortUnit.laneMoved n f) s))
        else postLane p n why (modPort p (PortUnit.laneMoved n f) s)) := by
  have e : modMerge p
      (fun m => { m with
        active := (activeAfter (s.port p).lanes ((modLane p n f s).port p).lanes (s.port p).merge n) })
      (modLane p n f s) = modPort p (PortUnit.laneMoved n f) s := by
    rw [modLane_port, if_pos rfl]
    exact (modPort_modPort _ _ _ _).trans (modPort_congr rfl)
  unfold laneEvent
  simp only
  rw [e, modLane_port, if_pos rfl]
  rfl

theorem offers_laneEvent (p : Port) (n : LaneName) (why : LaneReason) (f : Lane → Lane) (s : State) :
    Offers [0, 1, 11, 13, 15, 18] (modPort p (PortUnit.laneEvent n f) s) (laneEvent p n why f s) := by
  have e : modPort p (PortUnit.laneEvent n f) s =
      modPort p (PortUnit.told (s.port p).lanes.anyUp) (modPort p (PortUnit.laneMoved n f) s) :=
    (modPort_congr rfl).trans
      (modPort_modPort p (PortUnit.laneMoved n f) (PortUnit.told (s.port p).lanes.anyUp) s).symm
  rw [e, laneEvent_eq]
  refine Offers.trans ?_ ((offers_lanesChanged _ _ _).mono rfl)
  refine Offers.told (Offers.mono (ks := [0]) ?_ rfl) _ _
  exact Offers.also (offers_postLane _ _ _ _) (offers_postLane _ _ _ _)

@[simp] theorem PortUnit.told_lanes (was : Bool) (u : PortUnit) : (u.told was).lanes = u.lanes := rfl
@[simp] theorem PortUnit.told_merge (was : Bool) (u : PortUnit) : (u.told was).merge = u.merge := rfl
@[simp] theorem PortUnit.told_record (was : Bool) (u : PortUnit) :
    (u.told was).record = u.record.follow was u.lanes.anyUp := rfl

theorem laneEvent_lanes (p : Port) (n : LaneName) (why : LaneReason) (f : Lane → Lane) (s : State) :
    ((laneEvent p n why f s).port p).lanes = (s.port p).lanes.put n (f (s.lane p n)) := by
  rw [(offers_laneEvent p n why f s).lanes, modPort_port_same]; rfl

@[simp] theorem laneEvent_lane (p : Port) (n : LaneName) (why : LaneReason) (f : Lane → Lane) (s : State) :
    (laneEvent p n why f s).lane p n = f (s.lane p n) := by
  rw [State.lane, laneEvent_lanes, lanes_get_put_same]

theorem laneEvent_merge (p : Port) (n : LaneName) (why : LaneReason) (f : Lane → Lane) (s : State) :
    ((laneEvent p n why f s).port p).merge =
      { (s.port p).merge with
        active := activeAfter (s.port p).lanes ((laneEvent p n why f s).port p).lanes (s.port p).merge n } := by
  rw [(offers_laneEvent p n why f s).merge, laneEvent_lanes, modPort_port_same]; rfl

/-! ### What a lane event makes heard -/

/-- The record of a port that is told of its lanes stands for a present desk only where it did before. -/
theorem PortRecord.follow_present {was now : Bool} {r : PortRecord} (h : (r.follow was now).state.present = true) :
    r.state.present = true := by
  unfold PortRecord.follow at h
  split at h
  · exact h
  · split at h
    · cases h
    · next isolated _ => rw [isolated]; rfl
    · cases h
    · next attached _ => rw [attached]; rfl
    · exact h

theorem stillHeard_lanesChanged {r : Report} (hr : r.key.1 ∉ [1, 11, 13, 15, 18]) (p : Port) (was : Bool) (s : State) :
    StillHeard r s (lanesChanged p was s) := by
  refine StillHeard.trans ?_ ((offers_lanesChanged p was s).stillHeard hr)
  by_cases hv : was = true ∧ (s.port p).lanes.anyUp = false ∧ (s.port p).record.state = .linked
  · refine stillHeard_modPort_absent p ?_
    simp [hv, PortRecord.follow, PortRecord.vacated, PortState.present]
  · exact stillHeard_modPort p PortRecord.follow_present (by simp [PortUnit.told, hv])

/-- LANE STATE of the lane of an event has been heard (R13). -/
theorem posted_laneEvent (p : Port) (n : LaneName) (why : LaneReason) (f : Lane → Lane) (s : State) :
    Posted (.laneState p n (f (s.lane p n)).state why (f (s.lane p n)).lastLag
      ((laneEvent p n why f s).port p).merge.active) (laneEvent p n why f s) := by
  have lane : (modPort p (PortUnit.laneMoved n f) s).lane p n = f (s.lane p n) := by
    simp [State.lane, PortUnit.laneMoved]
  have first : Posted (.laneState p n (f (s.lane p n)).state why (f (s.lane p n)).lastLag
      ((s.port p).laneMoved n f).merge.active) (postLane p n why (modPort p (PortUnit.laneMoved n f) s)) := by
    simp only [postLane, lane, modPort_port_same]
    exact posted_post (by simp [Report.key]) _
  rw [(offers_laneEvent p n why f s).merge, modPort_port_same, laneEvent_eq]
  refine Posted.still ?_ (stillHeard_lanesChanged (by simp [Report.key]) _ _ _)
  split
  · next h =>
    refine first.still (stillHeard_post ?_ _)
    have hn : n ≠ ((s.port p).laneMoved n f).merge.active := fun e => h.2 e.symm
    revert hn
    generalize ((s.port p).laneMoved n f).merge.active = m
    cases n <;> cases m <;> simp [Report.key]
  · exact first

/-- A lane that becomes active as the result of the other lane's event has been reported too (R13). -/
theorem posted_laneEvent_active {p : Port} {n : LaneName} {why : LaneReason} {f : Lane → Lane} {s : State}
    (h : ((laneEvent p n why f s).port p).merge.active ≠ (s.port p).merge.active)
    (hn : ((laneEvent p n why f s).port p).merge.active = n.other) :
    Posted (.laneState p n.other (s.lane p n.other).state .active (s.lane p n.other).lastLag n.other)
      (laneEvent p n why f s) := by
  rw [(offers_laneEvent p n why f s).merge, modPort_port_same] at h hn
  have hm : ((s.port p).laneMoved n f).merge.active = n.other := hn
  rw [laneEvent_eq]
  refine Posted.still ?_ (stillHeard_lanesChanged (by simp [Report.key]) _ _ _)
  rw [if_pos ⟨h, by rw [hm]; cases n <;> simp [LaneName.other]⟩, hm]
  have lane : (postLane p n why (modPort p (PortUnit.laneMoved n f) s)).lane p n.other = s.lane p n.other := by
    rw [(offers_postLane p n why _).lane]
    simp [State.lane, PortUnit.laneMoved]
  have active : ((postLane p n why (modPort p (PortUnit.laneMoved n f) s)).port p).merge.active = n.other := by
    rw [(offers_postLane p n why _).merge, modPort_port_same, hm]
  simp only [postLane] at lane active ⊢
  rw [lane, active]
  exact posted_post (by simp [Report.key]) _

end Sys2Proof.Machine
end

section
/-! PROOF. The laws of one port's unit, and the changes of a lane, a port record and a merge buffer that keep them. -/

namespace Sys2Proof.Machine

/-! ### Lanes (R4 to R12) -/

/-- The frame that waits to be stored has a sequence number below 65,536 (R6). -/
def Lane.waitsInRange (l : Lane) : Prop := ∀ c, l.fourth = some c → c.echo < 65536

/-- A change of a lane that keeps its laws. -/
structure Lane.Keeps (l l' : Lane) : Prop where
  lawful : l.lawful → l'.lawful
  waits : l.waitsInRange → l'.waitsInRange

theorem Lane.Keeps.refl (l : Lane) : l.Keeps l := ⟨id, id⟩

theorem Lane.Keeps.trans {a b c : Lane} (h : a.Keeps b) (g : b.Keeps c) : a.Keeps c :=
  ⟨g.lawful ∘ h.lawful, g.waits ∘ h.waits⟩

theorem satSucc_le (limit n : Nat) : satSucc limit n ≤ limit := Nat.min_le_left _ _

/-- A lane enters DARK as its input reads loss (R5). -/
theorem Lane.keeps_darken (l : Lane) : l.Keeps { l.darken with lossOfLight := true } := by
  refine ⟨fun ⟨_, _, he, hd, _⟩ => ?_, fun _ c hc => by simp [Lane.darken] at hc⟩
  have hd : (if l.state = .up then satSucc 255 l.drops else l.drops) ≤ 255 := by
    split
    · exact satSucc_le _ _
    · exact hd
  simp [Lane.lawful, Lane.darken, he, hd]

/-- A lane enters SEEKING as its input no longer reads loss (R5). -/
theorem Lane.keeps_light (l : Lane) : l.Keeps { l.seek with lossOfLight := false } := by
  refine ⟨fun ⟨_, _, he, hd, hm, _, hb, _⟩ => ?_, fun _ c hc => by simp [Lane.seek] at hc⟩
  simp [Lane.lawful, Lane.seek, he, hd, hm, hb]

/-- A lane that is not DARK enters SEEKING (R9, R11). -/
theorem Lane.keeps_seek {l : Lane} (hs : l.state ≠ .dark) : l.Keeps l.seek := by
  refine ⟨fun ⟨hd, _, he, hr, hm, _, hb, _⟩ => ?_, fun _ c hc => by simp [Lane.seek] at hc⟩
  have hl : l.lossOfLight = false := by simpa [hs] using hd
  simp [Lane.lawful, Lane.seek, hl, he, hr, hm, hb]

/-- The drop count of a lane rises (R11, R12). -/
theorem Lane.keeps_drop (l : Lane) (n : Nat) : l.Keeps { l with drops := satSucc 255 n } :=
  ⟨fun ⟨h1, h2, h3, _, h5⟩ => ⟨h1, h2, h3, satSucc_le _ _, h5⟩, id⟩

/-- The counters of a lane are cleared (R12). -/
theorem Lane.keeps_clear (l : Lane) : l.Keeps { l with errors := 0, drops := 0 } :=
  ⟨fun ⟨h1, h2, _, _, h5⟩ => ⟨h1, h2, Nat.zero_le _, Nat.zero_le _, h5⟩, id⟩

/-- A lane is judged at a playout (R11). -/
theorem Lane.keeps_judge (present : Bool) (l : Lane) : l.Keeps (l.judge present) := by
  unfold Lane.judge
  split
  · refine ⟨fun ⟨h1, h2, h3, h4, _, h6⟩ => ⟨h1, h2, h3, h4, ?_, h6⟩, id⟩
    dsimp only
    split
    · exact Nat.zero_le _
    · exact satSucc_le _ _
  · exact .refl l

/-- A bad check on a lane (R3). -/
theorem Lane.keeps_badCheck (l : Lane) : l.Keeps l.badCheck := by
  have he := satSucc_le 65535 l.errors
  constructor
  · rintro ⟨hd, hn, -, hr, hm, ha, hb, ho⟩
    unfold Lane.badCheck
    cases hs : l.state <;> simp_all [Lane.lawful]
  · intro hw c hc
    unfold Lane.badCheck at hc
    cases hs : l.state <;> simp [hs] at hc <;> exact hw c hc

/-- A bad-sync result on a lane (R3, R9). -/
theorem Lane.keeps_badSync (l : Lane) : l.Keeps l.badSync := by
  have hc := satSucc_le Config.badSyncTarget l.badSyncs
  constructor
  · rintro ⟨hd, hn, he, hr, hm, ha, hb, ho⟩
    unfold Lane.badSync
    cases hs : l.state <;> simp_all [Lane.lawful, Config.badSyncTarget]
  · intro hw c hf
    unfold Lane.badSync at hf
    cases hs : l.state <;> simp [hs] at hf <;> exact hw c hf

/-- A good frame on a SEEKING lane (R6). -/
theorem Lane.keeps_seekGood {l : Lane} {lag : Nat} {c : Copy} (hs : l.state = .seeking) (hc : c.echo < 65536) :
    l.Keeps (l.seekGood lag c) := by
  constructor
  · rintro ⟨hd, -, he, hr, hm, -, hb, ho⟩
    have ha : satSucc Config.acquireTarget l.acquisition ≤ 4 := satSucc_le _ _
    simp_all [Lane.lawful, Lane.seekGood]
  · intro _ d hf
    have hf : c = d := by simpa [Lane.seekGood] using (Option.ite_none_right_eq_some.1 hf).2
    exact hf ▸ hc

/-- A good frame on a QUALIFYING lane, its lag within P or not (R7, R8). -/
theorem Lane.keeps_qualifyGood {l : Lane} {lag echo : Nat} (hs : l.state = .qualifying) :
    l.Keeps (l.qualifyGood lag echo) ∧ l.Keeps (l.qualifyLate lag echo) := by
  refine ⟨⟨?_, id⟩, ⟨?_, id⟩⟩ <;>
  · rintro ⟨hd, -, he, hr, hm, ha, -, -⟩
    simp_all [Lane.lawful, Lane.qualifyGood, Lane.qualifyLate]

/-- A good frame on an UP lane (R4). -/
theorem Lane.keeps_upGood {l : Lane} {lag : Nat} (hs : l.state = .up) : l.Keeps (l.upGood lag) := by
  refine ⟨?_, id⟩
  rintro ⟨hd, -, he, hr, hm, ha, -, ho⟩
  simp_all [Lane.lawful, Lane.upGood]

/-- A lane enters QUALIFYING (R6). -/
theorem Lane.keeps_acquire {l : Lane} {echo : Nat} {late : Bool} (hs : l.state = .seeking) :
    l.Keeps (l.acquire echo late) := by
  refine ⟨?_, fun _ c hc => by simp [Lane.acquire] at hc⟩
  rintro ⟨hd, -, he, hr, hm, ha, -, -⟩
  simp_all [Lane.lawful, Lane.acquire]

/-- A lane enters UP (R10). -/
theorem Lane.keeps_raise {l : Lane} (hs : l.state = .qualifying) : l.Keeps l.raise := by
  refine ⟨?_, id⟩
  rintro ⟨hd, -, he, hr, -, ha, hb, -⟩
  simp_all [Lane.lawful, Lane.raise]

/-- A late lane returns to QUALIFYING (R21, step 3). -/
theorem Lane.keeps_requalify (offset : Nat) (l : Lane) : l.Keeps (l.requalify offset) := by
  unfold Lane.requalify
  split
  · next h =>
    refine ⟨?_, id⟩
    have hs : l.state = .up ∨ l.state = .qualifying := by
      simp only [Lane.lateUnder, Bool.and_eq_true, Bool.or_eq_true, decide_eq_true_eq] at h
      exact h.1
    rintro ⟨hd, -, he, hr, hm, ha, hb, -⟩
    rcases hs with hs | hs <;> simp_all [Lane.lawful]
  · exact .refl l

/-! ### Port records (R25, R26) -/

/-- A record that obeys the law of the ports where a lane of its port is UP, or none is (R25, R26, R29 to R33). -/
def PortRecord.lawfulFor (up : Bool) (r : PortRecord) : Prop :=
  (up = true ↔ r.state = .linked ∨ r.state = .attached) ∧
    (r.serial.isSome = true ↔ r.state = .attached ∨ r.state = .isolated) ∧ (r.lossHold.isSome = true ↔ r.state = .isolated)

/-- A record that is told of its lanes obeys the law for them as they are now. -/
theorem PortRecord.lawfulFor_follow {was : Bool} {r : PortRecord} (h : r.lawfulFor was) (now : Bool) :
    (r.follow was now).lawfulFor now := by
  by_cases e : was = now
  · simpa [PortRecord.follow, ← e] using h
  · obtain rfl : was = !now := Bool.eq_not_of_ne e
    obtain ⟨st, serial, name, last, hold⟩ := r
    cases st <;> cases now <;> simp_all [PortRecord.lawfulFor, PortRecord.follow, PortRecord.vacated]

/-- A record without a lane UP that enters VACANT (R30). -/
theorem PortRecord.lawfulFor_vacated (r : PortRecord) : r.vacated.lawfulFor false := by
  simp [PortRecord.lawfulFor, PortRecord.vacated]

/-! ### Merge buffers (R15, R20, R22) -/

/-- A merge buffer that obeys its law. -/
def Merge.lawful (m : Merge) : Prop :=
  1 ≤ m.offset ∧ m.offset ≤ 7 ∧ m.next < 65536 ∧ ∀ i, (m.entries.get i).lawful i

theorem Entry.lawful_empty (i : Fin 8) : Entry.empty.lawful i := ⟨rfl, rfl⟩

/-- A copy stored in the entry of its sequence number keeps the law of that entry (R15). -/
theorem Entry.lawful_store {e : Entry} {n : LaneName} {c : Copy} (hc : c.echo < 65536) (h : e.lawful (Fin.ofNat 8 c.echo)) :
    (e.store n c).lawful (Fin.ofNat 8 c.echo) := by
  by_cases hs : e.seq = some c.echo
  · obtain ⟨-, -, ha, hb⟩ : c.echo < 65536 ∧ c.echo % 8 = (Fin.ofNat 8 c.echo).val ∧
        (∀ d, e.a = some d → d.echo = c.echo) ∧ (∀ d, e.b = some d → d.echo = c.echo) := by
      simpa only [Entry.lawful, hs] using h
    cases n <;> simp only [Entry.store, hs, if_true, Entry.lawful]
    · exact ⟨hc, rfl, fun d hd => by cases hd; rfl, hb⟩
    · exact ⟨hc, rfl, ha, fun d hd => by cases hd; rfl⟩
  · cases n <;> simp only [Entry.store, hs, if_false, Entry.lawful]
    · exact ⟨hc, rfl, fun d hd => by cases hd; rfl, by simp⟩
    · exact ⟨hc, rfl, by simp, fun d hd => by cases hd; rfl⟩

theorem Merge.lawful_store {m : Merge} (n : LaneName) {c : Copy} (hc : c.echo < 65536) (h : m.lawful) :
    Merge.lawful { m with entries := m.entries.modify (Fin.ofNat 8 c.echo) (Entry.store n c) } := by
  obtain ⟨h1, h7, hn, he⟩ := h
  refine ⟨h1, h7, hn, fun i => ?_⟩
  simp only [Bank.get_modify]
  split
  · next hi => subst hi; exact Entry.lawful_store hc (he _)
  · exact he i

theorem Merge.lawful_play {m : Merge} (c : Option Copy) (h : m.lawful) : (m.play c).lawful := by
  obtain ⟨h1, h7, hn, he⟩ := h
  have hs : m.startMute.offset = m.offset ∧ m.startMute.entries = m.entries := by
    unfold Merge.startMute
    split <;> exact ⟨rfl, rfl⟩
  refine ⟨hs.1 ▸ h1, hs.1 ▸ h7, Nat.mod_lt _ (by decide), fun i => ?_⟩
  simp only [Merge.play, hs.2, Bank.get_put]
  split
  · exact Entry.lawful_empty i
  · exact he i

theorem Merge.lawful_skip {m : Merge} (k : Nat) (h : m.lawful) : (m.skip k).lawful := by
  obtain ⟨h1, h7, hn, he⟩ := h
  refine ⟨h1, h7, Nat.mod_lt _ (by decide), fun i => ?_⟩
  simp only [Merge.skip, Bank.get_each, Entry.skip]
  split
  · split
    · exact Entry.lawful_empty i
    · exact he i
  · exact he i

theorem Merge.lawful_reset : Merge.reset.lawful := by
  refine ⟨by decide, by decide, by decide, fun i => ?_⟩
  simp only [Merge.reset, Bank.get_const]
  exact Entry.lawful_empty i

/-! ### Units -/

/-- A change of a port's unit that keeps the laws of its lanes, of its record and of its merge buffer. -/
structure PortUnit.Keeps (u v : PortUnit) : Prop where
  lanes : u.lanes.a.lawful ∧ u.lanes.b.lawful → v.lanes.a.lawful ∧ v.lanes.b.lawful
  record : u.record.lawfulFor u.lanes.anyUp → v.record.lawfulFor v.lanes.anyUp
  merge : (u.merge.lawful ∧ ∀ n, (u.lanes.get n).waitsInRange) → v.merge.lawful ∧ ∀ n, (v.lanes.get n).waitsInRange

theorem PortUnit.Keeps.trans {u v w : PortUnit} (h : u.Keeps v) (g : v.Keeps w) : u.Keeps w :=
  ⟨g.lanes ∘ h.lanes, g.record ∘ h.record, g.merge ∘ h.merge⟩

/-- A change whose parts keep their laws. -/
theorem PortUnit.Keeps.of_parts {u v : PortUnit} (hl : ∀ n, (u.lanes.get n).Keeps (v.lanes.get n))
    (hr : u.record.lawfulFor u.lanes.anyUp → v.record.lawfulFor v.lanes.anyUp)
    (hm : u.merge.lawful → v.merge.lawful) : u.Keeps v :=
  ⟨fun h => ⟨(hl .A).lawful h.1, (hl .B).lawful h.2⟩, hr, fun h => ⟨hm h.1, fun n => (hl n).waits (h.2 n)⟩⟩

/-- A unit whose record, lanes and merge buffer stand. -/
theorem PortUnit.Keeps.of_stand {u v : PortUnit} (h : v.record = u.record ∧ v.lanes = u.lanes ∧ v.merge = u.merge) :
    u.Keeps v := by
  obtain ⟨hr, hl, hm⟩ := h
  exact .of_parts (fun n => hl ▸ .refl _) (fun h => hr ▸ hl ▸ h) (fun h => hm ▸ h)

/-- A change of the merge buffer alone. -/
theorem PortUnit.Keeps.of_merge {u : PortUnit} {m : Merge} (hm : u.merge.lawful → m.lawful) :
    u.Keeps { u with merge := m } := .of_parts (fun _ => .refl _) id hm

/-- A change of the record alone. -/
theorem PortUnit.Keeps.of_record {u : PortUnit} {r : PortRecord}
    (hr : u.record.lawfulFor u.lanes.anyUp → r.lawfulFor u.lanes.anyUp) : u.Keeps { u with record := r } :=
  .of_parts (fun _ => .refl _) hr id

theorem Lanes.keeps_put {ls : Lanes} {n : LaneName} {l : Lane} (h : (ls.get n).Keeps l) (m : LaneName) :
    (ls.get m).Keeps ((ls.put n l).get m) := by
  rw [lanes_get_put]
  split
  · next e => exact e ▸ h
  · exact .refl _

@[simp] theorem Lanes.isUp_iff (ls : Lanes) (n : LaneName) : ls.isUp n = true ↔ (ls.get n).state = .up :=
  decide_eq_true_iff

theorem Lanes.isUp_congr {ls ms : Lanes} {n m : LaneName} (h : (ls.get n).state = (ms.get m).state) :
    ls.isUp n = ms.isUp m := by
  rw [Bool.eq_iff_iff, Lanes.isUp_iff, Lanes.isUp_iff, h]

theorem Lanes.anyUp_put {ls : Lanes} {n : LaneName} {l : Lane} (h : l.state = (ls.get n).state) :
    (ls.put n l).anyUp = ls.anyUp := by
  rw [anyUp_eq _ n, anyUp_eq _ n, Lanes.isUp_congr (lanes_get_put_same ls n l ▸ h),
    Lanes.isUp_congr (congrArg Lane.state (lanes_get_put_other ls n l))]

/-- A change of one lane that leaves its state. -/
theorem PortUnit.Keeps.of_lane {u : PortUnit} {n : LaneName} {l : Lane} (hs : l.state = (u.lanes.get n).state)
    (h : (u.lanes.get n).Keeps l) : u.Keeps { u with lanes := u.lanes.put n l } :=
  .of_parts (Lanes.keeps_put h) (fun hr => (Lanes.anyUp_put hs).symm ▸ hr) id

/-- A unit whose controller is told of its lanes, after a change of lanes and merge buffer that keeps their laws. -/
theorem PortUnit.Keeps.of_told {u v : PortUnit} (hr : v.record = u.record) (hl : ∀ n, (u.lanes.get n).Keeps (v.lanes.get n))
    (hm : u.merge.lawful → v.merge.lawful) : u.Keeps (v.told u.lanes.anyUp) :=
  .of_parts hl (fun h => by
    rw [PortUnit.told_record, PortUnit.told_lanes, hr]
    exact PortRecord.lawfulFor_follow h _) hm

/-- A lane event whose lane keeps its laws. -/
theorem PortUnit.keeps_laneEvent {u : PortUnit} {n : LaneName} {f : Lane → Lane}
    (h : (u.lanes.get n).Keeps (f (u.lanes.get n))) : u.Keeps (u.laneEvent n f) :=
  PortUnit.Keeps.of_told (v := u.laneMoved n f) rfl (Lanes.keeps_put h) id

/-! ### States -/

/-- From s to t the unit of every port has kept its laws. -/
def KeepsUnits (s t : State) : Prop := ∀ q, (s.port q).Keeps (t.port q)

theorem UnitsStand.keeps {s t : State} (h : UnitsStand s t) : KeepsUnits s t := fun q => .of_stand (h q)

theorem Offers.keeps {ks : List Nat} {s t : State} (h : Offers ks s t) : KeepsUnits s t := h.unitsStand.keeps

theorem Agree.keeps {ps : List Part} {s t : State} (h : Agree ps s t) (hp : ps.contains .ports = false) :
    KeepsUnits s t := (h.unitsStand hp).keeps

theorem KeepsUnits.refl (s : State) : KeepsUnits s s := (UnitsStand.refl s).keeps

theorem KeepsUnits.trans {s t u : State} (h : KeepsUnits s t) (g : KeepsUnits t u) : KeepsUnits s u :=
  fun q => (h q).trans (g q)

theorem KeepsUnits.ite {s t u : State} {c : Prop} [Decidable c] (h : c → KeepsUnits s t) (g : ¬ c → KeepsUnits s u) :
    KeepsUnits s (if c then t else u) := by
  split
  · exact h ‹_›
  · exact g ‹_›

theorem KeepsUnits.forEach {α : Type} {f : α → State → State} (h : ∀ a s, KeepsUnits s (f a s)) (l : List α)
    (s : State) : KeepsUnits s (Machine.forEach f l s) :=
  forEach_keeps (P := KeepsUnits s) (fun a t ht => ht.trans (h a t)) l s (.refl s)

theorem KeepsUnits.modPort {p : Port} {f : PortUnit → PortUnit} {s : State} (h : (s.port p).Keeps (f (s.port p))) :
    KeepsUnits s (modPort p f s) := by
  intro q
  rw [modPort_port]
  split
  · next e => exact e ▸ h
  · exact .of_stand ⟨rfl, rfl, rfl⟩

end Sys2Proof.Machine
end

section
/-! PROOF. Every command runs to a next state and changes nothing outside its footprint. -/

namespace Sys2Proof.Machine

/-! ### What the owners of requests may touch -/

theorem agree_serveAttach (p : Port) (m : Message) (s : State) :
    Agree (.desks :: touchedByLanes) s (serveAttach p m s).state := by
  have reset (u : State) (f : PortRecord → PortRecord) (c : Prop) [Decidable c] : Agree (.desks :: touchedByLanes) u
      (if c then resetRecords p (modRecord p f u) else modRecord p f u) :=
    have h := (agree_modRecord p f u).mono rfl
    Agree.ite (h.andThen (agree_resetRecords _ _) rfl) h
  unfold serveAttach
  dsimp only
  split
  · exact .refl s
  · split
    · exact ((reset s _ _).andThen (agree_outputsReturned _ _) rfl).andThen (agree_postPort _ _ _) rfl
    · split
      · exact Agree.ite (.refl s) (((agree_modRecord _ _ _).mono rfl).andThen (agree_postPort _ _ _) rfl)
      · exact (((((agree_removeClaim _ _ _).mono rfl).andThen (agree_departConsent _ _) rfl).andThen (agree_resetRecords _ _) rfl).andThen
          (agree_modRecord _ _ _) rfl).andThen (agree_postPort _ _ _) rfl

theorem agree_serveDetach (p : Port) (m : Message) (s : State) : Agree touchedByLanes s (serveDetach p m s).state :=
  Agree.ite ((agree_enterVacant _ _ _).mono rfl)
    ((((agree_modRecord _ _ _).mono rfl).trans (agree_leaveAttached _ _)).andThen (agree_postPort _ _ _) rfl)

theorem agree_serveClearCounters (m : Message) (s : State) : Agree [.ports] s (serveClearCounters m s).state := by
  unfold serveClearCounters
  split
  · exact Agree.forEach (fun n t => agree_modLane _ n _ t) _ _
  · exact .refl s

theorem agree_serveSetPort (m : Message) (s : State) : Agree touchedByLanes s (serveSetPort m s).state := by
  unfold serveSetPort
  dsimp only
  split
  · exact Agree.maybe (Agree.ite (c := _ ∧ _) (Agree.trans (Agree.ite ((agree_setPreferred _ _ _).mono rfl) (.refl s))
      (agree_setOffset _ _ _)) (Agree.ite ((agree_setPreferred _ _ _).mono rfl) (.refl s))) ((agree_postPort _ _ _).mono rfl)
  · exact .refl s

/-- A request that changes nothing, whatever it is answered. -/
theorem agree_of_state_eq {ps : List Part} {s t : State} (h : t = s) : Agree ps s t := h ▸ Agree.refl t

theorem serveReadPort_state (m : Message) (s : State) : (serveReadPort m s).state = s := by
  unfold serveReadPort; split <;> rfl

theorem serveReadLanes_state (m : Message) (s : State) : (serveReadLanes m s).state = s := by
  unfold serveReadLanes; split <;> rfl

theorem serveReadChannels_state (m : Message) (s : State) : (serveReadChannels m s).state = s := by
  unfold serveReadChannels
  split
  · rfl
  · split <;> rfl

theorem serveReadOutputs_state (m : Message) (s : State) : (serveReadOutputs m s).state = s := by
  unfold serveReadOutputs
  split
  · rfl
  · split <;> rfl

theorem serveReadPlan_state (m : Message) (s : State) : (serveReadPlan m s).state = s := by
  unfold serveReadPlan; split <;> rfl

/-- A request on a range of channels that is taken under the authority check. -/
theorem agree_takeRange {ps : List Part} {act : Chan → State → State} (h : ∀ c s, Agree ps s (act c s)) (p : Port)
    (sat : Chan → State → Bool) (cs : List Chan) (s : State) :
    Agree ps s (takeChannels p act sat cs (Taken.start s)).state := agree_takeChannels h p sat cs (Taken.start s)

theorem agree_serveGain (p : Port) (m : Message) (s : State) :
    Agree [.ports, .channels, .retained, .bus] s (serveGain p m s).state := by
  unfold serveGain
  split
  · exact .refl s
  · exact agree_takeRange (agree_takeDesired p _) p _ _ s

theorem agree_serveStep (p : Port) (m : Message) (s : State) :
    Agree [.ports, .channels, .retained, .bus] s (serveStep p m s).state := by
  unfold serveStep
  split
  · exact .refl s
  · exact agree_takeRange (agree_takeDesired p _) p _ _ s

theorem agree_servePad (p : Port) (m : Message) (s : State) :
    Agree [.ports, .channels, .retained, .bus] s (servePad p m s).state := by
  unfold servePad
  split
  · exact .refl s
  · split
    · exact .refl s
    · exact agree_takeRange (agree_takeDesired p _) p _ _ s

theorem agree_serveAuthority (p : Port) (m : Message) (s : State) :
    Agree [.ports, .channels, .retained] s (serveAuthority p m s).state := by
  unfold serveAuthority
  split
  · split
    · exact .refl s
    · exact agree_takeRange (agree_takeAuthority p _) p _ _ s
  · exact .refl s

theorem agree_servePhantom (p : Port) (m : Message) (s : State) :
    Agree (.channels :: .retained :: touchedByPhantom) s (servePhantom p m s).state := by
  unfold servePhantom
  split
  · exact .refl s
  · split
    · exact .refl s
    · exact agree_takeRange (agree_takePhantom _) p _ _ s

theorem agree_serveTrim (p : Port) (m : Message) (s : State) : Agree [.ports, .desks] s (serveTrim p m s).state := by
  unfold serveTrim
  split
  · exact .refl s
  · exact Agree.forEach (fun _ t => Agree.ite (.refl t)
      (((agree_modDesk _ _ _ _).mono rfl).andThen (agree_computeRecord _ _ _ _) rfl)) _ _

theorem agree_trackRecord (p : Port) (m : Mode) (c : Chan) (s : State) :
    Agree [.ports, .desks] s (trackRecord p m c s) := by
  unfold trackRecord
  split
  · exact ((agree_modDesk _ _ _ _).mono rfl).andThen (agree_computeRecord _ _ _ _) rfl
  · exact ((agree_modDesk _ _ _ _).mono rfl).andThen (agree_computeRecord _ _ _ _) rfl
  · exact .refl s

theorem agree_serveTracking (p : Port) (m : Message) (s : State) : Agree [.ports, .desks] s (serveTracking p m s).state := by
  unfold serveTracking
  split
  · exact Agree.forEach (agree_trackRecord p _) _ _
  · exact .refl s

theorem agree_serveArm (p : Port) (m : Message) (s : State) : Agree [.desks] s (serveArm p m s).state := by
  unfold serveArm
  dsimp only
  split
  · exact .refl s
  · split
    · exact Agree.forEach (fun c t => agree_modDesk p c _ t) _ _
    · exact .refl s

theorem agree_serveMeters (p : Port) (m : Message) (s : State) : Agree [.desks] s (serveMeters p m s).state := by
  unfold serveMeters
  split
  · exact .refl s
  · split
    · exact .refl s
    · exact Agree.forEach (fun c t => agree_modDesk p c _ t) _ _

theorem agree_servePlan (p : Port) (m : Message) (s : State) : Agree [.ports] s (servePlan p m s).state := by
  unfold servePlan
  dsimp only
  split
  · split
    · exact agree_modPort _ _ _
    · exact .refl s
  · exact .refl s

theorem agree_servePatch (p : Port) (m : Message) (s : State) : Agree [.ports, .outputs] s (servePatch p m s).state := by
  unfold servePatch
  dsimp only
  split
  · exact .refl s
  · split
    · exact .refl s
    · exact Agree.forEach (fun (x : OutNo × Option Source) t => agree_patchOne p x.2 x.1 t) _ _

theorem agree_serveSetOutput (p : Port) (m : Message) (s : State) :
    Agree [.ports, .outputs] s (serveSetOutput p m s).state := by
  unfold serveSetOutput
  split
  · exact .refl s
  · split
    · exact .refl s
    · exact agree_setOutputs _ _ _ _

theorem agree_serveTalkOn (p : Port) (m : Message) (s : State) :
    Agree [.ports, .talk, .outputs] s (serveTalkOn p m s).state :=
  Agree.ite (.refl s) (agree_insertTalk _ _)

theorem agree_serveObject (p : Port) (m : Message) (s : State) : Agree [.ports, .consent] s (serveObject p m s).state := by
  unfold serveObject
  split
  · exact .refl s
  · split
    · exact .refl s
    · split
      · exact .refl s
      · exact ((agree_endProposal _ _ _).mono rfl).andThen (agree_post _ _) rfl

theorem agree_serveWithdraw (p : Port) (m : Message) (s : State) :
    Agree [.ports, .consent] s (serveWithdraw p m s).state := by
  unfold serveWithdraw
  split
  · exact .refl s
  · split
    · exact agree_withdrawProposal _ _ _
    · exact .refl s

/-! ### Carried proposals and changed settings -/

/-- Changed settings that leave the clock source leave the clock (R23, R55). -/
theorem agree_changeSettings_of_source {h : Settings} {s : State} (hs : s.settings.source = h.source) :
    Agree touchedByCarry s (changeSettings h s) := by
  have set : Agree touchedByCarry s { s with settings := h } := by
    intro x hx; cases x <;> first | (exfalso; apply hx; simp [touchedByCarry]; done) | rfl
  have told : Agree (touchedByCarry) { s with settings := h } (post (.hubSetting h) { s with settings := h }) :=
    (agree_post _ _).mono rfl
  have raised (t : State) : Agree touchedByLanes t (whenChanged Settings.qualifyTime s.settings qualifyAll t) :=
    agree_whenChanged (agree_qualifyAll _)
  have expired (t : State) : Agree [.ports] t (whenChanged Settings.lossHold s.settings expireHolds t) :=
    agree_whenChanged (agree_expireHolds _)
  have clock {t : State} (ht : t.settings = h) : whenChanged Settings.source s.settings sourceChanged t = t :=
    if_pos (ht ▸ hs)
  unfold changeSettings settingEffects
  refine set.trans (Agree.ite (.refl _) ?_)
  refine Agree.trans ?_ (agree_whenChanged ((agree_recomputeStage _).mono rfl))
  refine Agree.trans ?_ (agree_whenChanged ((agree_resortTalk _).mono rfl))
  refine Agree.trans ?_ (agree_whenChanged ((agree_testHead _).mono rfl))
  refine Agree.trans ?_ (agree_whenChanged ((agree_endTransitions _).mono rfl))
  rw [clock]
  · exact (told.andThen (raised _) rfl).andThen (expired _) rfl
  · exact (expired _ .settings (by decide)).trans ((raised _ .settings (by decide)).trans rfl)

theorem agree_carryReset (pr : Proposal) (s : State) : Agree touchedByCarry s (carryReset pr s) := by
  have plans : Agree [.ports] s { s with ports := s.ports.each fun u =>
      { u with control := u.control.emptyReports, plan := defaultPlan s.rate } } := by
    intro x hx; cases x <;> first | (exfalso; apply hx; simp; done) | rfl
  have cleared : Agree [.ports, .desks, .outputs, .talk] s (emptyTalk (resetOutputs (forEach resetRecords (indexes 3)
      { s with ports := s.ports.each fun u =>
        { u with control := u.control.emptyReports, plan := defaultPlan s.rate } }))) :=
    (((plans.mono rfl).andThen (Agree.forEach agree_resetRecords _ _) rfl).andThen (agree_resetOutputs _) rfl).andThen
      (agree_emptyTalk _) rfl
  refine Agree.andThen ((cleared.mono rfl).trans (agree_changeSettings_of_source ?_)) (agree_post _ _) rfl
  exact Eq.trans (b := s.settings.source) (congrArg Settings.source (cleared .settings (by decide))) rfl

theorem agree_carry (pr : Proposal) (s : State) : Agree touchedByCarry s (carry pr s) := by
  have ended : Agree touchedByCarry s (endProposal pr .carried s) := (agree_endProposal _ _ _).mono rfl
  unfold carry
  dsimp only
  split
  · exact (ended.andThen (agree_post _ _) rfl).andThen (agree_carryRate _ _ _) rfl
  · exact (ended.andThen (agree_post _ _) rfl).andThen (agree_carryGrant _ _ _ _) rfl
  · exact ended.trans (agree_carryReset _ _)

theorem agree_testWindow (s : State) : Agree touchedByCarry s (testWindow s) := by
  unfold testWindow
  split
  · exact Agree.ite (agree_carry _ _) (.refl s)
  · exact .refl s

theorem agree_serveSetHub (m : Message) (s : State) : Agree (.clock :: touchedByCarry) s (serveSetHub m s).state := by
  unfold serveSetHub
  split
  · exact .refl s
  · exact (agree_changeSettings _ _).trans (agree_whenChanged ((agree_testWindow _).mono rfl))

theorem agree_servePropose (p : Port) (m : Message) (s : State) : Agree touchedByCarry s (servePropose p m s).state := by
  unfold servePropose
  dsimp only
  split
  · exact .refl s
  · split
    · exact .refl s
    · split
      · exact .refl s
      · split
        · exact ((agree_modConsent _ _).mono rfl).trans (agree_carry _ _)
        · exact ((agree_modConsent _ _).mono rfl).andThen
            (Agree.forEach (fun _ t => Agree.ite (agree_postTo _ _ _) (.refl t)) _ _) rfl

/-! ### The other commands -/

theorem agree_startFrame (s : State) :
    Agree [.hubFrame, .begun, .played, .ports, .phantom, .outputs, .retained, .desks, .rateMute] s (startFrame s) := by
  have flags (t : State) : Agree [.begun, .played] t { t with begun := true, played := false } := by
    intro x hx; cases x <;> first | (exfalso; apply hx; simp; done) | rfl
  have sent (n : Nat) : Agree [.hubFrame, .begun, .played, .ports, .phantom, .outputs, .retained, .desks, .rateMute] s
      (sendFrames n s) := (agree_sendFrames n s).mono rfl
  exact Agree.ite (.refl s) (Agree.andThen (Agree.ite ((sent _).andThen (agree_tickFrame _) rfl) (sent _)) (flags _) rfl)

theorem agree_endFrame (inp : FrameInputs) (s : State) :
    Agree [.ports, .freeReads, .mics, .lines, .talk, .consent, .played] s (endFrame inp s) := by
  refine Agree.ite ?_ (.refl s)
  refine Agree.trans (t := forEach endPort (indexes 3) s) ((Agree.forEach agree_endPort _ _).mono rfl) ?_
  intro x hx; cases x <;> first | (exfalso; apply hx; simp; done) | rfl

theorem agree_acquired (p : Port) (n : LaneName) (s : State) : Agree touchedByLanes s (acquired p n s) := by
  unfold acquired
  dsimp only
  split
  · exact .refl s
  · exact Agree.ite (Agree.ite ((agree_laneEvent _ _ _ _ _).andThen (agree_postLane _ _ _ _) rfl)
      ((agree_laneEvent _ _ _ _ _).andThen (agree_storeCopy _ _ _ _) rfl)) (.refl s)

theorem agree_startPoll (s : State) : Agree [.bus] s (startPoll s) := by
  unfold startPoll; split
  · exact agree_modBus _ _
  · exact .refl s

theorem agree_startWrite (s : State) : Agree [.bus] s (startWrite s) := by
  unfold startWrite; split
  · exact agree_modBus _ _
  · exact .refl s

theorem agree_startPhantomOffAll (s : State) : Agree [.bus] s (startPhantomOffAll s) := by
  unfold startPhantomOffAll; split
  · exact agree_modBus _ _
  · exact .refl s

theorem agree_startSetRate (s : State) : Agree [.bus] s (startSetRate s) := by
  unfold startSetRate; split
  · exact agree_modBus _ _
  · exact .refl s

theorem agree_endBroadcast (s : State) : Agree [.bus] s (endBroadcast s) := by
  unfold endBroadcast; split
  · exact Agree.ite (agree_freeBus s) (.refl s)
  · exact .refl s

theorem agree_pollReplied (k : Card) (d : PollData) (s : State) : Agree (.cards :: touchedByReply) s (pollReplied k d s) := by
  unfold pollReplied; split
  · exact Agree.ite (agree_takePollReply _ _ _) (.refl s)
  · exact .refl s

theorem agree_writeAcked (k : Card) (c : Chan) (s : State) :
    Agree [.bus, .cards, .channels, .phantom] s (writeAcked k c s) := by
  unfold writeAcked; split
  · exact Agree.ite (agree_takeWriteAck _ _ _ _ _) (.refl s)
  · exact .refl s

theorem agree_transactionTimedOut (s : State) : Agree (.cards :: touchedByPhantom) s (transactionTimedOut s) := by
  unfold transactionTimedOut; split
  · exact Agree.ite (agree_timeOut _ _ _) (.refl s)
  · exact Agree.ite (agree_timeOut _ _ _) (.refl s)
  · exact .refl s

theorem agree_startWriting (s : State) : Agree [.retained] s (startWriting s) := by
  unfold startWriting; split
  · exact Agree.ite (agree_modRetained _ _) (.refl s)
  · exact .refl s

theorem agree_lockClock (s : State) : Agree [.clock, .ports] s (lockClock s) := by
  refine Agree.ite (Agree.andThen ?_ (agree_postClock _) rfl) (.refl s)
  intro x hx; cases x <;> first | (exfalso; apply hx; simp; done) | rfl

theorem agree_holdoverClock (s : State) : Agree [.clock, .ports] s (holdoverClock s) := by
  refine Agree.ite (Agree.andThen ?_ (agree_postClock _) rfl) (.refl s)
  intro x hx; cases x <;> first | (exfalso; apply hx; simp; done) | rfl

/-! ### Power -/

theorem agree_losePower (s : State) : Agree [.power, .bus, .supplyGuard, .lines, .retained] s (losePower s) := by
  intro x hx; cases x <;> first | (exfalso; apply hx; simp; done) | rfl

theorem agree_holdReset (s : State) : Agree [.power, .bus, .supplyGuard, .lines, .retained] s (holdReset s) := by
  intro x hx; cases x <;> first | (exfalso; apply hx; simp; done) | rfl

theorem agree_takeReset (s : State) :
    Agree [.power, .resetInput, .freeReads, .bus, .supplyGuard, .lines, .retained] s (takeReset s) := by
  have pin : Agree [.power, .resetInput, .freeReads, .bus, .supplyGuard, .lines, .retained] s
      { s with resetInput := true } := by
    intro x hx; cases x <;> first | (exfalso; apply hx; simp; done) | rfl
  exact Agree.ite pin (pin.andThen (agree_holdReset _) rfl)

theorem agree_assertReset (pulse : ResetPulse) (s : State) :
    Agree [.power, .resetInput, .freeReads, .bus, .supplyGuard, .lines, .retained] s (assertReset pulse s) := by
  have read : Agree [.power, .resetInput, .freeReads, .bus, .supplyGuard, .lines, .retained] s
      { s with freeReads := s.freeReads + 1 } := by
    intro x hx; cases x <;> first | (exfalso; apply hx; simp; done) | rfl
  cases pulse with
  | full => exact agree_takeReset s
  | short => exact Agree.ite (read.trans (agree_takeReset _)) read

/-- What power-on sets; the queue of waiting commands and the counter of free values stand. -/
theorem agree_powerOn (s : State) : Agree (footprint (.powerOnReset .supplies)) s (powerOn s) := by
  have set (t : State) : Agree (footprint (.powerOnReset .supplies)) t (powerOnState { t with retained := t.retained.cut }) := by
    intro x hx; cases x <;> first | (exfalso; apply hx; simp [footprint]; done) | rfl
  have lit (p : Port) (n : LaneName) (t : State) : Agree touchedByLanes t (seekIfLit p n t) :=
    Agree.ite (.refl t) (Agree.ite (agree_laneEvent _ _ _ _ _) (.refl t))
  exact Agree.ite ((set s).andThen (agree_holdReset _) rfl)
    ((set s).andThen (Agree.forEach (fun p t => (lit p .A t).trans (lit p .B _)) _ _) rfl)

theorem agree_powerOnReset (cause : ResetCause) (s : State) : Agree (footprint (.powerOnReset cause)) s (powerOnReset cause s) := by
  have pin : Agree (footprint (.powerOnReset cause)) s { s with resetInput := false } := by
    intro x hx; cases x <;> first | (exfalso; apply hx; simp [footprint]; done) | rfl
  cases cause with
  | supplies => exact agree_powerOn s
  | release => exact Agree.ite (Agree.ite pin (pin.trans (agree_powerOn _))) (.refl s)

/-! ### Commands -/

/-- Every command runs to a next state that agrees with the one before outside the command's footprint. -/
theorem exec_agree (c : Instr) (s : State) : ∃ t, exec c s = .next t ∧ Agree (footprint c) s t := by
  have run {ps : List Part} {f : State → State} (h : Agree ps s (f s)) : Agree ps s (whenRunning f s) := h.whenRunning
  have clock (f : Clock → Clock) : Agree [.clock] s { s with clock := f s.clock } := by
    intro x hx; cases x <;> first | (exfalso; apply hx; simp; done) | rfl
  have same {owner : Message → State → Served} (h : ∀ m t, (owner m t).state = t) (p : Port) (kind : Byte) :
      Agree [.ports] s (serve p kind owner s) := agree_serve (fun m t => agree_of_state_eq (h m t)) rfl p kind s
  cases c with
  | powerOnReset cause => exact ⟨_, rfl, agree_powerOnReset cause s⟩
  | resetInputAssert pulse => exact ⟨_, rfl, agree_assertReset pulse s⟩
  | powerLoss => exact ⟨_, rfl, agree_losePower s⟩
  | downstreamFrame => exact ⟨_, rfl, run (agree_startFrame s)⟩
  | lightLost p n =>
    exact ⟨_, rfl, Agree.trans ((agree_modLane _ _ _ _).mono rfl)
      (Agree.ite (c := (_ : Power) = _) (Agree.ite (.refl _) (agree_laneEvent _ _ _ _ _)) (.refl _))⟩
  | lightReturned p n =>
    exact ⟨_, rfl, Agree.trans ((agree_modLane _ _ _ _).mono rfl)
      (Agree.ite (c := (_ : Power) = _) (Agree.ite (agree_laneEvent _ _ _ _ _) (.refl _)) (.refl _))⟩
  | upstreamFrame p n b => exact ⟨_, rfl, run (agree_upstreamFrame p n b s)⟩
  | badSync p n => exact ⟨_, rfl, run (agree_modLane p n _ s)⟩
  | acquired p n => exact ⟨_, rfl, run (agree_acquired p n s)⟩
  | syncLost p n => exact ⟨_, rfl, run (Agree.ite (agree_laneEvent _ _ _ _ _) (.refl s))⟩
  | qualified p n => exact ⟨_, rfl, run (agree_qualify p n s)⟩
  | laneDrop p n => exact ⟨_, rfl, run (Agree.ite (agree_laneEvent _ _ _ _ _) (.refl s))⟩
  | playout inp => exact ⟨_, rfl, run (agree_endFrame inp s)⟩
  | playoutMuteEnd p => exact ⟨_, rfl, run (agree_modMerge p _ s)⟩
  | assemblyTimeout p => exact ⟨_, rfl, run (agree_assemblyTimedOut p s)⟩
  | wordclockEdge => exact ⟨_, rfl, run (clock _)⟩
  | wordclockMissing => exact ⟨_, rfl, run (clock _)⟩
  | clockLocked => exact ⟨_, rfl, run (agree_lockClock s)⟩
  | clockHoldover => exact ⟨_, rfl, run (agree_holdoverClock s)⟩
  | holdExpired p => exact ⟨_, rfl, run (agree_expireHold p s)⟩
  | attach p => exact ⟨_, rfl, run (agree_serve (agree_serveAttach p) rfl p _ s)⟩
  | detach p => exact ⟨_, rfl, run (agree_serve (agree_serveDetach p) rfl p _ s)⟩
  | readPort p => exact ⟨_, rfl, run (same serveReadPort_state p _)⟩
  | readLanes p => exact ⟨_, rfl, run (same serveReadLanes_state p _)⟩
  | clearLaneCounters p => exact ⟨_, rfl, run (agree_serve agree_serveClearCounters rfl p _ s)⟩
  | setPort p => exact ⟨_, rfl, run (agree_serve agree_serveSetPort rfl p _ s)⟩
  | readHub p => exact ⟨_, rfl, run (same (fun _ _ => rfl) p _)⟩
  | setHub p => exact ⟨_, rfl, run (agree_serve agree_serveSetHub rfl p _ s)⟩
  | unknownRequest p => exact ⟨_, rfl, run (agree_serveUnknown p s)⟩
  | readChannels p => exact ⟨_, rfl, run (same serveReadChannels_state p _)⟩
  | readCards p => exact ⟨_, rfl, run (same (fun _ _ => rfl) p _)⟩
  | setGain p => exact ⟨_, rfl, run (agree_serve (agree_serveGain p) rfl p _ s)⟩
  | stepGain p => exact ⟨_, rfl, run (agree_serve (agree_serveStep p) rfl p _ s)⟩
  | setPad p => exact ⟨_, rfl, run (agree_serve (agree_servePad p) rfl p _ s)⟩
  | setAuthority p => exact ⟨_, rfl, run (agree_serve (agree_serveAuthority p) rfl p _ s)⟩
  | setPhantom p => exact ⟨_, rfl, run (agree_serve (agree_servePhantom p) rfl p _ s)⟩
  | setTrim p => exact ⟨_, rfl, run (agree_serve (agree_serveTrim p) rfl p _ s)⟩
  | setTracking p => exact ⟨_, rfl, run (agree_serve (agree_serveTracking p) rfl p _ s)⟩
  | armNotices p => exact ⟨_, rfl, run (agree_serve (fun m t => (agree_serveArm p m t).mono rfl) rfl p _ s)⟩
  | readMeters p => exact ⟨_, rfl, run (agree_serve (fun m t => (agree_serveMeters p m t).mono rfl) rfl p _ s)⟩
  | setPlan p => exact ⟨_, rfl, run (agree_serve (agree_servePlan p) rfl p _ s)⟩
  | readPlan p => exact ⟨_, rfl, run (same serveReadPlan_state p _)⟩
  | patchOutput p => exact ⟨_, rfl, run (agree_serve (agree_servePatch p) rfl p _ s)⟩
  | setOutput p => exact ⟨_, rfl, run (agree_serve (agree_serveSetOutput p) rfl p _ s)⟩
  | readOutputs p => exact ⟨_, rfl, run (same serveReadOutputs_state p _)⟩
  | talkOn p => exact ⟨_, rfl, run (agree_serve (agree_serveTalkOn p) rfl p _ s)⟩
  | talkOff p => exact ⟨_, rfl, run (agree_takeImmediate (fun _ t => agree_removeClaim p _ t) rfl p _ s)⟩
  | readTalk p => exact ⟨_, rfl, run (same (fun _ _ => rfl) p _)⟩
  | propose p => exact ⟨_, rfl, run (agree_serve (agree_servePropose p) rfl p _ s)⟩
  | object p => exact ⟨_, rfl, run (agree_takeImmediate (agree_serveObject p) rfl p _ s)⟩
  | withdraw p => exact ⟨_, rfl, run (agree_serve (agree_serveWithdraw p) rfl p _ s)⟩
  | readConsent p => exact ⟨_, rfl, run (same (fun _ _ => rfl) p _)⟩
  | poll => exact ⟨_, rfl, run (agree_startPoll s)⟩
  | write => exact ⟨_, rfl, run (agree_startWrite s)⟩
  | phantomOffAll => exact ⟨_, rfl, run (agree_startPhantomOffAll s)⟩
  | setRate => exact ⟨_, rfl, run (agree_startSetRate s)⟩
  | broadcastEnd => exact ⟨_, rfl, run (agree_endBroadcast s)⟩
  | pollReply k d => exact ⟨_, rfl, run (agree_pollReplied k d s)⟩
  | writeAck k c => exact ⟨_, rfl, run (agree_writeAcked k c s)⟩
  | transactionTimeout => exact ⟨_, rfl, run (agree_transactionTimedOut s)⟩
  | applicationDue c => exact ⟨_, rfl, run (agree_applicationDue c s)⟩
  | coefficientRampEnd p c => exact ⟨_, rfl, run (agree_modDesk p c _ s)⟩
  | ramped c => exact ⟨_, rfl, run (agree_endFrom _ c s)⟩
  | settled c => exact ⟨_, rfl, run (agree_endFrom _ c s)⟩
  | discharged c => exact ⟨_, rfl, run (agree_endFrom _ c s)⟩
  | rateMuteEnd =>
    refine ⟨_, rfl, run (Agree.ite ?_ (.refl s))⟩
    intro x hx; cases x <;> first | (exfalso; apply hx; simp [footprint]; done) | rfl
  | delayExpired o => exact ⟨_, rfl, run (agree_expireDelay o s)⟩
  | crossfadeEnd o => exact ⟨_, rfl, run (agree_modOutput o _ s)⟩
  | dimRampEnd o => exact ⟨_, rfl, run (agree_modOutput o _ s)⟩
  | talkTimedOut => exact ⟨_, rfl, run (agree_testHead s)⟩
  | stageTalkTaken => exact ⟨_, rfl, run (agree_stageTaken s)⟩
  | consentWindowExpired => exact ⟨_, rfl, run (agree_testWindow s)⟩
  | quietTimerExpired => exact ⟨_, rfl, run (agree_startWriting s)⟩
  | retainedWriteEnd => exact ⟨_, rfl, run (agree_modRetained _ s)⟩

end Sys2Proof.Machine
end

section
/-! PROOF. Every step keeps the laws of the lanes, of the ports, of power and of the merge buffers. -/

namespace Sys2Proof.Machine

/-! ### Operations under which the units stand -/

theorem unitsStand_dropAssembly (p : Port) (why : DropReason) (s : State) : UnitsStand s (dropAssembly p why s) := by
  unfold dropAssembly
  split
  · exact .refl s
  · exact (unitsStand_modControl _ _ _).trans
      (offers_postTo (ks := [22]) p (.messageDropped why _ 1) _ rfl).unitsStand

theorem unitsStand_queueRequest (p : Port) (m : Message) (s : State) : UnitsStand s (queueRequest p m s) :=
  UnitsStand.ite (unitsStand_modControl _ _ _) (offers_postTo (ks := [23]) p (.requestLost m.kind m.tag 1) s rfl).unitsStand

theorem unitsStand_classify (p : Port) (m : Message) (s : State) : UnitsStand s (classify p m s) :=
  UnitsStand.ite (unitsStand_modControl _ _ _) (unitsStand_queueRequest _ _ _)

theorem unitsStand_extend (p : Port) (bytes : List Byte) (s : State) : UnitsStand s (extend p bytes s) := by
  have h := unitsStand_modControl p (fun k => { k with assembly := some { bytes := bytes, idle := 0 } }) s
  unfold extend
  exact UnitsStand.ite h (UnitsStand.ite (h.trans (unitsStand_dropAssembly _ _ _)) (UnitsStand.ite
    ((h.trans (unitsStand_modControl _ _ _)).trans (unitsStand_classify _ _ _)) h))

theorem unitsStand_takeByte (p : Port) (b : ControlByte) (s : State) : UnitsStand s (takeByte p b s) := by
  unfold takeByte
  split
  · exact (unitsStand_dropAssembly _ _ _).trans (unitsStand_extend _ _ _)
  · split
    · exact .refl s
    · exact unitsStand_extend _ _ _

theorem unitsStand_takeControl (p : Port) (bytes : List ControlByte) (s : State) :
    UnitsStand s (takeControl p bytes s) :=
  UnitsStand.ite (unitsStand_modControl _ _ _) (UnitsStand.forEach (unitsStand_takeByte p) _ _)

theorem unitsStand_assemblyTimedOut (p : Port) (s : State) : UnitsStand s (assemblyTimedOut p s) := by
  unfold assemblyTimedOut
  split
  · exact UnitsStand.ite (unitsStand_dropAssembly _ _ _) (.refl s)
  · exact .refl s

theorem unitsStand_sendFrame (n : Nat) (p : Port) (s : State) : UnitsStand s (sendFrame n p s) := by
  unfold sendFrame
  refine (offers_judgeWindow p s).unitsStand.trans (unitsStand_modPort p _ ?_)
  exact fun u => ⟨rfl, rfl, rfl⟩

theorem unitsStand_sendFrames (n : Nat) (s : State) : UnitsStand s (sendFrames n s) :=
  UnitsStand.forEach (unitsStand_sendFrame n) _ _

theorem unitsStand_truncatePlan (q : Port) (s : State) : UnitsStand s (truncatePlan q s) := by
  unfold truncatePlan
  refine UnitsStand.ite (.refl s) (UnitsStand.trans (unitsStand_modPort q s ?_)
    (offers_postTo (ks := [10]) q (.planTruncated _ _ _) _ rfl).unitsStand)
  exact fun u => ⟨rfl, rfl, rfl⟩

theorem unitsStand_changeRate (r : Rate) (s : State) : UnitsStand s (changeRate r s) :=
  UnitsStand.trans (t := { s with rate := r, rateMute := some Config.rateMute }) (fun _ => ⟨rfl, rfl, rfl⟩)
    (UnitsStand.forEach unitsStand_truncatePlan _ _)

theorem unitsStand_carryRate (r : Rate) (pr : Proposal) (s : State) : UnitsStand s (carryRate r pr s) :=
  ((unitsStand_changeRate r s).trans ((agree_postSetRate r _).unitsStand rfl)).trans
    (offers_post (ks := [19]) (.rate r s.rate pr.number pr.proposer) _ rfl).unitsStand

theorem unitsStand_servePlan (p : Port) (m : Message) (s : State) : UnitsStand s (servePlan p m s).state := by
  unfold servePlan
  dsimp only
  split
  · split
    · exact unitsStand_modPort p s fun _ => ⟨rfl, rfl, rfl⟩
    · exact .refl s
  · exact .refl s

/-! ### Lane commands -/

theorem KeepsUnits.laneEvent {p : Port} {n : LaneName} {why : LaneReason} {f : Lane → Lane} {s : State}
    (h : (s.lane p n).Keeps (f (s.lane p n))) : KeepsUnits s (laneEvent p n why f s) :=
  (KeepsUnits.modPort (PortUnit.keeps_laneEvent h)).trans (offers_laneEvent p n why f s).keeps

theorem KeepsUnits.modLane {p : Port} {n : LaneName} {f : Lane → Lane} {s : State}
    (hs : (f (s.lane p n)).state = (s.lane p n).state) (h : (s.lane p n).Keeps (f (s.lane p n))) :
    KeepsUnits s (modLane p n f s) := KeepsUnits.modPort (.of_lane hs h)

theorem KeepsUnits.modMerge {p : Port} {f : Merge → Merge} {s : State}
    (h : (s.port p).merge.lawful → (f (s.port p).merge).lawful) : KeepsUnits s (modMerge p f s) :=
  KeepsUnits.modPort (.of_merge h)

theorem keeps_storeCopy (p : Port) (n : LaneName) {c : Copy} (hc : c.echo < 65536) (s : State) :
    KeepsUnits s (storeCopy p n c s) := .modMerge (Merge.lawful_store n hc)

/-- An upstream frame's echo is a two-byte number (R168). -/
theorem upCopy_echo_lt (b : UpBytes) : (upCopy b).echo < 65536 := by
  have h : ∀ i, u8 b.toList i < 256 := fun i => BitVec.isLt _
  have h2 := h 2
  have h3 := h 3
  have e : (upCopy b).echo = u8 b.toList 2 * 256 + u8 b.toList 3 := rfl
  omega

theorem Lane.badSync_state (l : Lane) : l.badSync.state = l.state := by
  unfold Lane.badSync; split <;> rfl

theorem Lane.badCheck_state (l : Lane) : l.badCheck.state = l.state := by
  unfold Lane.badCheck; dsimp only; split <;> rfl

theorem keeps_badSync (p : Port) (n : LaneName) (s : State) : KeepsUnits s (badSync p n s) := by
  refine .modLane ?_ ?_ <;> split
  · exact Lane.badSync_state _
  · rfl
  · exact Lane.keeps_badSync _
  · exact .refl _

theorem keeps_goodFrame (p : Port) (n : LaneName) {c : Copy} (hc : c.echo < 65536) (s : State) :
    KeepsUnits s (goodFrame p n c s) := by
  unfold goodFrame
  dsimp only
  split
  · exact .refl s
  · next hs => exact .modLane rfl (Lane.keeps_seekGood hs hc)
  · next hs =>
    obtain ⟨hg, hl⟩ := Lane.keeps_qualifyGood (lag := lagOf (frameNow s) c.echo) (echo := c.echo) hs
    refine .ite (fun _ => (KeepsUnits.modLane rfl hg).trans (keeps_storeCopy p n hc _)) fun _ => ?_
    exact .ite (fun _ => .modLane rfl hl) fun _ => (KeepsUnits.modLane rfl hl).trans (offers_postLane _ _ _ _).keeps
  · next hs =>
    have h : KeepsUnits s (modLane p n (Lane.upGood (lagOf (frameNow s) c.echo)) s) := .modLane rfl (Lane.keeps_upGood hs)
    exact .ite (fun _ => h.trans (keeps_storeCopy p n hc _)) fun _ => h

theorem keeps_upstreamFrame (p : Port) (n : LaneName) (b : UpBytes) (s : State) :
    KeepsUnits s (upstreamFrame p n b s) := by
  refine .ite (fun _ => .refl s) fun _ => .ite (fun _ => keeps_badSync p n s) fun _ => ?_
  refine .ite (fun _ => keeps_goodFrame p n (upCopy_echo_lt b) s) fun _ => ?_
  exact .modLane (Lane.badCheck_state _) (Lane.keeps_badCheck _)

/-- The fourth good frame is stored under the law of the merge buffers, which bounds its sequence number. -/
theorem keeps_acquired (p : Port) (n : LaneName) (s : State) : KeepsUnits s (acquired p n s) := by
  unfold acquired
  dsimp only
  split
  · exact .refl s
  · next c hc =>
    refine .ite (fun h => ?_) fun _ => .refl s
    have moved {late : Bool} : KeepsUnits s (laneEvent p n .acquired (Lane.acquire c.echo late) s) :=
      .laneEvent (Lane.keeps_acquire h.1)
    refine .ite (fun _ => moved.trans (offers_postLane _ _ _ _).keeps) fun _ q => ⟨fun hl => ?_, fun hr => ?_, fun hm => ?_⟩
    · simpa only [storeCopy, modMerge_port_lanes] using (moved q).lanes hl
    · simpa only [storeCopy, modMerge_port_lanes, modMerge_port_record] using (moved q).record hr
    · by_cases hq : p = q
      · subst hq
        exact (moved.trans (keeps_storeCopy p n (hm.2 n c hc) _) p).merge hm
      · simpa only [storeCopy, modMerge_port, if_neg hq] using (moved q).merge hm

theorem keeps_syncLost (p : Port) (n : LaneName) (s : State) : KeepsUnits s (syncLost p n s) :=
  .ite (fun h => .laneEvent (Lane.keeps_seek (by rw [h.1]; decide))) fun _ => .refl s

theorem keeps_qualify (p : Port) (n : LaneName) (s : State) : KeepsUnits s (qualify p n s) :=
  .ite (fun h => .laneEvent (Lane.keeps_raise h.1)) fun _ => .refl s

theorem keeps_dropLane (p : Port) (n : LaneName) (s : State) : KeepsUnits s (dropLane p n s) :=
  .ite (fun h => .laneEvent ((Lane.keeps_seek (by rw [h.1]; decide)).trans (Lane.keeps_drop _ _))) fun _ => .refl s

/-! ### SET PORT (R20, R21) -/

/-- The lanes of a port whose late ones return to QUALIFYING together (R21, step 3). -/
def Lanes.requalify (offset : Nat) (ls : Lanes) : Lanes := { a := ls.a.requalify offset, b := ls.b.requalify offset }

/-- The unit of a port whose late lanes return, the active lane following (R19, R21). -/
def PortUnit.requalified (offset : Nat) (u : PortUnit) : PortUnit :=
  { u with
    lanes := u.lanes.requalify offset,
    merge := { u.merge with
      active := if u.lanes.isUp u.merge.active ∧ ¬ (u.lanes.requalify offset).isUp u.merge.active ∧
          (u.lanes.requalify offset).isUp u.merge.active.other then u.merge.active.other else u.merge.active } }

/-- LANE STATE of each late lane, lane A first (R21, step 3). -/
def postLate (q : Port) (offset : Nat) (before : Lanes) (s : State) : State :=
  forEach (fun n t => if (before.get n).lateUnder offset then postLane q n .overBudget t else t) [.A, .B] s

/-- The return of the late lanes: the unit changes, the reports are offered, and the port controller is told. -/
theorem requalifyLanes_eq (q : Port) (offset : Nat) (s : State) :
    requalifyLanes q offset s =
      lanesChanged q (s.port q).lanes.anyUp
        (if ((s.port q).requalified offset).merge.active = (s.port q).merge.active then
          postLate q offset (s.port q).lanes (modPort q (PortUnit.requalified offset) s)
        else postLane q ((s.port q).requalified offset).merge.active .active
          (postLate q offset (s.port q).lanes (modPort q (PortUnit.requalified offset) s))) := by
  rw [modPort_congr (f := PortUnit.requalified offset) (g := fun u => { u with
    lanes := ((s.port q).requalified offset).lanes,
    merge := { u.merge with active := ((s.port q).requalified offset).merge.active } }) rfl]
  rfl

theorem offers_postLate (q : Port) (offset : Nat) (before : Lanes) (s : State) :
    Offers [0] s (postLate q offset before s) :=
  Offers.forEach (fun _ t => Offers.ite (offers_postLane _ _ _ _) (.refl t)) _ _

theorem offers_requalifyLanes (q : Port) (offset : Nat) (s : State) :
    Offers [0, 1, 11, 13, 15, 18]
      (modPort q (fun u => (u.requalified offset).told u.lanes.anyUp) s) (requalifyLanes q offset s) := by
  have e : modPort q (fun u => (u.requalified offset).told u.lanes.anyUp) s =
      modPort q (PortUnit.told (s.port q).lanes.anyUp) (modPort q (PortUnit.requalified offset) s) :=
    (modPort_congr rfl).trans
      (modPort_modPort q (PortUnit.requalified offset) (PortUnit.told (s.port q).lanes.anyUp) s).symm
  rw [e, requalifyLanes_eq]
  refine Offers.trans (Offers.told (Offers.mono (ks := [0]) ?_ rfl) _ _) ((offers_lanesChanged _ _ _).mono rfl)
  exact Offers.maybe (offers_postLate _ _ _ _) (offers_postLane _ _ _ _)

theorem keeps_requalifyLanes (q : Port) (offset : Nat) (s : State) : KeepsUnits s (requalifyLanes q offset s) := by
  refine KeepsUnits.trans (.modPort ?_) (offers_requalifyLanes q offset s).keeps
  refine .of_told (v := (s.port q).requalified offset) rfl (fun n => ?_) id
  cases n <;> exact Lane.keeps_requalify offset _

theorem keeps_setPreferred (q : Port) (pref : Option LaneName) (s : State) : KeepsUnits s (setPreferred q pref s) := by
  have h : KeepsUnits s (modMerge q (fun m => { m with preferred := pref }) s) := .modMerge id
  unfold setPreferred
  split
  · exact h
  · exact .ite (fun _ => (h.trans (.modMerge id)).trans (offers_postLane _ _ _ _).keeps) fun _ => h

theorem keeps_setOffset (q : Port) {offset : Nat} (h : 1 ≤ offset ∧ offset ≤ 7) (s : State) :
    KeepsUnits s (setOffset q offset s) :=
  (KeepsUnits.modMerge fun ⟨_, _, hn, he⟩ => ⟨h.1, h.2, hn, he⟩).trans (keeps_requalifyLanes q offset _)

theorem clampNat_bounds {lo hi : Nat} (h : lo ≤ hi) (n : Nat) : lo ≤ clampNat lo hi n ∧ clampNat lo hi n ≤ hi := by
  unfold clampNat; omega

theorem keeps_serveSetPort (m : Message) (s : State) : KeepsUnits s (serveSetPort m s).state := by
  unfold serveSetPort
  dsimp only
  split
  · next q pref _ _ =>
    have preferred (c : Prop) [Decidable c] : KeepsUnits s (if c then setPreferred q pref s else s) :=
      .ite (fun _ => keeps_setPreferred q pref s) fun _ => .refl s
    have offset (c : Prop) [Decidable c] (t : State) :
        KeepsUnits t (if c then setOffset q (clampNat 1 7 (u8 m.body 2)) t else t) :=
      .ite (fun _ => keeps_setOffset q (clampNat_bounds (by decide) _) t) fun _ => .refl t
    have told (c : Prop) [Decidable c] (t : State) : KeepsUnits t (if c then t else postPort q .setting t) :=
      .ite (fun _ => .refl t) fun _ => (offers_postPort _ _ _).keeps
    exact ((preferred _).trans (offset _ _)).trans (told _ _)
  · exact .refl s

/-! ### Ports (R29 to R33) -/

theorem keeps_enterVacant (p : Port) (why : PortReason) {s : State} (hs : s.portState p = .isolated) :
    KeepsUnits s (enterVacant p why s) := by
  refine KeepsUnits.trans (.modPort (.of_parts (fun _ => .refl _) (fun ⟨hu, _⟩ => ?_) id)) (offers_enterVacant p why s).keeps
  have hs : (s.port p).record.state = .isolated := hs
  have hd : (s.port p).lanes.anyUp = false := by simpa [hs] using hu
  exact hd ▸ PortRecord.lawfulFor_vacated _

theorem keeps_expireHold (p : Port) (s : State) : KeepsUnits s (expireHold p s) := by
  refine .ite (fun h => keeps_enterVacant p .holdExpired ?_) fun _ => .refl s
  unfold holdDue at h
  split at h
  · simpa using (Bool.and_eq_true_iff.1 h).1
  · simp at h

theorem KeepsUnits.modRecord {p : Port} {f : PortRecord → PortRecord} {s : State}
    (h : ∀ up, (s.port p).record.lawfulFor up → (f (s.port p).record).lawfulFor up) : KeepsUnits s (modRecord p f s) :=
  KeepsUnits.modPort (.of_record (h _))

theorem keeps_serveAttach (p : Port) (m : Message) {s : State} (ha : available kindAttach (s.portState p) = true) :
    KeepsUnits s (serveAttach p m s).state := by
  have hv : (s.port p).record.state ≠ .vacant := fun h => by
    rw [show s.portState p = .vacant from h] at ha; exact absurd ha (by decide)
  unfold serveAttach
  dsimp only
  split
  · exact .refl s
  · split
    · next hl =>
      have hl : (s.port p).record.state = .linked := hl
      have moved (serial : Nat) (name : List Byte) : KeepsUnits s (modRecord p (fun r =>
          { r with state := .attached, serial := some serial, name := name, lastSerial := some serial }) s) :=
        .modRecord fun up ⟨hu, _, hh⟩ => by simp_all [PortRecord.lawfulFor]
      exact ((moved _ _).trans (.ite (fun _ => (agree_resetRecords _ _).keeps rfl) fun _ => .refl _)).trans
        ((offers_outputsReturned _ _).keeps.trans (offers_postPort _ _ _).keeps)
    · next hl =>
      have hl : (s.port p).record.state ≠ .linked := hl
      split
      · exact .ite (fun _ => .refl s) fun _ => (KeepsUnits.modRecord fun _ => id).trans (offers_postPort _ _ _).keeps
      · have gone : Offers [13, 15, 18] s (resetRecords p (departConsent p (removeClaim p .departed s))) :=
          (((offers_removeClaim _ _ _).mono rfl).andThen (offers_departConsent _ _) rfl).trans ((agree_resetRecords _ _).offers rfl)
        refine (gone.keeps.trans (.modRecord fun up => ?_)).trans (offers_postPort _ _ _).keeps
        rw [gone.record]
        rintro ⟨hu, hs, hh⟩
        refine ⟨hu, ?_, hh⟩
        revert hv hl
        cases (s.port p).record.state <;> simp

theorem keeps_serveDetach (p : Port) (m : Message) {s : State} (ha : available kindDetach (s.portState p) = true) :
    KeepsUnits s (serveDetach p m s).state := by
  refine .ite (keeps_enterVacant p .detached) fun hi => ?_
  have hs : (s.port p).record.state = .attached := by
    show s.portState p = .attached
    revert ha hi
    cases s.portState p <;> decide
  refine (KeepsUnits.trans (.modRecord fun up ⟨hu, _, hh⟩ => ?_) (offers_leaveAttached _ _).keeps).trans
    (offers_postPort _ _ _).keeps
  simp_all [PortRecord.lawfulFor]

theorem keeps_serveClearCounters (m : Message) (s : State) : KeepsUnits s (serveClearCounters m s).state := by
  unfold serveClearCounters
  split
  · exact .forEach (fun n t => .modLane rfl (Lane.keeps_clear _)) _ _
  · exact .refl s

/-! ### Settings and consent -/

theorem keeps_changeSettings (h : Settings) (s : State) : KeepsUnits s (changeSettings h s) := by
  have set : KeepsUnits s { s with settings := h } := fun _ => .of_stand ⟨rfl, rfl, rfl⟩
  have changed {α : Type} [DecidableEq α] {field : Settings → α} {old : Settings} {f : State → State}
      (hf : ∀ t, KeepsUnits t (f t)) (t : State) : KeepsUnits t (whenChanged field old f t) :=
    .ite (fun _ => .refl t) fun _ => hf t
  unfold changeSettings settingEffects
  refine set.trans (.ite (fun _ => .refl _) fun _ => ?_)
  refine .trans ?_ (changed (fun t => (offers_recomputeStage t).keeps) _)
  refine .trans ?_ (changed (fun t => (offers_resortTalk t).keeps) _)
  refine .trans ?_ (changed (fun t => (offers_testHead t).keeps) _)
  refine .trans ?_ (changed (fun t => (offers_endTransitions t).keeps) _)
  refine .trans ?_ (changed (fun t => (offers_sourceChanged t).keeps) _)
  refine .trans ?_ (changed (fun t => .forEach keeps_expireHold _ t) _)
  refine .trans ?_ (changed (fun t => .forEach (fun p t => (keeps_qualify p .A t).trans (keeps_qualify p .B _)) _ t) _)
  exact (offers_post (ks := [20]) (.hubSetting h) _ rfl).keeps

theorem keeps_carryReset (pr : Proposal) (s : State) : KeepsUnits s (carryReset pr s) := by
  have plans : UnitsStand s { s with ports := s.ports.each fun u =>
      { u with control := u.control.emptyReports, plan := defaultPlan s.rate } } := fun q => by
    simp only [State.port, Bank.get_each, and_self]
  unfold carryReset
  refine .trans (.trans (.trans (.trans (plans.trans ?_).keeps ((agree_resetOutputs _).keeps rfl)) ((agree_emptyTalk _).keeps rfl))
    (keeps_changeSettings _ _)) (offers_post (ks := [21]) (.hubResetDone pr.number pr.proposer) _ rfl).keeps
  exact (Agree.forEach agree_resetRecords _ _).unitsStand rfl

theorem keeps_carry (pr : Proposal) (s : State) : KeepsUnits s (carry pr s) := by
  have ended : KeepsUnits s (endProposal pr .carried s) := (agree_endProposal _ _ _).keeps rfl
  have told : KeepsUnits s (post (.consentEnded pr.number pr.action pr.proposer .carried none none)
      (endProposal pr .carried s)) := ended.trans (offers_post (ks := [18]) (.consentEnded _ _ _ _ _ _) _ rfl).keeps
  unfold carry
  dsimp only
  split
  · exact told.trans (unitsStand_carryRate _ _ _).keeps
  · exact told.trans (offers_carryGrant _ _ _ _).keeps
  · exact ended.trans (keeps_carryReset _ _)

theorem keeps_testWindow (s : State) : KeepsUnits s (testWindow s) := by
  unfold testWindow
  split
  · exact .ite (fun _ => keeps_carry _ _) fun _ => .refl s
  · exact .refl s

theorem keeps_serveSetHub (m : Message) (s : State) : KeepsUnits s (serveSetHub m s).state := by
  unfold serveSetHub
  split
  · exact .refl s
  · exact (keeps_changeSettings _ _).trans (.ite (fun _ => .refl _) fun _ => keeps_testWindow _)

theorem keeps_servePropose (p : Port) (m : Message) (s : State) : KeepsUnits s (servePropose p m s).state := by
  unfold servePropose
  dsimp only
  split
  · exact .refl s
  · split
    · exact .refl s
    · split
      · exact .refl s
      · split
        · exact ((agree_modConsent _ _).keeps rfl).trans (keeps_carry _ _)
        · exact ((agree_modConsent _ _).keeps rfl).trans (offers_askVoters _ _).keeps

/-! ### Frame periods -/

theorem keeps_startFrame (s : State) : KeepsUnits s (startFrame s) := by
  have tick (t : State) : KeepsUnits t (tickFrame t) := fun q => by
    have e : (tickFrame t).port q = (t.port q).tick := Bank.get_each _ _ _
    rw [e]
    exact .of_record fun ⟨hu, hs, hh⟩ => ⟨hu, hs, by simpa [tickTimer] using hh⟩
  refine .ite (fun _ => .refl s) fun _ => ?_
  refine KeepsUnits.trans (t := if s.begun then tickFrame (sendFrames _ s) else sendFrames _ s) ?_
    fun _ => .of_stand ⟨rfl, rfl, rfl⟩
  exact (unitsStand_sendFrames _ s).keeps.trans (.ite (fun _ => tick _) fun _ => .refl _)

theorem Lane.judge_state (present : Bool) (l : Lane) : (l.judge present).state = l.state := by
  unfold Lane.judge; split <;> rfl

theorem Lanes.judge_get (q : Nat) (e : Entry) (ls : Lanes) (n : LaneName) :
    (ls.judge q e).get n = (ls.get n).judge (e.holds q n) := by cases n <;> rfl

theorem Lanes.judge_anyUp (q : Nat) (e : Entry) (ls : Lanes) : (ls.judge q e).anyUp = ls.anyUp := by
  unfold Lanes.anyUp
  congr 1 <;> exact Lanes.isUp_congr (by rw [Lanes.judge_get, Lane.judge_state])

theorem keeps_playPort (p : Port) (s : State) : KeepsUnits s (playPort p s) := by
  unfold playPort
  dsimp only
  generalize (s.port p).merge.entries.get (Fin.ofNat 8 (s.port p).merge.next) = e
  have played (c : Option Copy) : KeepsUnits s (modPort p (fun u =>
      { u with lanes := u.lanes.judge u.merge.next e, merge := u.merge.play c }) s) :=
    .modPort (.of_parts (fun n => by rw [Lanes.judge_get]; exact Lane.keeps_judge _ _)
      (fun h => by rw [Lanes.judge_anyUp]; exact h) (Merge.lawful_play c))
  split
  · exact (played _).trans (unitsStand_takeControl _ _ _).keeps
  · exact (played _).trans (unitsStand_dropAssembly _ _ _).keeps

theorem keeps_endPort (p : Port) (s : State) : KeepsUnits s (endPort p s) := by
  have counted : KeepsUnits s (modMerge p (Merge.countWithout (s.port p).lanes.anyUp) s) := .modMerge id
  refine counted.trans (.ite (fun _ => fun q => ?_) fun _ => .trans ?_ (keeps_playPort p _))
  · rw [holdPort_port]
    split
    · next h => subst h; exact .of_parts (fun _ => .refl _) id id
    · exact .of_stand ⟨rfl, rfl, rfl⟩
  · exact KeepsUnits.trans (.modMerge (Merge.lawful_skip _)) (.ite (fun _ => .refl _) fun _ =>
      (unitsStand_dropAssembly _ _ _).keeps)

theorem keeps_endFrame (inp : FrameInputs) (s : State) : KeepsUnits s (endFrame inp s) := by
  refine .ite (fun _ => ?_) fun _ => .refl s
  exact KeepsUnits.trans (t := forEach endPort (indexes 3) s) (.forEach keeps_endPort _ _) fun _ => .of_stand ⟨rfl, rfl, rfl⟩

theorem keeps_playoutMuteEnd (p : Port) (s : State) : KeepsUnits s (modMerge p Merge.endMute s) := by
  refine .modMerge fun h => ?_
  unfold Merge.endMute
  split <;> exact h

end Sys2Proof.Machine
end

section
/-! PROOF. The laws of lanes, ports, power and merge buffers, step by step: settles O10 and O11. -/

namespace Sys2Proof.Machine

/-! ### The light of a lane and its pin (R5, R167) -/

/-- An event of a lane whose pin has just been set is one event of the lane as it was. -/
theorem laneEvent_setLossPin {p : Port} {n : LaneName} {loss : Bool} {f : Lane → Lane} (s : State) :
    modPort p (PortUnit.laneEvent n f) (setLossPin p n loss s) =
      modPort p (PortUnit.laneEvent n fun l => f { l with lossOfLight := loss }) s := by
  refine (modPort_modPort _ _ _ _).trans (modPort_congr ?_)
  have pin : ∀ m, ((s.port p).lanes.put n { (s.port p).lanes.get n with lossOfLight := loss }).isUp m =
      (s.port p).lanes.isUp m := fun m => Lanes.isUp_congr (by rw [lanes_get_put]; split <;> simp_all)
  have twice (l l' : Lane) : ((s.port p).lanes.put n l).put n l' = (s.port p).lanes.put n l' := by cases n <;> rfl
  simp only [PortUnit.laneEvent, PortUnit.laneMoved, lanes_get_put_same, twice, activeAfter, Lanes.anyUp, pin]

theorem setLossPin_lane (p : Port) (n : LaneName) (loss : Bool) (s : State) :
    (setLossPin p n loss s).lane p n = { s.lane p n with lossOfLight := loss } := modLane_lane_same _ _ _ _

theorem Lane.keeps_pin {l : Lane} {loss : Bool} (h : l.state = .dark ↔ loss = true) :
    l.Keeps { l with lossOfLight := loss } := ⟨fun ⟨_, hl⟩ => ⟨h, hl⟩, id⟩

theorem keeps_lightLost (p : Port) (n : LaneName) (s : State) : KeepsUnits s (lightLost p n (setLossPin p n true s)) := by
  unfold lightLost
  rw [setLossPin_lane]
  refine .ite (fun h => .modLane rfl (Lane.keeps_pin (iff_of_true h rfl))) fun _ => ?_
  refine KeepsUnits.trans ?_ (offers_laneEvent p n .lightLost Lane.darken _).keeps
  rw [laneEvent_setLossPin]
  exact .modPort (PortUnit.keeps_laneEvent (Lane.keeps_darken _))

theorem keeps_lightReturned (p : Port) (n : LaneName) (s : State) :
    KeepsUnits s (lightReturned p n (setLossPin p n false s)) := by
  unfold lightReturned
  rw [setLossPin_lane]
  refine .ite (fun _ => ?_) fun h => .modLane rfl (Lane.keeps_pin (iff_of_false h (by decide)))
  refine KeepsUnits.trans ?_ (offers_laneEvent p n .lightReturned Lane.seek _).keeps
  rw [laneEvent_setLossPin]
  exact .modPort (PortUnit.keeps_laneEvent (Lane.keeps_light _))

/-! ### Served requests -/

theorem keeps_serve {p : Port} {kind : Byte} {owner : Message → State → Served}
    (h : ∀ m s, available kind (s.portState p) = true → KeepsUnits s (owner m s).state) (s : State) :
    KeepsUnits s (serve p kind owner s) := by
  obtain e | ⟨m, rest, -, hk, -, e⟩ := serve_cases p kind owner s <;> rw [e]
  · exact .refl s
  · refine KeepsUnits.trans (t := (checkAndServe p owner m s).state) ?_
      ((unitsStand_modControl _ _ _).trans (unitsStand_modControl _ _ _)).keeps
    unfold checkAndServe
    split
    · exact .refl s
    · split
      · exact .refl s
      · next ha => exact h m s (by simpa [hk] using ha)

/-- A request whose owner keeps the laws whatever the port state. -/
theorem keeps_serve_of {p : Port} {kind : Byte} {owner : Message → State → Served}
    (h : ∀ m s, KeepsUnits s (owner m s).state) (s : State) : KeepsUnits s (serve p kind owner s) :=
  keeps_serve (fun m s _ => h m s) s

/-- A request whose owner leaves the ports alone. -/
theorem keeps_serve_agree {ps : List Part} {p : Port} {kind : Byte} {owner : Message → State → Served}
    (h : ∀ m s, Agree ps s (owner m s).state) (s : State) (hp : ps.contains .ports = false) :
    KeepsUnits s (serve p kind owner s) := keeps_serve_of (fun m s => (h m s).keeps hp) s

/-- A request whose owner changes nothing. -/
theorem keeps_serve_read {p : Port} {kind : Byte} {owner : Message → State → Served}
    (h : ∀ m s, (owner m s).state = s) (s : State) : KeepsUnits s (serve p kind owner s) :=
  keeps_serve_agree (ps := []) (fun m s => agree_of_state_eq (h m s)) s rfl

theorem keeps_takeImmediate {p : Port} {kind : Byte} {owner : Message → State → Served}
    (h : ∀ m s, KeepsUnits s (owner m s).state) (s : State) : KeepsUnits s (takeImmediate p kind owner s) := by
  have reply (m : Message) (r : Served) : KeepsUnits r.state (pushReply p m r) := (unitsStand_modControl _ _ _).keeps
  obtain e | ⟨m, rest, -, -, e⟩ := takeImmediate_cases p kind owner s
  · rw [e]; exact .refl s
  · have taken : KeepsUnits s (taking p rest s) := (unitsStand_modControl _ _ _).keeps
    rcases e with e | e | e | e <;> rw [e]
    · exact taken.trans (offers_postTo (ks := [23]) p (.requestLost m.kind m.tag 1) _ rfl).keeps
    · exact taken.trans (reply m (refuse .malformed (taking p rest s)))
    · exact taken.trans (reply m (refuse .notAttached (taking p rest s)))
    · exact (taken.trans (h m _)).trans (reply m _)

theorem keeps_takeRange {ks : List Nat} {act : Chan → State → State} (h : ∀ c s, Offers ks s (act c s)) (p : Port)
    (sat : Chan → State → Bool) (cs : List Chan) (s : State) :
    KeepsUnits s (takeChannels p act sat cs (Taken.start s)).state := (offers_takeChannels h p sat cs (Taken.start s)).keeps

theorem keeps_serveGain (p : Port) (m : Message) (s : State) : KeepsUnits s (serveGain p m s).state := by
  unfold serveGain
  split
  · exact .refl s
  · exact keeps_takeRange (offers_takeDesired p _) p _ _ s

theorem keeps_serveStep (p : Port) (m : Message) (s : State) : KeepsUnits s (serveStep p m s).state := by
  unfold serveStep
  split
  · exact .refl s
  · exact keeps_takeRange (offers_takeDesired p _) p _ _ s

theorem keeps_servePad (p : Port) (m : Message) (s : State) : KeepsUnits s (servePad p m s).state := by
  unfold servePad
  split
  · exact .refl s
  · split
    · exact .refl s
    · exact keeps_takeRange (offers_takeDesired p _) p _ _ s

theorem keeps_serveAuthority (p : Port) (m : Message) (s : State) : KeepsUnits s (serveAuthority p m s).state := by
  unfold serveAuthority
  split
  · split
    · exact .refl s
    · exact keeps_takeRange (fun c t => offers_changeSetting c _ t) p _ _ s
  · exact .refl s

theorem keeps_servePhantom (p : Port) (m : Message) (s : State) : KeepsUnits s (servePhantom p m s).state := by
  unfold servePhantom
  split
  · exact .refl s
  · split
    · exact .refl s
    · exact keeps_takeRange (offers_takePhantom _) p _ _ s

theorem keeps_serveTrim (p : Port) (m : Message) (s : State) : KeepsUnits s (serveTrim p m s).state := by
  unfold serveTrim
  split
  · exact .refl s
  · exact (Offers.forEach (offers_trimRecord p _) _ _).keeps

theorem keeps_serveTracking (p : Port) (m : Message) (s : State) : KeepsUnits s (serveTracking p m s).state := by
  unfold serveTracking
  split
  · exact (Offers.forEach (offers_trackRecord p _) _ _).keeps
  · exact .refl s

theorem keeps_servePatch (p : Port) (m : Message) (s : State) : KeepsUnits s (servePatch p m s).state := by
  unfold servePatch
  dsimp only
  split
  · exact .refl s
  · split
    · exact .refl s
    · exact (Offers.forEach (fun (x : OutNo × Option Source) t => offers_patchOne p x.2 x.1 t) _ _).keeps

theorem keeps_serveSetOutput (p : Port) (m : Message) (s : State) : KeepsUnits s (serveSetOutput p m s).state := by
  unfold serveSetOutput
  split
  · exact .refl s
  · split
    · exact .refl s
    · exact (offers_setOutputs _ _ _ _).keeps

theorem keeps_serveTalkOn (p : Port) (m : Message) (s : State) : KeepsUnits s (serveTalkOn p m s).state :=
  .ite (fun _ => .refl s) fun _ => (offers_insertTalk _ _).keeps

theorem keeps_serveObject (p : Port) (m : Message) (s : State) : KeepsUnits s (serveObject p m s).state := by
  unfold serveObject
  split
  · exact .refl s
  · split
    · exact .refl s
    · split
      · exact .refl s
      · exact ((agree_endProposal _ _ _).keeps rfl).trans (offers_post (ks := [18]) (.consentEnded _ _ _ _ _ _) _ rfl).keeps

theorem keeps_serveWithdraw (p : Port) (m : Message) (s : State) : KeepsUnits s (serveWithdraw p m s).state := by
  unfold serveWithdraw
  split
  · exact .refl s
  · split
    · exact (offers_withdrawProposal _ _ _).keeps
    · exact .refl s

/-! ### Commands -/

/-- Every command but those of reset, power and light is made while the hub runs and has no effect otherwise. -/
theorem exec_whenRunning {c : Instr} (h1 : ∀ x, c ≠ .powerOnReset x) (h2 : ∀ x, c ≠ .resetInputAssert x)
    (h3 : c ≠ .powerLoss) (h4 : ∀ p n, c ≠ .lightLost p n) (h5 : ∀ p n, c ≠ .lightReturned p n) :
    ∃ f, ∀ s, exec c s = .next (whenRunning f s) := by
  cases c
  case powerOnReset x => exact absurd rfl (h1 x)
  case resetInputAssert x => exact absurd rfl (h2 x)
  case powerLoss => exact absurd rfl h3
  case lightLost p n => exact absurd rfl (h4 p n)
  case lightReturned p n => exact absurd rfl (h5 p n)
  all_goals exact ⟨_, fun _ => rfl⟩

/-- While the hub runs, every command but a power-on keeps the laws of the ports' units. -/
theorem exec_keepsUnits {c : Instr} {s : State} (hr : s.power = .running) (hc : ∀ x, c ≠ .powerOnReset x) :
    ∃ t, exec c s = .next t ∧ KeepsUnits s t := by
  have run {f : State → State} (h : KeepsUnits s (f s)) : KeepsUnits s (whenRunning f s) := by rwa [whenRunning_eq hr]
  have pin {f : State → State} {p : Port} {n : LaneName} {loss : Bool} (h : KeepsUnits s (f (setLossPin p n loss s))) :
      KeepsUnits s (whenRunning f (setLossPin p n loss s)) := by
    rwa [whenRunning_eq (s := setLossPin p n loss s) hr]
  cases c with
  | powerOnReset cause => exact absurd rfl (hc cause)
  | resetInputAssert pulse => exact ⟨_, rfl, (agree_assertReset pulse s).keeps rfl⟩
  | powerLoss => exact ⟨_, rfl, (agree_losePower s).keeps rfl⟩
  | downstreamFrame => exact ⟨_, rfl, run (keeps_startFrame s)⟩
  | lightLost p n => exact ⟨_, rfl, pin (keeps_lightLost p n s)⟩
  | lightReturned p n => exact ⟨_, rfl, pin (keeps_lightReturned p n s)⟩
  | upstreamFrame p n b => exact ⟨_, rfl, run (keeps_upstreamFrame p n b s)⟩
  | badSync p n => exact ⟨_, rfl, run (keeps_badSync p n s)⟩
  | acquired p n => exact ⟨_, rfl, run (keeps_acquired p n s)⟩
  | syncLost p n => exact ⟨_, rfl, run (keeps_syncLost p n s)⟩
  | qualified p n => exact ⟨_, rfl, run (keeps_qualify p n s)⟩
  | laneDrop p n => exact ⟨_, rfl, run (keeps_dropLane p n s)⟩
  | playout inp => exact ⟨_, rfl, run (keeps_endFrame inp s)⟩
  | playoutMuteEnd p => exact ⟨_, rfl, run (keeps_playoutMuteEnd p s)⟩
  | assemblyTimeout p => exact ⟨_, rfl, run (unitsStand_assemblyTimedOut p s).keeps⟩
  | wordclockEdge => exact ⟨_, rfl, run fun _ => .of_stand ⟨rfl, rfl, rfl⟩⟩
  | wordclockMissing => exact ⟨_, rfl, run fun _ => .of_stand ⟨rfl, rfl, rfl⟩⟩
  | clockLocked => exact ⟨_, rfl, run (offers_lockClock s).keeps⟩
  | clockHoldover => exact ⟨_, rfl, run (offers_holdoverClock s).keeps⟩
  | holdExpired p => exact ⟨_, rfl, run (keeps_expireHold p s)⟩
  | attach p => exact ⟨_, rfl, run (keeps_serve (fun m _ => keeps_serveAttach p m) s)⟩
  | detach p => exact ⟨_, rfl, run (keeps_serve (fun m _ => keeps_serveDetach p m) s)⟩
  | readPort p => exact ⟨_, rfl, run (keeps_serve_read serveReadPort_state s)⟩
  | readLanes p => exact ⟨_, rfl, run (keeps_serve_read serveReadLanes_state s)⟩
  | clearLaneCounters p => exact ⟨_, rfl, run (keeps_serve_of keeps_serveClearCounters s)⟩
  | setPort p => exact ⟨_, rfl, run (keeps_serve_of keeps_serveSetPort s)⟩
  | readHub p => exact ⟨_, rfl, run (keeps_serve_read (fun _ _ => rfl) s)⟩
  | setHub p => exact ⟨_, rfl, run (keeps_serve_of keeps_serveSetHub s)⟩
  | unknownRequest p =>
    refine ⟨_, rfl, run ?_⟩
    unfold serveUnknown
    split
    · exact .refl s
    · exact .ite (fun _ => ((unitsStand_modControl _ _ _).trans (unitsStand_modControl _ _ _)).keeps) fun _ => .refl s
  | readChannels p => exact ⟨_, rfl, run (keeps_serve_read serveReadChannels_state s)⟩
  | readCards p => exact ⟨_, rfl, run (keeps_serve_read (fun _ _ => rfl) s)⟩
  | setGain p => exact ⟨_, rfl, run (keeps_serve_of (keeps_serveGain p) s)⟩
  | stepGain p => exact ⟨_, rfl, run (keeps_serve_of (keeps_serveStep p) s)⟩
  | setPad p => exact ⟨_, rfl, run (keeps_serve_of (keeps_servePad p) s)⟩
  | setAuthority p => exact ⟨_, rfl, run (keeps_serve_of (keeps_serveAuthority p) s)⟩
  | setPhantom p => exact ⟨_, rfl, run (keeps_serve_of (keeps_servePhantom p) s)⟩
  | setTrim p => exact ⟨_, rfl, run (keeps_serve_of (keeps_serveTrim p) s)⟩
  | setTracking p => exact ⟨_, rfl, run (keeps_serve_of (keeps_serveTracking p) s)⟩
  | armNotices p => exact ⟨_, rfl, run (keeps_serve_agree (agree_serveArm p) s rfl)⟩
  | readMeters p => exact ⟨_, rfl, run (keeps_serve_agree (agree_serveMeters p) s rfl)⟩
  | setPlan p => exact ⟨_, rfl, run (keeps_serve_of (fun m t => (unitsStand_servePlan p m t).keeps) s)⟩
  | readPlan p => exact ⟨_, rfl, run (keeps_serve_read serveReadPlan_state s)⟩
  | patchOutput p => exact ⟨_, rfl, run (keeps_serve_of (keeps_servePatch p) s)⟩
  | setOutput p => exact ⟨_, rfl, run (keeps_serve_of (keeps_serveSetOutput p) s)⟩
  | readOutputs p => exact ⟨_, rfl, run (keeps_serve_read serveReadOutputs_state s)⟩
  | talkOn p => exact ⟨_, rfl, run (keeps_serve_of (keeps_serveTalkOn p) s)⟩
  | talkOff p => exact ⟨_, rfl, run (keeps_takeImmediate (fun _ t => (offers_removeClaim p .released t).keeps) s)⟩
  | readTalk p => exact ⟨_, rfl, run (keeps_serve_read (fun _ _ => rfl) s)⟩
  | propose p => exact ⟨_, rfl, run (keeps_serve_of (keeps_servePropose p) s)⟩
  | object p => exact ⟨_, rfl, run (keeps_takeImmediate (keeps_serveObject p) s)⟩
  | withdraw p => exact ⟨_, rfl, run (keeps_serve_of (keeps_serveWithdraw p) s)⟩
  | readConsent p => exact ⟨_, rfl, run (keeps_serve_read (fun _ _ => rfl) s)⟩
  | poll => exact ⟨_, rfl, run ((agree_startPoll s).keeps rfl)⟩
  | write => exact ⟨_, rfl, run ((agree_startWrite s).keeps rfl)⟩
  | phantomOffAll => exact ⟨_, rfl, run ((agree_startPhantomOffAll s).keeps rfl)⟩
  | setRate => exact ⟨_, rfl, run ((agree_startSetRate s).keeps rfl)⟩
  | broadcastEnd => exact ⟨_, rfl, run ((agree_endBroadcast s).keeps rfl)⟩
  | pollReply k d =>
    refine ⟨_, rfl, run ?_⟩
    unfold pollReplied
    split
    · exact .ite (fun _ => (offers_takePollReply k d s).keeps) fun _ => .refl s
    · exact .refl s
  | writeAck k c => exact ⟨_, rfl, run ((agree_writeAcked k c s).keeps rfl)⟩
  | transactionTimeout =>
    refine ⟨_, rfl, run ?_⟩
    unfold transactionTimedOut
    split
    · exact .ite (fun _ => (offers_timeOut _ _ s).keeps) fun _ => .refl s
    · exact .ite (fun _ => (offers_timeOut _ _ s).keeps) fun _ => .refl s
    · exact .refl s
  | applicationDue c => exact ⟨_, rfl, run (offers_applicationDue c s).keeps⟩
  | coefficientRampEnd p c => exact ⟨_, rfl, run ((agree_modDesk p c _ s).keeps rfl)⟩
  | ramped c => exact ⟨_, rfl, run (offers_endFrom _ c s).keeps⟩
  | settled c => exact ⟨_, rfl, run (offers_endFrom _ c s).keeps⟩
  | discharged c => exact ⟨_, rfl, run (offers_endFrom _ c s).keeps⟩
  | rateMuteEnd => exact ⟨_, rfl, run (.ite (fun _ _ => .of_stand ⟨rfl, rfl, rfl⟩) fun _ => .refl s)⟩
  | delayExpired o => exact ⟨_, rfl, run (offers_expireDelay o s).keeps⟩
  | crossfadeEnd o => exact ⟨_, rfl, run ((agree_modOutput o _ s).keeps rfl)⟩
  | dimRampEnd o => exact ⟨_, rfl, run ((agree_modOutput o _ s).keeps rfl)⟩
  | talkTimedOut => exact ⟨_, rfl, run (offers_testHead s).keeps⟩
  | stageTalkTaken => exact ⟨_, rfl, run (offers_stageTaken s).keeps⟩
  | consentWindowExpired => exact ⟨_, rfl, run (keeps_testWindow s)⟩
  | quietTimerExpired => exact ⟨_, rfl, run ((agree_startWriting s).keeps rfl)⟩
  | retainedWriteEnd => exact ⟨_, rfl, run ((agree_modRetained _ s).keeps rfl)⟩

/-! ### Power-on (R14, R165, R166) -/

/-- A report is offered to no one while no desk is present (R50). -/
theorem post_of_absent {r : Report} {s : State} (h : ∀ q, (s.portState q).present = false) : post r s = s := by
  have e : s.ports.each (fun u => if u.record.state.present then { u with control := u.control.offer r } else u) =
      s.ports := Bank.ext_get fun q => by
    rw [Bank.get_each, if_neg]
    exact Bool.eq_false_iff.1 (h q)
  unfold post
  rw [e]

/-- A lane that has light seeks at power-on (R14). -/
def Lane.lit (l : Lane) : Lane := if l.lossOfLight then l else l.seek

/-- A port whose lanes that have light seek. -/
def PortUnit.lit (u : PortUnit) : PortUnit := { u with lanes := { a := u.lanes.a.lit, b := u.lanes.b.lit } }

/-- A DARK lane of a hub without desks that enters SEEKING moves nothing but the lane. -/
theorem laneEvent_seek_of_vacant {p : Port} {n : LaneName} {why : LaneReason} {s : State}
    (hv : ∀ q, s.portState q = .vacant) (hd : (s.lane p n).state = .dark) :
    laneEvent p n why Lane.seek s = modLane p n Lane.seek s := by
  have up (m : LaneName) : ((s.port p).lanes.put n ((s.port p).lanes.get n).seek).isUp m = (s.port p).lanes.isUp m := by
    have hd : ((s.port p).lanes.get n).state = .dark := hd
    rw [Bool.eq_iff_iff, Lanes.isUp_iff, Lanes.isUp_iff, lanes_get_put]
    split
    · next h => subst h; simp [Lane.seek, hd]
    · rfl
  have stays : activeAfter (s.port p).lanes ((s.port p).lanes.put n ((s.port p).lanes.get n).seek) (s.port p).merge n =
      (s.port p).merge.active := by
    rw [activeAfter, if_neg fun h => h.2.1 (up n ▸ h.1), if_neg fun h => h.1 (up n ▸ h.2.1)]
  have moved : modPort p (PortUnit.laneMoved n Lane.seek) s = modLane p n Lane.seek s :=
    modPort_congr (by simp only [PortUnit.laneMoved, stays])
  have absent (q : Port) : ((modLane p n Lane.seek s).portState q).present = false := by
    have e : (modLane p n Lane.seek s).portState q = .vacant := by
      rw [State.portState, modLane_port_record]; exact hv q
    rw [e]; rfl
  have posted (m : LaneName) (w : LaneReason) : postLane p m w (modLane p n Lane.seek s) = modLane p n Lane.seek s :=
    post_of_absent absent
  rw [laneEvent_eq, moved, posted, posted, ite_self]
  unfold lanesChanged
  rw [if_pos]
  rw [modLane_port, if_pos rfl]
  simp only [Lanes.anyUp, up]

theorem seekIfLit_eq {p : Port} {n : LaneName} {s : State} (hv : ∀ q, s.portState q = .vacant)
    (hd : (s.lane p n).state = .dark) : seekIfLit p n s = modLane p n Lane.lit s := by
  unfold seekIfLit lightReturned
  rw [if_pos hd, laneEvent_seek_of_vacant hv hd]
  have e (f : Lane → Lane) (h : f (s.lane p n) = (s.lane p n).lit) : modLane p n f s = modLane p n Lane.lit s :=
    modPort_congr (by rw [show f ((s.port p).lanes.get n) = _ from h]; rfl)
  split
  · next hl =>
    rw [← e id (by simp [Lane.lit, hl])]
    refine (modPort_eq_self ?_).symm
    cases n <;> rfl
  · next hl => exact e _ (by simp [Lane.lit, hl])

/-- Both lanes of a port at power-on. -/
theorem seekIfLit_both {p : Port} {s : State} (hv : ∀ q, s.portState q = .vacant)
    (hd : ∀ n, (s.lane p n).state = .dark) : (s |> seekIfLit p .A |> seekIfLit p .B) = modPort p PortUnit.lit s := by
  have ha := seekIfLit_eq (p := p) (n := .A) hv (hd .A)
  have hv' : ∀ q, (modLane p .A Lane.lit s).portState q = .vacant := fun q => by
    rw [State.portState, modLane_port_record]; exact hv q
  have hb : ((modLane p .A Lane.lit s).lane p .B).state = .dark := by
    rw [State.lane, modLane_port, if_pos rfl]; exact hd .B
  rw [ha, seekIfLit_eq hv' hb]
  exact modPort_modPort _ _ _ _

/-- At power-on, with every port VACANT and every lane DARK, the lanes that have light seek and nothing else moves. -/
theorem seekLit_eq {s : State} (hv : ∀ q, s.portState q = .vacant) (hd : ∀ q n, (s.lane q n).state = .dark) :
    seekLit s = { s with ports := s.ports.each PortUnit.lit } := by
  have stays {p q : Port} (hpq : p ≠ q) (t : State) : (modPort p PortUnit.lit t).port q = t.port q := modPort_port_ne hpq _ _
  have vacant {t : State} (p : Port) (h : ∀ q, t.portState q = .vacant) (q : Port) :
      (modPort p PortUnit.lit t).portState q = .vacant := by
    rw [State.portState, modPort_port]
    split
    · next e => subst e; exact h p
    · exact h q
  have e : seekLit s = modPort 2 PortUnit.lit (modPort 1 PortUnit.lit (modPort 0 PortUnit.lit s)) := by
    show (forEach (fun p s => s |> seekIfLit p .A |> seekIfLit p .B) [0, 1, 2] s) = _
    simp only [forEach_cons, forEach_nil]
    rw [seekIfLit_both hv (hd 0), seekIfLit_both (vacant 0 hv), seekIfLit_both (vacant 1 (vacant 0 hv))]
    · intro n; rw [State.lane, stays (by decide), stays (by decide)]; exact hd 2 n
    · intro n; rw [State.lane, stays (by decide)]; exact hd 1 n
  rw [e]
  simp only [modPort]
  congr 1
  refine Bank.ext_get fun i => ?_
  rw [Bank.get_each]
  fin_cases i <;> simp [Bank.get_modify]

/-- Power-on with the reset input released sets the state of R166, the lanes that have light seeking. -/
theorem powerOn_released {s : State} (h : s.resetInput = false) :
    powerOn s = { powerOnState { s with retained := s.retained.cut } with
      ports := s.ports.each fun u => u.poweredOn.lit } := by
  have port (q : Port) : (powerOnState { s with retained := s.retained.cut }).port q = (s.port q).poweredOn :=
    Bank.get_each _ _ _
  have e : powerOn s = seekLit (powerOnState { s with retained := s.retained.cut }) := if_neg (by rw [h]; decide)
  rw [e, seekLit_eq]
  · congr 1
    refine Bank.ext_get fun q => ?_
    rw [Bank.get_each, Bank.get_each]
    exact congrArg PortUnit.lit (port q)
  · intro q; rw [State.portState, port]; rfl
  · intro q n; rw [State.lane, port]; cases n <;> rfl

/-- A lane that has light is lawful at power-on once it seeks; without light it is DARK. -/
theorem poweredOn_lit_lawful (l : Lane) : l.poweredOn.lit.lawful ∧ l.poweredOn.lit.state ≠ .up ∧ l.poweredOn.lit.waitsInRange := by
  cases h : l.lossOfLight <;>
    simp [Lane.lit, Lane.poweredOn, Lane.reset, Lane.seek, h, Lane.lawful, Lane.waitsInRange]

/-- A port's unit as power-on leaves it, held or not, obeys the laws of its record and its merge buffer; with its lanes seeking
it obeys that of the lanes too. -/
theorem poweredOn_lawful (u : PortUnit) :
    (u.poweredOn.record.lawfulFor u.poweredOn.lanes.anyUp ∧
      u.poweredOn.merge.lawful ∧ ∀ n, (u.poweredOn.lanes.get n).waitsInRange) ∧
    u.poweredOn.lit.record.lawfulFor u.poweredOn.lit.lanes.anyUp ∧
      (u.poweredOn.lit.merge.lawful ∧ ∀ n, (u.poweredOn.lit.lanes.get n).waitsInRange) ∧
      u.poweredOn.lit.lanes.a.lawful ∧ u.poweredOn.lit.lanes.b.lawful := by
  have record : u.poweredOn.record.lawfulFor false := by simp [PortRecord.lawfulFor, PortUnit.poweredOn, PortUnit.reset]
  obtain ⟨la, ua, wa⟩ := poweredOn_lit_lawful u.lanes.a
  obtain ⟨lb, ub, wb⟩ := poweredOn_lit_lawful u.lanes.b
  have none : u.poweredOn.lit.lanes.anyUp = false := by
    rw [Lanes.anyUp, Bool.or_eq_false_iff, Bool.eq_false_iff, Bool.eq_false_iff]
    exact ⟨fun h => ua ((Lanes.isUp_iff _ _).1 h), fun h => ub ((Lanes.isUp_iff _ _).1 h)⟩
  refine ⟨⟨record, Merge.lawful_reset, fun n c hc => ?_⟩, none ▸ record, ⟨Merge.lawful_reset, fun n => ?_⟩, la, lb⟩
  · cases n <;> cases hc
  · cases n
    · exact wa
    · exact wb

/-! ### Steps -/

/-- What a step keeps of the laws of lanes, ports, power and merge buffers. -/
structure KeepsLaws (s t : State) : Prop where
  lane : LaneLaw s → LaneLaw t
  port : PortLaw s → PortLaw t
  merge : MergeLaw s → MergeLaw t
  power : PowerLaw s → PowerLaw t

/-- The law of the merge buffers, port by port. -/
theorem mergeLaw_iff (s : State) :
    MergeLaw s ↔ ∀ p, (s.port p).merge.lawful ∧ ∀ n, ((s.port p).lanes.get n).waitsInRange :=
  forall_congr' fun _ => ⟨fun ⟨h1, h7, hn, he, hf⟩ => ⟨⟨h1, h7, hn, he⟩, hf⟩,
    fun ⟨⟨h1, h7, hn, he⟩, hf⟩ => ⟨h1, h7, hn, he, hf⟩⟩

theorem KeepsUnits.keepsLaws {s t : State} (h : KeepsUnits s t) (hp : t.power = s.power)
    (hr : t.resetInput = s.resetInput) : KeepsLaws s t where
  lane hl ht p := (h p).lanes (hl (hp ▸ ht) p)
  port hl p := (h p).record (hl p)
  merge hl := (mergeLaw_iff t).2 fun p => (h p).merge ((mergeLaw_iff s).1 hl p)
  power hl := by simpa only [PowerLaw, hp, hr] using hl

theorem KeepsLaws.refl (s : State) : KeepsLaws s s := ⟨id, id, id, id⟩

theorem KeepsLaws.trans {s t u : State} (h : KeepsLaws s t) (k : KeepsLaws t u) : KeepsLaws s u :=
  ⟨k.lane ∘ h.lane, k.port ∘ h.port, k.merge ∘ h.merge, k.power ∘ h.power⟩

/-- Outside running, the lane law asks nothing, and the other laws see neither the pins nor the power. -/
theorem keepsLaws_of_stopped {s t : State} (h : UnitsStand s t) (ht : t.power ≠ .running)
    (hp : PowerLaw s → PowerLaw t) : KeepsLaws s t where
  lane _ hr := absurd hr ht
  port hl p := (h.keeps p).record (hl p)
  merge hl := (mergeLaw_iff t).2 fun p => (h.keeps p).merge ((mergeLaw_iff s).1 hl p)
  power := hp

/-- With the hub stopped, the pin of a lane is followed and nothing else (R167). -/
theorem keepsLaws_setLossPin {p : Port} {n : LaneName} {loss : Bool} {s : State} (hs : s.power ≠ .running) :
    KeepsLaws s (setLossPin p n loss s) where
  lane _ hr := absurd hr hs
  port hl q := by
    show ((setLossPin p n loss s).port q).record.lawfulFor ((setLossPin p n loss s).port q).lanes.anyUp
    have lanes : ((setLossPin p n loss s).port q).lanes.anyUp = (s.port q).lanes.anyUp := by
      rw [setLossPin, modLane_port]
      split
      · next h => subst h; exact Lanes.anyUp_put rfl
      · rfl
    rw [lanes, setLossPin, modLane_port_record]
    exact hl q
  merge hl := (mergeLaw_iff _).2 fun q => by
    obtain ⟨hm, hw⟩ := (mergeLaw_iff s).1 hl q
    refine ⟨by rwa [setLossPin, modLane_port_merge], fun m => ?_⟩
    rw [setLossPin, modLane_port]
    split
    · next h =>
      subst h
      rw [lanes_get_put]
      split
      · next e => exact fun c hc => hw n c hc
      · exact hw m
    · exact hw m
  power hl := hl

/-- The laws hold after a power-on whatever the state was. -/
theorem powerOn_laws (s : State) :
    LaneLaw (powerOn s) ∧ PortLaw (powerOn s) ∧ MergeLaw (powerOn s) ∧ PowerLaw (powerOn s) := by
  obtain ⟨hr, hp⟩ := powerOn_power s
  have power : PowerLaw (powerOn s) := by
    rw [PowerLaw, hr, hp]
    cases s.resetInput <;> simp
  cases h : s.resetInput
  · have port (q : Port) : (powerOn s).port q = (s.port q).poweredOn.lit := by
      rw [powerOn_released h]; exact Bank.get_each _ _ _
    have lawful (q : Port) := (poweredOn_lawful (s.port q)).2
    simp only [← port] at lawful
    exact ⟨fun _ q => (lawful q).2.2, fun q => (lawful q).1, (mergeLaw_iff _).2 fun q => (lawful q).2.1, power⟩
  · have port (q : Port) : (powerOn s).port q = (s.port q).poweredOn := by
      rw [show powerOn s = holdReset (powerOnState { s with retained := s.retained.cut }) from if_pos h]
      exact Bank.get_each _ _ _
    have lawful (q : Port) := (poweredOn_lawful (s.port q)).1
    simp only [← port] at lawful
    refine ⟨fun hr => ?_, fun q => (lawful q).1, (mergeLaw_iff _).2 fun q => (lawful q).2, power⟩
    rw [hp, h] at hr
    cases hr

theorem keepsLaws_powerOn (s t : State) : KeepsLaws s (powerOn t) := by
  obtain ⟨lane, port, merge, power⟩ := powerOn_laws t
  exact ⟨fun _ => lane, fun _ => port, fun _ => merge, fun _ => power⟩

theorem keepsLaws_powerOnReset (cause : ResetCause) (s : State) : KeepsLaws s (powerOnReset cause s) := by
  cases cause with
  | supplies => exact keepsLaws_powerOn s s
  | release =>
    show KeepsLaws s (releaseReset s)
    unfold releaseReset
    split
    · dsimp only
      split
      · next h =>
        have off : s.power ≠ .running := by simp [show s.power = .off from h]
        exact keepsLaws_of_stopped (fun _ => ⟨rfl, rfl, rfl⟩) off fun _ => ⟨fun _ => rfl, by simp [show s.power = .off from h]⟩
      · exact keepsLaws_powerOn s _
    · exact .refl s

theorem keepsLaws_takeReset (s : State) : KeepsLaws s (takeReset s) := by
  obtain ⟨hr, hp⟩ := takeReset_power s
  have stopped : (takeReset s).power ≠ .running := by rw [hp]; split <;> simp
  exact keepsLaws_of_stopped ((agree_takeReset s).unitsStand rfl) stopped fun _ => ⟨fun h => absurd h stopped, fun _ => hr⟩

theorem keepsLaws_assertReset (pulse : ResetPulse) (s : State) : KeepsLaws s (assertReset pulse s) := by
  have read : KeepsLaws s { s with freeReads := s.freeReads + 1 } :=
    KeepsUnits.keepsLaws (fun _ => .of_stand ⟨rfl, rfl, rfl⟩) rfl rfl
  cases pulse with
  | full => exact keepsLaws_takeReset s
  | short =>
    unfold assertReset
    dsimp only
    split
    · exact read.trans (keepsLaws_takeReset _)
    · exact read

theorem keepsLaws_losePower (s : State) : KeepsLaws s (losePower s) :=
  keepsLaws_of_stopped ((agree_losePower s).unitsStand rfl) (by simp [losePower]) fun _ => ⟨by simp [losePower], by simp [losePower]⟩

/-- Every command keeps the laws of lanes, ports, power and merge buffers. -/
theorem exec_keepsLaws {c : Instr} {s t : State} (h : exec c s = .next t) : KeepsLaws s t := by
  have same {u : State} (e : exec c s = .next u) : t = u := by rw [h] at e; injection e
  by_cases h1 : ∃ x, c = .powerOnReset x
  · obtain ⟨x, rfl⟩ := h1
    rw [same rfl]
    exact keepsLaws_powerOnReset x s
  by_cases h2 : ∃ x, c = .resetInputAssert x
  · obtain ⟨x, rfl⟩ := h2
    rw [same rfl]
    exact keepsLaws_assertReset x s
  by_cases h3 : c = .powerLoss
  · subst h3
    rw [same rfl]
    exact keepsLaws_losePower s
  rw [not_exists] at h1 h2
  by_cases hr : s.power = .running
  · obtain ⟨u, eu, hu⟩ := exec_keepsUnits hr h1
    obtain ⟨v, ev, hv⟩ := exec_agree c s
    rw [same eu] at *
    obtain rfl : v = u := by rw [eu] at ev; injection ev with e; exact e.symm
    have outside : Part.power ∉ footprint c ∧ Part.resetInput ∉ footprint c := by
      cases c
      case powerOnReset x => exact absurd rfl (h1 x)
      case resetInputAssert x => exact absurd rfl (h2 x)
      case powerLoss => exact absurd rfl h3
      all_goals dsimp only [footprint]; decide
    exact hu.keepsLaws (hv .power outside.1) (hv .resetInput outside.2)
  · by_cases h4 : ∃ p n, c = .lightLost p n
    · obtain ⟨p, n, rfl⟩ := h4
      rw [same (congrArg Host.Outcome.next (whenRunning_ne (s := setLossPin p n true s) hr _))]
      exact keepsLaws_setLossPin hr
    by_cases h5 : ∃ p n, c = .lightReturned p n
    · obtain ⟨p, n, rfl⟩ := h5
      rw [same (congrArg Host.Outcome.next (whenRunning_ne (s := setLossPin p n false s) hr _))]
      exact keepsLaws_setLossPin hr
    simp only [not_exists] at h4 h5
    obtain ⟨f, hf⟩ := exec_whenRunning h1 h2 h3 h4 h5
    rw [same (hf s), whenRunning_ne hr]
    exact .refl s

theorem step_keepsLaws {s t : State} (h : step s = .next t) : KeepsLaws s t := by
  unfold step at h
  split at h
  · injection h with e
    exact e ▸ .refl s
  · next c rest _ =>
    have queue : KeepsLaws s { s with pending := rest } := KeepsUnits.keepsLaws (fun _ => .of_stand ⟨rfl, rfl, rfl⟩) rfl rfl
    exact queue.trans (exec_keepsLaws h)

/-- Settles O10, from what every command keeps of the units of the ports. -/
theorem stepKeepsLaneAndPortLaws : Obligations.StepKeepsLaneAndPortLaws :=
  fun _ _ h => ⟨(step_keepsLaws h).lane, (step_keepsLaws h).port, (step_keepsLaws h).power⟩

/-- Settles O11, from what every command keeps of the units of the ports. -/
theorem stepKeepsMergeLaw : Obligations.StepKeepsMergeLaw := fun _ _ hm h => (step_keepsLaws h).merge hm

end Sys2Proof.Machine
end

section
/-! PROOF. The lane units: settles O18, O20, O21, O22 and O19. -/

namespace Sys2Proof.Machine

/-! ### Light (O18) -/

/-- Settles O18, from what an event of a lane does to the lane and makes heard. -/
theorem lightMovesTheLane : Obligations.LightMovesTheLane := by
  intro p n s hr
  have run (loss : Bool) (f : State → State) : whenRunning f (setLossPin p n loss s) = f (setLossPin p n loss s) :=
    whenRunning_eq (s := setLossPin p n loss s) hr f
  have lane (loss : Bool) : (setLossPin p n loss s).lane p n = { s.lane p n with lossOfLight := loss } :=
    setLossPin_lane p n loss s
  have lost : exec (.lightLost p n) s = .next (lightLost p n (setLossPin p n true s)) := congrArg Host.Outcome.next (run _ _)
  have back : exec (.lightReturned p n) s = .next (lightReturned p n (setLossPin p n false s)) :=
    congrArg Host.Outcome.next (run _ _)
  refine ⟨fun hd => ?_, fun hd => ?_, fun hd => ?_, fun hd => ?_⟩
  · have e : lightLost p n (setLossPin p n true s) = laneEvent p n .lightLost Lane.darken (setLossPin p n true s) :=
      if_neg (by rwa [lane])
    refine ⟨_, lost.trans (congrArg _ e), ?_, ?_, ?_⟩
    · rw [laneEvent_lane, lane]; rfl
    · rw [laneEvent_merge]
      show ((setLossPin p n true s).port p).merge.entries = _
      rw [setLossPin, modLane_port_merge]
    · exact posted_laneEvent p n .lightLost Lane.darken _
  · exact lost.trans (congrArg _ (if_pos (by rwa [lane])))
  · have e : lightReturned p n (setLossPin p n false s) = laneEvent p n .lightReturned Lane.seek (setLossPin p n false s) :=
      if_pos (by rwa [lane])
    refine ⟨_, back.trans (congrArg _ e), ?_⟩
    rw [laneEvent_lane, lane]
    refine ⟨rfl, rfl, rfl, rfl, rfl, rfl, ?_⟩
    have h := posted_laneEvent p n .lightReturned Lane.seek (setLossPin p n false s)
    rwa [lane] at h
  · exact back.trans (congrArg _ (if_neg (by rwa [lane])))

/-! ### Frames and sync (O19, O20) -/

theorem upSync_iff (b : UpBytes) : upSync b = true ↔ b.get 0 = 0xA7 ∧ b.get 1 = 0xC5 := by simp [upSync]

/-- A lane unit that is not DARK takes an upstream frame with its sync pattern by its check (R3). -/
theorem upstreamFrame_of_sync {p : Port} {n : LaneName} {b : UpBytes} {s : State} (hd : (s.lane p n).state ≠ .dark)
    (h0 : b.get 0 = 0xA7) (h1 : b.get 1 = 0xC5) :
    upstreamFrame p n b s = if upCheckGood b then goodFrame p n (upCopy b) s else modLane p n Lane.badCheck s := by
  rw [upstreamFrame, if_neg hd, if_neg (by simp [(upSync_iff b).2 ⟨h0, h1⟩])]

theorem exec_upstreamFrame {p : Port} {n : LaneName} {b : UpBytes} {s : State} (hr : s.power = .running) :
    exec (.upstreamFrame p n b) s = .next (upstreamFrame p n b s) := congrArg Host.Outcome.next (whenRunning_eq hr _)

theorem exec_badSync {p : Port} {n : LaneName} {s : State} (hr : s.power = .running) :
    exec (.badSync p n) s = .next (badSync p n s) := congrArg Host.Outcome.next (whenRunning_eq hr _)

theorem badSync_lane {p : Port} {n : LaneName} {s : State} (h : (s.lane p n).synced = true) :
    (badSync p n s).lane p n = (s.lane p n).badSync := by
  rw [badSync, modLane_lane_same, if_pos h]

/-- A bad-sync result outside QUALIFYING (R6). -/
theorem Lane.badSync_outside {l : Lane} (hq : l.state ≠ .qualifying) (hy : l.synced = true) :
    l.badSync = { l with
      acquisition := if l.state = .seeking then 0 else l.acquisition,
      synced := if l.state = .seeking then false else true,
      fourth := if l.state = .seeking then none else l.fourth } := by
  obtain ⟨st, k⟩ := l
  cases st
  case qualifying => exact absurd rfl hq
  all_goals simp_all [Lane.badSync]

/-- A report of a lane's state leaves the lane. -/
theorem postLane_lane (p q : Port) (n m : LaneName) (why : LaneReason) (s : State) :
    (postLane p n why s).lane q m = s.lane q m := (offers_postLane p n why s).lane q m

theorem storeCopy_lane (p q : Port) (n m : LaneName) (c : Copy) (s : State) :
    (storeCopy p n c s).lane q m = s.lane q m := by
  rw [State.lane, storeCopy, modMerge_port_lanes]; rfl

/-- What an entry holds once a lane's copy has been stored in it (R15). -/
theorem Entry.store_eq (n : LaneName) (c : Copy) (e : Entry) :
    e.store n c =
      { seq := some c.echo,
        a := if n = .A then some c else if e.seq = some c.echo then e.a else none,
        b := if n = .B then some c else if e.seq = some c.echo then e.b else none } := by
  unfold Entry.store
  cases n <;> by_cases h : e.seq = some c.echo <;> simp [h]

/-- A copy stored on a state with the merge buffer of s is stored from s on. -/
theorem stored_storeCopy {p : Port} {n : LaneName} {c : Copy} {s t : State} (h : (t.port p).merge = (s.port p).merge) :
    Stored p n c s (storeCopy p n c t) := by
  have e : ((storeCopy p n c t).port p).merge =
      { (s.port p).merge with entries := (s.port p).merge.entries.modify (Fin.ofNat 8 c.echo) (Entry.store n c) } := by
    rw [storeCopy, modMerge_port, if_pos rfl, h]
  refine ⟨by rw [e], fun i => ?_⟩
  rw [e, Bank.get_modify, Entry.store_eq]
  by_cases hi : i = Fin.ofNat 8 c.echo
  · subst hi; rw [if_pos rfl]
  · rw [if_neg hi, if_neg (Ne.symm hi)]

/-- LANE STATE as the lane stands has been heard (R13). -/
theorem posted_postLane (p : Port) (n : LaneName) (why : LaneReason) (s : State) :
    Posted (.laneState p n (s.lane p n).state why (s.lane p n).lastLag (s.port p).merge.active) (postLane p n why s) :=
  posted_post (by simp [Report.key]) s

/-- The lag of an answer that arrives k hub frames after its frame was sent is k (R4). -/
theorem lagOf_add (i : Nat) {k : Nat} (hk : k < 65536) : lagOf (i + k) (i % 65536) = k := by
  unfold lagOf Config.seqMod
  omega

/-- A good frame in QUALIFYING leaves the lane in QUALIFYING with its run of bad-sync results ended (R7, R8). -/
theorem goodFrame_qualifying {p : Port} {n : LaneName} {c : Copy} {s : State} (hq : (s.lane p n).state = .qualifying) :
    goodFrame p n c s =
      if lagOf (frameNow s) c.echo ≤ (s.port p).merge.offset then
        storeCopy p n c (modLane p n (Lane.qualifyGood (lagOf (frameNow s) c.echo) c.echo) s)
      else if (s.lane p n).overBudget then modLane p n (Lane.qualifyLate (lagOf (frameNow s) c.echo) c.echo) s
      else postLane p n .overBudget (modLane p n (Lane.qualifyLate (lagOf (frameNow s) c.echo) c.echo) s) := by
  simp only [goodFrame, hq]

theorem goodFrame_up {p : Port} {n : LaneName} {c : Copy} {s : State} (hu : (s.lane p n).state = .up) :
    goodFrame p n c s =
      if lagOf (frameNow s) c.echo ≤ (s.port p).merge.offset then
        storeCopy p n c (modLane p n (Lane.upGood (lagOf (frameNow s) c.echo)) s)
      else modLane p n (Lane.upGood (lagOf (frameNow s) c.echo)) s := by
  simp only [goodFrame, hu]

theorem goodFrame_seeking {p : Port} {n : LaneName} {c : Copy} {s : State} (hs : (s.lane p n).state = .seeking) :
    goodFrame p n c s = modLane p n (Lane.seekGood (lagOf (frameNow s) c.echo) c) s := by
  simp only [goodFrame, hs]

/-- Settles O19, by the lane's state and the frame's check and lag. -/
theorem upstreamFrameIsJudged : Obligations.UpstreamFrameIsJudged := by
  intro p n b s hr hd h0 h1
  refine ⟨fun hy hq => ⟨_, exec_badSync hr, ?_⟩, _, exec_upstreamFrame hr, ?_⟩
  · rw [badSync_lane hy, Lane.badSync_outside hq hy]
  · rw [upstreamFrame_of_sync hd h0 h1]
    refine ⟨fun hc => ?_, fun hc hs => ?_, fun hc hs hl => ?_, fun hc hs hl => ?_, fun hc hs => ?_, rfl,
      fun i k hk => lagOf_add i hk⟩ <;> rw [hc]
    · rw [if_neg (by decide), modLane_lane_same]
      refine ⟨modLane_port_merge _ _ _ _ _, ?_⟩
      unfold Lane.badCheck satSucc
      cases h : (s.lane p n).state <;> simp_all
    · rw [if_pos rfl, goodFrame_seeking hs, modLane_lane_same]
      refine ⟨modLane_port_merge _ _ _ _ _, ?_⟩
      have fourth : 4 ≤ min 4 ((s.lane p n).acquisition + 1) ↔ 3 ≤ (s.lane p n).acquisition := by omega
      simp only [Lane.seekGood, satSucc, Config.acquireTarget, fourth]
    · rw [if_pos rfl, goodFrame_qualifying hs, if_pos hl]
      refine ⟨stored_storeCopy (modLane_port_merge _ _ _ _ _), ?_⟩
      rw [storeCopy_lane, modLane_lane_same, Lane.qualifyGood]
      cases (s.lane p n).reference <;> simp [Config.seqMod, eq_comm]
    · rw [if_pos rfl, goodFrame_qualifying hs, if_neg (by omega)]
      cases ho : (s.lane p n).overBudget
      · rw [if_neg (by decide)]
        refine ⟨((offers_postLane _ _ _ _).merge p).trans (modLane_port_merge _ _ _ _ _), ?_, fun _ => ?_⟩
        · rw [postLane_lane, modLane_lane_same]; rfl
        · have h := posted_postLane p n .overBudget (modLane p n (Lane.qualifyLate (lagOf (frameNow s) (upCopy b).echo) (upCopy b).echo) s)
          rw [modLane_lane_same, modLane_port_merge] at h
          simpa [Lane.qualifyLate, hs] using h
      · rw [if_pos rfl]
        refine ⟨modLane_port_merge _ _ _ _ _, ?_, fun h => absurd h (by decide)⟩
        rw [modLane_lane_same]; rfl
    · rw [if_pos rfl, goodFrame_up hs]
      refine ⟨?_, fun hl => ?_, fun hl => ?_⟩
      · split
        · rw [storeCopy_lane, modLane_lane_same]; rfl
        · rw [modLane_lane_same]; rfl
      · rw [if_pos hl]
        exact stored_storeCopy (modLane_port_merge _ _ _ _ _)
      · rw [if_neg (by omega)]
        exact modLane_port_merge _ _ _ _ _

/-- Settles O20, by the count of bad-sync results. -/
theorem badSyncsSendTheLaneBack : Obligations.BadSyncsSendTheLaneBack := by
  intro p n s hr hq
  have lost : exec (.syncLost p n) s = .next (syncLost p n s) := congrArg Host.Outcome.next (whenRunning_eq hr _)
  refine ⟨fun hy => ⟨_, exec_badSync hr, ?_⟩, fun b h0 h1 => ⟨_, exec_upstreamFrame hr, ?_⟩, fun hb => ?_, fun hb => ?_⟩
  · rw [badSync_lane hy, Lane.badSync]
    simp only [hq]
    rfl
  · rw [upstreamFrame_of_sync (by simp [hq]) h0 h1]
    split
    · rw [goodFrame_qualifying hq]
      split
      · rw [storeCopy_lane, modLane_lane_same]; exact ⟨hq, rfl⟩
      · split
        · rw [modLane_lane_same]; exact ⟨hq, rfl⟩
        · rw [postLane_lane, modLane_lane_same]; exact ⟨hq, rfl⟩
    · rw [modLane_lane_same, Lane.badCheck]
      simp [hq]
  · exact lost.trans (congrArg _ (if_neg fun h => absurd h.2 (by simpa [Config.badSyncTarget] using hb)))
  · have e : syncLost p n s = laneEvent p n .syncLost Lane.seek s := if_pos ⟨hq, hb⟩
    refine ⟨_, lost.trans (congrArg _ e), ?_⟩
    rw [laneEvent_lane]
    exact ⟨rfl, rfl, rfl, rfl, rfl, posted_laneEvent p n .syncLost Lane.seek s⟩

/-! ### Acquired, qualified, dropped (O21) -/

/-- ACQUIRED with its fourth good frame in hand (R6). -/
theorem acquired_eq {p : Port} {n : LaneName} {c : Copy} {s : State} (hs : (s.lane p n).state = .seeking)
    (ha : 4 ≤ (s.lane p n).acquisition) (hc : (s.lane p n).fourth = some c) :
    acquired p n s =
      if (s.port p).merge.offset < (s.lane p n).lastLag.getD 0 then
        postLane p n .overBudget (laneEvent p n .acquired (Lane.acquire c.echo true) s)
      else storeCopy p n c (laneEvent p n .acquired (Lane.acquire c.echo false) s) := by
  have due : (s.lane p n).state = .seeking ∧ Config.acquireTarget ≤ (s.lane p n).acquisition := ⟨hs, ha⟩
  simp only [acquired, hc, if_pos due]
  by_cases h : (s.port p).merge.offset < (s.lane p n).lastLag.getD 0 <;> simp [h]

/-- A lane event that leaves a lane as far from UP as it was leaves the merge buffer. -/
theorem laneEvent_merge_of_isUp {p : Port} {n : LaneName} {why : LaneReason} {f : Lane → Lane} {s : State}
    (h : (f (s.lane p n)).state = .up ↔ (s.lane p n).state = .up) :
    ((laneEvent p n why f s).port p).merge = (s.port p).merge := by
  have up : ((laneEvent p n why f s).port p).lanes.isUp n = (s.port p).lanes.isUp n := by
    rw [laneEvent_lanes, Bool.eq_iff_iff, Lanes.isUp_iff, Lanes.isUp_iff, lanes_get_put_same]
    exact h
  rw [laneEvent_merge, activeAfter, if_neg fun h => h.2.1 (up ▸ h.1), if_neg fun h => h.1 (up ▸ h.2.1)]

theorem acquire_isUp {p : Port} {n : LaneName} {s : State} (hs : (s.lane p n).state = .seeking) (echo : Nat) (late : Bool) :
    (Lane.acquire echo late (s.lane p n)).state = .up ↔ (s.lane p n).state = .up := by simp [Lane.acquire, hs]

/-- Settles O21, by the three events. -/
theorem lanesMoveWhenDue : Obligations.LanesMoveWhenDue := by
  intro p n s hr
  refine ⟨fun c hs ha hc => ?_, fun hq hm => ?_, fun hu hm => ?_⟩
  · have run : exec (.acquired p n) s = .next (acquired p n s) := congrArg Host.Outcome.next (whenRunning_eq hr _)
    rw [acquired_eq hs ha hc] at run
    have still (late : Bool) :
        ((laneEvent p n .acquired (Lane.acquire c.echo late) s).port p).merge = (s.port p).merge :=
      laneEvent_merge_of_isUp (acquire_isUp hs _ _)
    refine ⟨_, run, ?_⟩
    by_cases hl : (s.port p).merge.offset < (s.lane p n).lastLag.getD 0
    · rw [if_pos hl]
      refine ⟨?_, fun h => absurd h (by omega), fun _ => ⟨((offers_postLane _ _ _ _).merge p).trans (still true), ?_⟩⟩
      · rw [postLane_lane, laneEvent_lane]
        simp [Lane.acquire, hl]
      · have h := posted_postLane p n .overBudget (laneEvent p n .acquired (Lane.acquire c.echo true) s)
        rwa [laneEvent_lane, still] at h
    · rw [if_neg hl]
      refine ⟨?_, fun _ => ⟨stored_storeCopy (still false), ?_⟩, fun h => absurd h hl⟩
      · rw [storeCopy_lane, laneEvent_lane]
        simp [Lane.acquire, hl]
      · have h := posted_laneEvent p n .acquired (Lane.acquire c.echo false) s
        rw [still] at h
        exact h.still (stillHeard_modPort p id rfl)
  · have run : exec (.qualified p n) s = .next (qualify p n s) := congrArg Host.Outcome.next (whenRunning_eq hr _)
    have e : qualify p n s = laneEvent p n .qualified Lane.raise s :=
      if_pos ⟨hq, by unfold Settings.qualifyTarget Config.framesPerMs; omega⟩
    refine ⟨_, run.trans (congrArg _ e), ?_⟩
    rw [laneEvent_lane]
    exact ⟨rfl, posted_laneEvent p n .qualified Lane.raise s⟩
  · have run : exec (.laneDrop p n) s = .next (dropLane p n s) := congrArg Host.Outcome.next (whenRunning_eq hr _)
    have e : dropLane p n s = laneEvent p n .dropped (fun l => { l.seek with drops := satSucc 255 l.drops }) s :=
      if_pos ⟨hu, hm⟩
    refine ⟨_, run.trans (congrArg _ e), ?_⟩
    rw [laneEvent_lane]
    exact ⟨rfl, rfl, rfl, rfl, rfl, posted_laneEvent p n .dropped _ s⟩

end Sys2Proof.Machine
end

section
/-! PROOF. The active lane of a port: settles O22. -/

namespace Sys2Proof.Machine

/-- What an event of lane n of port p, from s to t, does to the other lane and the active one, and what it makes heard. -/
structure LaneFollowed (p : Port) (n : LaneName) (s t : State) : Prop where
  other : (t.port p).lanes.isUp n.other = (s.port p).lanes.isUp n.other
  active : (t.port p).merge.active = activeAfter (s.port p).lanes (t.port p).lanes (s.port p).merge n
  told : (t.port p).merge.active ≠ (s.port p).merge.active → (t.port p).merge.active = n.other →
    Posted (.laneState p n.other (s.lane p n.other).state .active (s.lane p n.other).lastLag n.other) t

/-- With a lane as far from UP as it was the active lane stands (R19). -/
theorem activeAfter_of_isUp {ls ms : Lanes} {n : LaneName} (h : ms.isUp n = ls.isUp n) (m : Merge) :
    activeAfter ls ms m n = m.active := by
  rw [activeAfter, if_neg fun k => k.2.1 (h ▸ k.1), if_neg fun k => k.1 (h ▸ k.2.1)]

theorem LaneFollowed.refl (p : Port) (n : LaneName) (s : State) : LaneFollowed p n s s :=
  ⟨rfl, (activeAfter_of_isUp rfl _).symm, fun h => absurd rfl h⟩

theorem laneEvent_followed (p : Port) (n : LaneName) (why : LaneReason) (f : Lane → Lane) (s : State) :
    LaneFollowed p n s (laneEvent p n why f s) where
  other := by rw [laneEvent_lanes]; exact Lanes.isUp_congr (by rw [lanes_get_put_other])
  active := congrArg Merge.active (laneEvent_merge p n why f s)
  told := posted_laneEvent_active

/-- What is made after a lane event and leaves the lanes, the active lane and what was heard. -/
theorem LaneFollowed.andThen {p : Port} {n : LaneName} {s t u : State} (h : LaneFollowed p n s t)
    (hl : (u.port p).lanes = (t.port p).lanes) (ha : (u.port p).merge.active = (t.port p).merge.active)
    (hh : ∀ st lag, StillHeard (.laneState p n.other st .active lag n.other) t u) : LaneFollowed p n s u where
  other := hl ▸ h.other
  active := by rw [ha, hl]; exact h.active
  told h1 h2 := (h.told (ha ▸ h1) (ha ▸ h2)).still (hh _ _)

/-- The pin of the lane is set before the event (R167). -/
theorem LaneFollowed.pinned {p : Port} {n : LaneName} {loss : Bool} {s t : State}
    (h : LaneFollowed p n (setLossPin p n loss s) t) : LaneFollowed p n s t := by
  have up (m : LaneName) : ((setLossPin p n loss s).port p).lanes.isUp m = (s.port p).lanes.isUp m := by
    rw [setLossPin, modLane_port, if_pos rfl]
    exact Lanes.isUp_congr (by rw [lanes_get_put]; split <;> simp_all)
  have merge : ((setLossPin p n loss s).port p).merge = (s.port p).merge := modLane_port_merge _ _ _ _ _
  have lane : (setLossPin p n loss s).lane p n.other = s.lane p n.other := by
    rw [State.lane, setLossPin, modLane_port, if_pos rfl]; exact lanes_get_put_other _ _ _
  refine ⟨h.other.trans (up _), ?_, fun h1 h2 => ?_⟩
  · rw [h.active, activeAfter, activeAfter]; simp only [up, merge]
  · have k := h.told (by rwa [merge]) h2
    rwa [lane] at k

theorem acquired_followed (p : Port) (n : LaneName) (s : State) : LaneFollowed p n s (acquired p n s) := by
  unfold acquired
  simp only
  split
  · exact .refl p n s
  · next c _ =>
    split
    · split
      · refine (laneEvent_followed p n .acquired _ s).andThen ((offers_postLane _ _ _ _).lanes p)
          (congrArg Merge.active ((offers_postLane _ _ _ _).merge p)) fun st lag => stillHeard_post ?_ _
        cases n <;> simp [Report.key, LaneName.other]
      · exact (laneEvent_followed p n .acquired _ s).andThen (modMerge_port_lanes _ _ _ _)
          (by rw [storeCopy, modMerge_port, if_pos rfl]) fun _ _ => stillHeard_modPort p id rfl
    · exact .refl p n s

/-- Each command of a lane makes one event of it, or none. -/
theorem laneCommands_followed {p : Port} {n : LaneName} {c : Instr} {s t : State} (hc : c ∈ laneCommands p n)
    (h : exec c s = .next t) : LaneFollowed p n s t := by
  have run {f : State → State} {u : State} (hf : LaneFollowed p n u (f u)) : LaneFollowed p n u (whenRunning f u) := by
    unfold whenRunning
    split
    · exact hf
    · exact .refl p n u
  have event {d : Prop} [Decidable d] (why : LaneReason) (f : Lane → Lane) (u : State) :
      LaneFollowed p n u (if d then laneEvent p n why f u else u) := by
    split
    · exact laneEvent_followed p n why f u
    · exact .refl p n u
  simp only [laneCommands, List.mem_cons, List.not_mem_nil, or_false] at hc
  rcases hc with rfl | rfl | rfl | rfl | rfl | rfl <;> injection h with e <;> subst e
  · exact (run (by rw [lightLost, ← ite_not]; exact event _ _ _)).pinned
  · exact (run (event _ _ _)).pinned
  · exact run (acquired_followed p n s)
  · exact run (event _ _ _)
  · exact run (event _ _ _)
  · exact run (event _ _ _)

theorem LaneName.eq_or_other (m n : LaneName) : m = n ∨ m = n.other := by cases m <;> cases n <;> simp [LaneName.other]

/-- Settles O22, from R19's cases in `activeAfter`. -/
theorem activeLaneFollowsTheLanes : Obligations.ActiveLaneFollowsTheLanes := by
  intro p n c s t hc h
  obtain ⟨other, active, told⟩ := laneCommands_followed hc h
  have cases := LaneName.eq_or_other (s.port p).merge.active n
  refine ⟨fun was now up => ?_, fun was now up => ?_, fun was now up pref => ?_, fun was now up => ?_, fun same => ?_, told⟩
  · obtain e | e := cases
    · rw [e] at was now up ⊢
      rw [active, activeAfter, if_pos ⟨was, by simp [now], e, up⟩]
    · rw [e, other] at now
      exact absurd (e ▸ was) (by simp [now])
  · rw [active, activeAfter, if_neg fun k => absurd k.1 (by simp [was])]
    by_cases e : (s.port p).merge.active = n
    · rw [if_neg fun k => k.2.2.1 e, e]
    · refine if_pos ⟨by simp [was], now, e, ?_⟩
      obtain h | h | h := up
      · exact .inl (by simp [h])
      · exact .inr h
      · exact absurd h e
  · rw [active, activeAfter, if_neg fun k => absurd k.1 (by simp [was]), if_neg]
    rintro ⟨-, -, -, k | k⟩
    · exact k up
    · exact pref k
  · rw [active, activeAfter, if_neg, if_neg fun k => k.1 was]
    rintro ⟨-, -, k, l⟩
    obtain h | h := up
    · exact h k
    · exact absurd l (by simp [h])
  · rw [active, activeAfter_of_isUp same]

end Sys2Proof.Machine
end

section
/-! PROOF. Served requests and their fields; the clock unit, power-on reset, and the ends of ramps, crossfades and mutes:
settles O24, O6 and O43. -/

namespace Sys2Proof.Machine

/-! ### Served requests -/

/-- An accepted request is answered with what its owner makes of it (R44, R47). -/
theorem exec_served {c : Instr} {p : Port} {kind : Byte} {m : Message} {owner : Message → State → Served} {s : State}
    (h : Accepted p kind m s) (hc : exec c s = .next (whenRunning (serve p kind owner) s)) :
    exec c s = .next (answered p m (owner m s).status (owner m s).steps (owner m s).result (owner m s).state) := by
  obtain ⟨⟨hr, -⟩, -⟩ := id h
  rw [hc, whenRunning_eq hr, serve_accepted p kind m owner s h, popRequest_pushReply]

/-- An accepted request whose owner refuses it changes nothing but the queues (R47). -/
theorem exec_refused {c : Instr} {p : Port} {kind : Byte} {m : Message} {owner : Message → State → Served} {s : State}
    {st : Status} (h : Accepted p kind m s) (hc : exec c s = .next (whenRunning (serve p kind owner) s))
    (ho : owner m s = refuse st s) : exec c s = .next (answered p m st 0 [] s) := by
  rw [exec_served h hc, ho]; rfl

/-! ### Fields of requests -/

@[simp] theorem ofNum_num {n : Nat} (i : Fin n) : ofNum n (num i) = some i := by simp [ofNum, num]

theorem ofNum_elim_num {n : Nat} (o : Option (Fin n)) : ofNum n (o.elim 0 num) = o := by
  cases o with
  | none => simp [ofNum]
  | some i => exact ofNum_num i

theorem ofNum_eq_none {n k : Nat} : ofNum n k = none ↔ k = 0 ∨ n < k := by
  unfold ofNum
  split <;> simp <;> omega

@[simp] theorem portOf_num (q : Port) : portOf (num q) = some q := ofNum_num q

theorem portOf_eq_none {k : Nat} : portOf k = none ↔ k = 0 ∨ 3 < k := ofNum_eq_none

/-! ### The clock (O24) -/

theorem posted_postClock (s : State) : Posted (.clockState s.clock.state s.settings.source) (postClock s) :=
  posted_post (by simp [Report.key]) s

/-- A SET HUB that names the clock source alone asks for that source and clamps nothing (R55). -/
theorem settingsGiven_source {b : List Byte} {h : Settings} {src : ClockSource} (hb : u16 b 0 = 256)
    (hs : sourceOf (u8 b 13) = some src) : settingsGiven b h = some ({ h with source := src }, false) := by
  have field (bit lo hi n now : Nat) (hbit : 256 / 2 ^ bit % 2 ≠ 1) : hubField b bit lo hi n now = (now, false) := by
    simp [hubField, hb, whenSet, hbit]
  have order : whenSet 256 5 (orderGiven b) = none := rfl
  have source : whenSet 256 8 (sourceOf (u8 b 13)) = some (some src) := hs ▸ rfl
  simp only [settingsGiven, hb, order, source, Option.getD_none, Option.getD_some, field 0 _ _ _ _ (by decide),
    field 1 _ _ _ _ (by decide), field 2 _ _ _ _ (by decide), field 3 _ _ _ _ (by decide), field 4 _ _ _ _ (by decide),
    field 6 _ _ _ _ (by decide), field 7 _ _ _ _ (by decide), field 9 _ _ _ _ (by decide), ofNum_elim_num, Bool.or_false]

/-- The settings in force, asked for again, change nothing. -/
theorem changeSettings_same (s : State) : changeSettings s.settings s = s := if_pos rfl

theorem whenChanged_same {α : Type} [DecidableEq α] {field : Settings → α} {old : Settings} {f : State → State} {s : State}
    (h : field s.settings = field old) : whenChanged field old f s = s := if_pos h.symm

theorem whenChanged_ne {α : Type} [DecidableEq α] {field : Settings → α} {old : Settings} {f : State → State} {s : State}
    (h : field s.settings ≠ field old) : whenChanged field old f s = f s := if_neg h.symm

/-- Of a change of the clock source alone HUB SETTING and the clock's own move are the whole effect (R23, R55). -/
theorem changeSettings_source {s : State} {src : ClockSource} (h : s.settings.source ≠ src) :
    changeSettings { s.settings with source := src } s =
      sourceChanged (post (.hubSetting { s.settings with source := src })
        { s with settings := { s.settings with source := src } }) := by
  have differ : s.settings ≠ { s.settings with source := src } := fun e => h (congrArg Settings.source e)
  have moved : whenChanged Settings.source s.settings sourceChanged (post (.hubSetting { s.settings with source := src })
      { s with settings := { s.settings with source := src } }) = sourceChanged (post (.hubSetting
        { s.settings with source := src }) { s with settings := { s.settings with source := src } }) := whenChanged_ne h.symm
  refine (if_neg differ).trans ?_
  dsimp only
  rw [whenChanged_same (field := Settings.qualifyTime), whenChanged_same (field := Settings.lossHold), moved,
    whenChanged_same (field := fun h => (h.rampTime, h.settleTime)), whenChanged_same (field := Settings.liveLimit),
    whenChanged_same (field := Settings.priority), whenChanged_same (field := Settings.stageChannel)]
  all_goals cases src <;> rfl

/-- A SET HUB of the clock source alone (R23, R55). -/
theorem serveSetHub_source {m : Message} {s : State} {src : ClockSource} (hb : u16 m.body 0 = 256)
    (hs : sourceOf (u8 m.body 13) = some src) :
    serveSetHub m s = taken .done [] (changeSettings { s.settings with source := src } s) := by
  have window : (changeSettings { s.settings with source := src } s).settings.consentWindow = s.settings.consentWindow := by
    by_cases h : s.settings.source = src
    · subst h; exact congrArg (fun t : State => t.settings.consentWindow) (changeSettings_same s)
    · rw [changeSettings_source h]; cases src <;> rfl
  have stays : whenChanged Settings.consentWindow s.settings testWindow
      (changeSettings { s.settings with source := src } s) = changeSettings { s.settings with source := src } s :=
    if_pos window.symm
  simp only [serveSetHub, settingsGiven_source hb hs, stays]
  rfl

/-- Settles O24, by the clock's state and the two clock sources. -/
theorem clockFollowsItsTable : Obligations.ClockFollowsItsTable := by
  intro s hr
  have edge : exec .wordclockEdge s = .next { s with clock := s.clock.edge } := congrArg Host.Outcome.next (whenRunning_eq hr _)
  have miss : exec .wordclockMissing s = .next { s with clock := s.clock.miss } :=
    congrArg Host.Outcome.next (whenRunning_eq hr _)
  have lock : exec .clockLocked s = .next (lockClock s) := congrArg Host.Outcome.next (whenRunning_eq hr _)
  have hold : exec .clockHoldover s = .next (holdoverClock s) := congrArg Host.Outcome.next (whenRunning_eq hr _)
  refine ⟨fun hc => ⟨?_, ?_, fun hk => ?_⟩, fun hc => ⟨?_, ?_, fun hk => ?_⟩, fun hc => ⟨?_, ?_⟩, fun p m ha hb h1 => ?_⟩
  · simp only [edge, Clock.edge, hc]; rfl
  · simp only [miss, Clock.miss, hc]
  · exact ⟨_, lock.trans (congrArg _ (if_pos ⟨hc, hk⟩)), rfl, posted_postClock _⟩
  · simp only [edge, Clock.edge, hc]
  · simp only [miss, Clock.miss, hc]; rfl
  · exact ⟨_, hold.trans (congrArg _ (if_pos ⟨hc, hk⟩)), rfl, posted_postClock _⟩
  · simp only [edge, Clock.edge, hc]
  · simp only [miss, Clock.miss, hc]
  · have served := exec_served ha (show exec (.setHub p) s = .next (whenRunning (serve p kindSetHub serveSetHub) s) from rfl)
    have code : u8 m.body 13 = 0 ∨ u8 m.body 13 = 1 := by omega
    obtain h0 | h1 := code
    · have given : sourceOf (u8 m.body 13) = some .internal := by rw [h0]; rfl
      rw [serveSetHub_source hb given] at served
      refine ⟨_, served, fun _ h => by omega, fun hw _ => ?_, fun h => ?_⟩
      · rw [changeSettings_source (by rw [hw]; decide)]
        exact ⟨rfl, posted_postClock _⟩
      · obtain ⟨hi, -⟩ | ⟨-, h⟩ := h
        · exact hi ▸ changeSettings_same s
        · omega
    · have given : sourceOf (u8 m.body 13) = some .wordclock := by rw [h1]; rfl
      rw [serveSetHub_source hb given] at served
      refine ⟨_, served, fun hi _ => ?_, fun _ h => by omega, fun h => ?_⟩
      · rw [changeSettings_source (by rw [hi]; decide)]
        exact ⟨rfl, posted_postClock _⟩
      · obtain ⟨-, h⟩ | ⟨hw, -⟩ := h
        · omega
        · exact hw ▸ changeSettings_same s

end Sys2Proof.Machine
end

section
/-! PROOF. Ramps and their ends, and power-on reset: settles O43 and O6. -/

namespace Sys2Proof.Machine

/-! ### Ramps (O43) -/

/-- The record of a ramp after some of its frames: the ramp has taken as many steps, and the coefficient is its value (R88). -/
theorem iterate_nextFrame {r : DeskRecord} {start target : Nat} (hr : r.ramp = some { start := start, target := target, steps := 0 })
    (hn : r.stepNext = none) {i : Nat} (hi : i ≤ 32) :
    (DeskRecord.nextFrame^[i] r).ramp = some { start := start, target := target, steps := i } ∧
      (DeskRecord.nextFrame^[i] r).stepNext = none ∧
      (1 ≤ i → (DeskRecord.nextFrame^[i] r).coefficient = (Ramp.mk start target i).value) := by
  induction i with
  | zero => exact ⟨hr, hn, fun h => absurd h (by decide)⟩
  | succ i ih =>
    obtain ⟨ramp, next, -⟩ := ih (by omega)
    have step : satSucc Config.rampSteps i = i + 1 := by unfold satSucc Config.rampSteps; omega
    have going : i < Config.rampSteps := by unfold Config.rampSteps; omega
    rw [Function.iterate_succ_apply']
    simp [DeskRecord.nextFrame, next, ramp, going, Ramp.advance, step]

/-- At step 32 a ramp has reached its target (R88). -/
theorem Ramp.value_last (start target : Nat) : (Ramp.mk start target 32).value = target := by
  have e : Int.tdiv (((target : Int) - start) * (32 : Nat)) 32 = (target : Int) - start := Int.mul_tdiv_cancel _ (by decide)
  show ((start : Int) + Int.tdiv (((target : Int) - start) * (32 : Nat)) 32).toNat = target
  rw [e]; omega

/-- Settles O43, from the ramp's value frame by frame and the rows that end what has run its count. -/
theorem rampsRunAndEnd : Obligations.RampsRunAndEnd := by
  refine ⟨fun r start target i hr hn h1 hi => ?_, fun s hs => ?_⟩
  · obtain ⟨-, -, value⟩ := iterate_nextFrame hr hn hi
    refine ⟨value h1, fun h => ?_⟩
    rw [value h1, h, Ramp.value_last]
  have run (f : State → State) : whenRunning f s = f s := whenRunning_eq hs f
  refine ⟨fun p c x hx h => ?_, fun o x hx h => ?_, fun o x hx h => ?_, fun p hm => ?_, fun hm => ?_⟩
  · refine ⟨modDesk p c DeskRecord.endRamp s, congrArg Host.Outcome.next (run _), ?_⟩
    rw [modDesk_desk_same]
    simp only [DeskRecord.endRamp, hx]
    exact if_pos h
  · refine ⟨modOutput o Output.endFade s, congrArg Host.Outcome.next (run _), ?_⟩
    rw [modOutput_output_same]
    simp only [Output.endFade, hx]
    exact if_pos h
  · refine ⟨modOutput o Output.endDim s, congrArg Host.Outcome.next (run _), ?_⟩
    rw [modOutput_output_same]
    simp only [Output.endDim, hx]
    exact if_pos h
  · refine ⟨modMerge p Merge.endMute s, congrArg Host.Outcome.next (run _), ?_⟩
    rw [modMerge_port, if_pos rfl]
    exact if_pos hm
  · exact congrArg Host.Outcome.next ((run _).trans (if_pos hm))

/-! ### Power-on (O6) -/

/-- What a write cut short leaves of the image's validity (R164). -/
theorem Retained.cut_valid (r : Retained) : r.cut.valid = (r.valid && r.write.isNone) := rfl

/-- The image of a store that has been cut already is cut no further. -/
theorem Retained.cut_cut (r : Retained) : r.cut.cut = r.cut := by simp [Retained.cut]

/-- The entry a channel takes at power-on: the image's, or the defaults (R166). -/
theorem restoredEntries_get (r : Retained) (c : Chan) :
    (restoredEntries r).get c = if r.valid then r.entries.get c else RetainedEntry.default := by
  unfold restoredEntries
  split
  · rfl
  · exact Bank.get_const _ _

/-- The state of R166 with the reset input released, the lanes that have light seeking. -/
def restarted (s : State) : State :=
  { powerOnState { s with resetInput := false, retained := s.retained.cut } with
    ports := s.ports.each fun u => u.poweredOn.lit }

theorem powerOn_eq_restarted (s : State) : powerOn { s with resetInput := false } = restarted s := powerOn_released rfl

theorem restarted_channel (s : State) (c : Chan) :
    (restarted s).channel c = restoredChannel ((restoredEntries s.retained.cut).get c) := Bank.get_each _ _ _

theorem restarted_phantomOf (s : State) (c : Chan) :
    (restarted s).phantomOf c = restoredPhantom ((restoredEntries s.retained.cut).get c) := Bank.get_each _ _ _

theorem restarted_port (s : State) (p : Port) : (restarted s).port p = (s.port p).poweredOn.lit := Bank.get_each _ _ _

theorem restarted_valid (s : State) : (restarted s).retained.valid = s.retained.cut.valid := by
  rw [← Retained.cut_cut]; rfl

theorem restarted_quiet (s : State) : (restarted s).retained.quiet = if s.retained.cut.valid then none else some 0 := rfl

/-- A lane at power-on: seeking where it has light, and otherwise DARK (R14). -/
theorem Lane.poweredOn_lit (l : Lane) :
    l.poweredOn.lit =
      { Lane.reset with state := if l.lossOfLight then .dark else .seeking, lossOfLight := l.lossOfLight } := by
  unfold Lane.lit Lane.poweredOn
  cases l.lossOfLight <;> rfl

/-- Settles O6, from the state that R166 sets and the light of the lanes. -/
theorem powerOnRestoresTheImage : Obligations.PowerOnRestoresTheImage := by
  intro s
  refine ⟨restarted s, congrArg Host.Outcome.next (powerOn_eq_restarted s), rfl, rfl, rfl, rfl, rfl, rfl, rfl, rfl, rfl, rfl,
    Bank.get_const _, rfl, restarted_valid s, rfl, rfl, ?_, fun c => ?_, ?_, Bank.get_const _, fun p n => ?_, fun p => ?_,
    Bank.get_tabulate _, fun p c => ?_, rfl, rfl, fun hi hp => ?_, fun hi hp => ?_, fun hi => ?_, fun hi => ?_⟩
  · rw [restarted_quiet, restarted_valid]
  · rw [restarted_channel, restarted_phantomOf, restarted_valid, restoredEntries_get,
      show s.retained.cut.entries = s.retained.entries from rfl]
    cases s.retained.cut.valid <;> exact ⟨rfl, rfl, rfl, rfl, rfl, rfl, rfl, rfl, rfl⟩
  · refine List.filter_congr fun c _ => ?_
    rw [restarted_channel]; rfl
  · rw [State.lane, restarted_port, State.lane]
    cases n <;> exact Lane.poweredOn_lit _
  · rw [restarted_port]
    exact ⟨rfl, rfl, rfl, rfl, rfl⟩
  · exact (congrArg (Bank.get · c) (Bank.get_const _ p)).trans (Bank.get_const _ c)
  · exact congrArg Host.Outcome.next ((if_pos hi).trans ((if_neg hp).trans (powerOn_eq_restarted s)))
  · exact congrArg Host.Outcome.next ((if_pos hi).trans (if_pos hp))
  · exact congrArg Host.Outcome.next (if_neg (by rw [hi]; decide))
  · refine ⟨holdReset (powerOnState { s with retained := s.retained.cut }), congrArg Host.Outcome.next (if_pos hi), rfl, hi,
      rfl, rfl, rfl, Bank.get_const _, rfl, rfl, rfl, Bool.and_true _, rfl⟩

end Sys2Proof.Machine
end

section
/-! PROOF. SET PORT: settles O25. -/

namespace Sys2Proof.Machine

/-! ### Reports of the lanes -/

/-- LANE STATE reports of two lanes of a port are of different subjects (R51). -/
theorem laneState_key_ne {q : Port} {n m : LaneName} (h : n ≠ m) {a b : LaneState} {v w : LaneReason} {x y : Option Nat}
    {c d : LaneName} : (Report.laneState q n a v x c).key ≠ (Report.laneState q m b w y d).key := by
  cases n <;> cases m <;> simp [Report.key] at h ⊢

theorem stillHeard_postLane {q : Port} {n m : LaneName} (h : n ≠ m) {st : LaneState} {why w : LaneReason} {lag : Option Nat}
    {active : LaneName} (s : State) : StillHeard (.laneState q n st why lag active) s (postLane q m w s) :=
  stillHeard_post (laneState_key_ne h) s

/-! ### Late lanes (R21) -/

theorem Lane.lateUnder_iff (offset : Nat) (l : Lane) :
    l.lateUnder offset = true ↔
      (l.state = .up ∨ l.state = .qualifying) ∧ l.lastLag.any (fun g => decide (offset < g)) = true := by
  unfold Lane.lateUnder
  cases l.lastLag <;> simp

theorem Lane.requalify_late {offset : Nat} {l : Lane} (h : l.lateUnder offset = true) :
    l.requalify offset = { l with state := .qualifying, qualify := 0, overBudget := true } := if_pos h

theorem Lane.requalify_inTime {offset : Nat} {l : Lane} (h : l.lateUnder offset = false) : l.requalify offset = l :=
  if_neg (by rw [h]; decide)

@[simp] theorem Lanes.requalify_get (offset : Nat) (ls : Lanes) (n : LaneName) :
    (ls.requalify offset).get n = (ls.get n).requalify offset := by cases n <;> rfl

/-- A lane that is UP once the late ones have returned was not late. -/
theorem Lane.inTime_of_up {offset : Nat} {l : Lane} (h : (l.requalify offset).state = .up) : l.lateUnder offset = false := by
  cases hl : l.lateUnder offset
  · rfl
  · rw [Lane.requalify_late hl] at h; cases h

/-! ### The return of the late lanes -/

/-- The active lane after the return of the late lanes (R19). -/
theorem requalified_active (offset : Nat) (u : PortUnit) :
    (u.requalified offset).merge.active =
      if u.lanes.isUp u.merge.active ∧ ¬ (u.lanes.requalify offset).isUp u.merge.active ∧
        (u.lanes.requalify offset).isUp u.merge.active.other then u.merge.active.other else u.merge.active := rfl

/-- A lane that becomes active at the return of the late lanes is UP, and was not late. -/
theorem requalified_active_up {offset : Nat} {u : PortUnit} (h : (u.requalified offset).merge.active ≠ u.merge.active) :
    (u.lanes.get (u.requalified offset).merge.active).lateUnder offset = false ∧
      (u.lanes.get (u.requalified offset).merge.active).state = .up := by
  rw [requalified_active] at h ⊢
  split_ifs at h ⊢ with hc
  · obtain ⟨-, -, up⟩ := hc
    rw [Lanes.isUp_iff, Lanes.requalify_get] at up
    have inTime := Lane.inTime_of_up up
    exact ⟨inTime, Lane.requalify_inTime inTime ▸ up⟩
  · exact absurd rfl h

section
variable (q : Port) (offset : Nat) (s : State)

/-- The reports of the late lanes, one after the other. -/
theorem postLate_eq (before : Lanes) :
    postLate q offset before s =
      (if before.b.lateUnder offset then
        postLane q .B .overBudget (if before.a.lateUnder offset then postLane q .A .overBudget s else s)
      else if before.a.lateUnder offset then postLane q .A .overBudget s else s) := rfl

theorem requalified_lane (n : LaneName) :
    (modPort q (PortUnit.requalified offset) s).lane q n = (s.lane q n).requalify offset := by
  rw [State.lane, modPort_port_same]; exact Lanes.requalify_get _ _ _

/-- LANE STATE of a late lane has been heard once the late lanes are reported. -/
theorem posted_postLate {n : LaneName} (h : (s.lane q n).lateUnder offset = true) :
    Posted (.laneState q n .qualifying .overBudget (s.lane q n).lastLag ((s.port q).requalified offset).merge.active)
      (postLate q offset (s.port q).lanes (modPort q (PortUnit.requalified offset) s)) := by
  have told (t : State) (ht : Offers [0] (modPort q (PortUnit.requalified offset) s) t) :
      Posted (.laneState q n .qualifying .overBudget (s.lane q n).lastLag ((s.port q).requalified offset).merge.active)
        (postLane q n .overBudget t) := by
    have p := posted_postLane q n .overBudget t
    rw [ht.lane, requalified_lane, ht.merge, modPort_port_same, Lane.requalify_late h] at p
    exact p
  rw [postLate_eq]
  cases n
  · have ha : (s.port q).lanes.a.lateUnder offset = true := h
    rw [if_pos ha]
    split
    · exact (told _ (.refl _)).still (stillHeard_postLane (by decide) _)
    · exact told _ (.refl _)
  · have hb : (s.port q).lanes.b.lateUnder offset = true := h
    rw [if_pos hb]
    exact told _ (Offers.ite (offers_postLane _ _ _ _) (.refl _))

/-- The reports of the late lanes leave what was heard of a lane that is not late. -/
theorem stillHeard_postLate {before : Lanes} {n : LaneName} (h : (before.get n).lateUnder offset = false) {st : LaneState}
    {why : LaneReason} {lag : Option Nat} {active : LaneName} :
    StillHeard (.laneState q n st why lag active) s (postLate q offset before s) := by
  have other {m : LaneName} (t : State) : StillHeard (.laneState q n st why lag active) t
      (if (before.get m).lateUnder offset then postLane q m .overBudget t else t) := by
    split
    · next hm => exact stillHeard_postLane (fun e => by simp [e, hm] at h) t
    · exact .refl t
  exact (other (m := .A) s).trans (other (m := .B) _)

/-- LANE STATE of a late lane has been heard (R13, R21). -/
theorem posted_requalifyLanes_late {n : LaneName} (h : (s.lane q n).lateUnder offset = true) :
    Posted (.laneState q n .qualifying .overBudget (s.lane q n).lastLag ((s.port q).requalified offset).merge.active)
      (requalifyLanes q offset s) := by
  rw [requalifyLanes_eq]
  refine Posted.still ?_ (stillHeard_lanesChanged (by simp [Report.key]) _ _ _)
  split
  · exact posted_postLate q offset s h
  · next ha =>
    refine (posted_postLate q offset s h).still (stillHeard_postLane ?_ _)
    intro e
    have inTime : (s.lane q n).lateUnder offset = false := e ▸ (requalified_active_up ha).1
    rw [h] at inTime
    cases inTime

/-- LANE STATE of the lane that becomes active has been heard (R13, R19). -/
theorem posted_requalifyLanes_active (h : ((s.port q).requalified offset).merge.active ≠ (s.port q).merge.active) :
    Posted (.laneState q ((s.port q).requalified offset).merge.active .up .active
      (s.lane q ((s.port q).requalified offset).merge.active).lastLag ((s.port q).requalified offset).merge.active)
      (requalifyLanes q offset s) := by
  rw [requalifyLanes_eq, if_neg h]
  refine Posted.still ?_ (stillHeard_lanesChanged (by simp [Report.key]) _ _ _)
  have p := posted_postLane q ((s.port q).requalified offset).merge.active .active
    (postLate q offset (s.port q).lanes (modPort q (PortUnit.requalified offset) s))
  obtain ⟨inTime, up⟩ := requalified_active_up h
  have lane : (s.lane q ((s.port q).requalified offset).merge.active).requalify offset =
      s.lane q ((s.port q).requalified offset).merge.active := Lane.requalify_inTime inTime
  have state : (s.lane q ((s.port q).requalified offset).merge.active).state = .up := up
  rw [(offers_postLate _ _ _ _).lane, requalified_lane, (offers_postLate _ _ _ _).merge, modPort_port_same, lane, state] at p
  exact p

/-- What was heard of a lane that is not late stands, unless the other one became active. -/
theorem stillHeard_requalifyLanes {n : LaneName} (h : (s.lane q n).lateUnder offset = false)
    (ha : ((s.port q).requalified offset).merge.active = (s.port q).merge.active) {st : LaneState} {why : LaneReason}
    {lag : Option Nat} {active : LaneName} :
    StillHeard (.laneState q n st why lag active) s (requalifyLanes q offset s) := by
  rw [requalifyLanes_eq, if_pos ha]
  exact ((stillHeard_modPort q id rfl).trans (stillHeard_postLate q offset _ h)).trans
    (stillHeard_lanesChanged (by simp [Report.key]) _ _ _)

end

/-! ### A new offset (R21) -/

/-- The unit of a port whose offset changes (R21). -/
def PortUnit.reoffset (offset : Nat) (u : PortUnit) : PortUnit := { u with merge := u.merge.reoffset offset }

theorem offers_setOffset (q : Port) (offset : Nat) (s : State) :
    Offers [0, 1, 11, 13, 15, 18]
      (modPort q (fun u => ((u.reoffset offset).requalified offset).told u.lanes.anyUp) s) (setOffset q offset s) := by
  have h := offers_requalifyLanes q offset (modPort q (PortUnit.reoffset offset) s)
  rw [modPort_modPort] at h
  exact h

/-- What a new offset from s to t does to a port's unit and makes heard (R13, R19 to R21). -/
structure Reoffset (q : Port) (offset : Nat) (s t : State) : Prop where
  lanes : (t.port q).lanes = (s.port q).lanes.requalify offset
  merge : (t.port q).merge = { (s.port q).merge with
    offset := offset, muteDue := true, active := ((s.port q).requalified offset).merge.active }
  assembly : s.portState q ≠ .linked → (t.port q).control.assembly = (s.port q).control.assembly
  late : ∀ n, (s.lane q n).lateUnder offset = true →
    Posted (.laneState q n .qualifying .overBudget (s.lane q n).lastLag ((s.port q).requalified offset).merge.active) t
  active : ((s.port q).requalified offset).merge.active ≠ (s.port q).merge.active →
    Posted (.laneState q ((s.port q).requalified offset).merge.active .up .active
      (s.lane q ((s.port q).requalified offset).merge.active).lastLag ((s.port q).requalified offset).merge.active) t
  still : ∀ n st why lag active, (s.lane q n).lateUnder offset = false →
    ((s.port q).requalified offset).merge.active = (s.port q).merge.active →
      StillHeard (.laneState q n st why lag active) s t

theorem setOffset_reoffset (q : Port) (offset : Nat) (s : State) : Reoffset q offset s (setOffset q offset s) := by
  have offered := offers_setOffset q offset s
  have unit : (modPort q (PortUnit.reoffset offset) s).port q = (s.port q).reoffset offset := modPort_port_same _ _ _
  have lane (n : LaneName) : (modPort q (PortUnit.reoffset offset) s).lane q n = s.lane q n := by rw [State.lane, unit]; rfl
  refine ⟨?_, ?_, fun hl => ?_, fun n h => ?_, fun h => ?_, fun n st why lag active h ha => ?_⟩
  · rw [offered.lanes, modPort_port_same]; rfl
  · rw [offered.merge, modPort_port_same]; rfl
  · rw [offered.assembly, modPort_port_same]
    have control : ¬ ((s.port q).lanes.anyUp = true ∧ ((s.port q).reoffset offset |>.requalified offset).lanes.anyUp = false ∧
        (s.port q).record.state = .linked) := fun h => hl h.2.2
    exact congrArg Control.assembly (if_neg control)
  · have p := posted_requalifyLanes_late q offset (modPort q (PortUnit.reoffset offset) s) (n := n) (by rwa [lane])
    rw [unit, lane] at p
    exact p
  · have p := posted_requalifyLanes_active q offset (modPort q (PortUnit.reoffset offset) s) (by rw [unit]; exact h)
    rw [unit, lane] at p
    exact p
  · exact (stillHeard_modPort q id rfl).trans
      (stillHeard_requalifyLanes q offset (modPort q (PortUnit.reoffset offset) s) (by rwa [lane]) (by rw [unit]; exact ha))

/-! ### The preferred lane (R19, R20) -/

/-- What SET PORT's preferred lane, where it is given, does from s to t: the lane that leads becomes active, with its report. -/
structure Led (q : Port) (pref : Option LaneName) (lead : LaneName) (s t : State) : Prop where
  unit : Offers [0] (modMerge q (fun m => { m with preferred := pref, active := lead }) s) t
  same : pref = (s.port q).merge.preferred → lead = (s.port q).merge.active → t = s
  told : lead ≠ (s.port q).merge.active →
    Posted (.laneState q lead (s.lane q lead).state .active (s.lane q lead).lastLag lead) t

theorem modMerge_eq_self {q : Port} {f : Merge → Merge} {s : State} (h : f (s.port q).merge = (s.port q).merge) :
    modMerge q f s = s := modPort_eq_self (by rw [h])

/-- With no preferred lane given nothing leads anew. -/
theorem Led.refl (q : Port) (s : State) : Led q (s.port q).merge.preferred (s.port q).merge.active s s :=
  ⟨by rw [modMerge_eq_self rfl]; exact .refl s, fun _ _ => rfl, fun h => absurd rfl h⟩

/-- A preferred lane that is given leads where it is UP (R19, R20). -/
theorem setPreferred_led (q : Port) (pref : Option LaneName) (s : State) :
    Led q pref ((pref.filter fun n => (s.port q).lanes.isUp n).getD (s.port q).merge.active) s (setPreferred q pref s) := by
  have stays (lead : LaneName) (h : lead = (s.port q).merge.active) :
      Led q pref lead s (modMerge q (fun m => { m with preferred := pref }) s) := by
    subst h
    refine ⟨?_, fun h _ => modMerge_eq_self (by rw [h]), fun h => absurd rfl h⟩
    rw [show modMerge q (fun m => { m with preferred := pref, active := (s.port q).merge.active }) s =
      modMerge q (fun m => { m with preferred := pref }) s from modPort_congr rfl]
    exact .refl _
  unfold setPreferred
  cases pref with
  | none => exact stays _ rfl
  | some n =>
    have up : ((modMerge q (fun m => { m with preferred := some n }) s).port q).lanes.isUp n = (s.port q).lanes.isUp n := by
      rw [modMerge_port_lanes]
    have active : ((modMerge q (fun m => { m with preferred := some n }) s).port q).merge.active = (s.port q).merge.active := by
      rw [modMerge_port, if_pos rfl]
    simp only [up, active]
    cases hn : (s.port q).lanes.isUp n
    · exact stays _ (by simp [Option.filter, hn])
    · have lead : ((some n).filter fun n => (s.port q).lanes.isUp n).getD (s.port q).merge.active = n := by
        simp [Option.filter, hn]
      rw [lead]
      by_cases ha : (s.port q).merge.active = n
      · rw [if_neg fun h => h.2 ha]
        exact stays n ha.symm
      · rw [if_pos ⟨rfl, ha⟩]
        have unit : modMerge q (fun m => { m with active := n }) (modMerge q (fun m => { m with preferred := some n }) s) =
            modMerge q (fun m => { m with preferred := some n, active := n }) s := modPort_modPort _ _ _ _
        rw [unit]
        refine ⟨offers_postLane _ _ _ _, fun _ h => absurd h.symm ha, fun _ => ?_⟩
        have p := posted_postLane q n .active (modMerge q (fun m => { m with preferred := some n, active := n }) s)
        rw [State.lane, modMerge_port_lanes, modMerge_port, if_pos rfl] at p
        exact p

end Sys2Proof.Machine
end

section
/-! PROOF. SET PORT as a whole: settles O25. -/

namespace Sys2Proof.Machine

/-- PORT STATE of a port as it stands has been heard (R37). -/
theorem posted_postPort (q : Port) (why : PortReason) (s : State) :
    Posted (portReport q why (postPort q why s)) (postPort q why s) := by
  have offered := offers_postPort q why s
  have p : Posted (portReport q why s) (postPort q why s) := posted_post (by simp [portReport, Report.key]) s
  rw [portReport, offered.portState, offered.record, offered.merge]
  exact p

/-- What SET PORT does once the preferred lane has been taken: the offset, and the report of what has changed (R20, R21). -/
def portSet (q : Port) (offset : Nat) (pref : Option LaneName) (before : Merge) (s : State) : State :=
  let t := if offset = before.offset then s else setOffset q offset s
  if offset = before.offset ∧ pref = before.preferred then t else postPort q .setting t

/-- What a SET PORT that asks for an offset and a preferred lane, with the lane that leads then, does from s to u. -/
def PortIsSet (q : Port) (offset : Nat) (pref : Option LaneName) (lead : LaneName) (s u : State) : Prop :=
  (u.port q).merge = { (s.port q).merge with
    offset := offset, preferred := pref, active := (u.port q).merge.active,
    muteDue := if offset = (s.port q).merge.offset then (s.port q).merge.muteDue else true } ∧
  (s.portState q ≠ .linked → (u.port q).control.assembly = (s.port q).control.assembly) ∧
  (offset = (s.port q).merge.offset → pref = (s.port q).merge.preferred → lead = (s.port q).merge.active → u = s) ∧
  (offset ≠ (s.port q).merge.offset ∨ pref ≠ (s.port q).merge.preferred → Posted (portReport q .setting u) u) ∧
  (u.port q).merge.active =
    (if (s.port q).lanes.isUp lead = true ∧ (u.port q).lanes.isUp lead = false ∧
        (u.port q).lanes.isUp lead.other = true then lead.other else lead) ∧
  (lead ≠ (s.port q).merge.active → (u.lane q lead).state = .up →
    Posted (.laneState q lead .up .active (s.lane q lead).lastLag lead) u) ∧
  ((u.port q).merge.active ≠ lead →
    Posted (.laneState q (u.port q).merge.active .up .active (s.lane q (u.port q).merge.active).lastLag
      (u.port q).merge.active) u) ∧
  ∀ n,
    (offset ≠ (s.port q).merge.offset → (s.lane q n).state = .up ∨ (s.lane q n).state = .qualifying →
      (s.lane q n).lastLag.any (fun g => decide (offset < g)) = true →
        u.lane q n = { s.lane q n with state := .qualifying, qualify := 0, overBudget := true } ∧
        Posted (.laneState q n .qualifying .overBudget (s.lane q n).lastLag (u.port q).merge.active) u) ∧
    (offset = (s.port q).merge.offset ∨ ((s.lane q n).state ≠ .up ∧ (s.lane q n).state ≠ .qualifying) ∨
      (s.lane q n).lastLag.any (fun g => decide (offset < g)) = false → u.lane q n = s.lane q n)

section
variable {q : Port} {offset : Nat} {pref : Option LaneName} {lead : LaneName} {s t : State} (h : Led q pref lead s t)
include h

theorem Led.merge : (t.port q).merge = { (s.port q).merge with preferred := pref, active := lead } := by
  rw [h.unit.merge, modMerge_port, if_pos rfl]

theorem Led.lanes : (t.port q).lanes = (s.port q).lanes := by rw [h.unit.lanes, modMerge_port_lanes]

theorem Led.lane (n : LaneName) : t.lane q n = s.lane q n := congrArg (Lanes.get · n) h.lanes

theorem Led.portState : t.portState q = s.portState q := by
  rw [h.unit.portState]; exact congrArg PortRecord.state (modMerge_port_record _ _ _ _)

theorem Led.assembly : (t.port q).control.assembly = (s.port q).control.assembly := by
  rw [h.unit.assembly, modMerge_port_control]

/-- SET PORT with the offset in force. -/
theorem Led.portIsSet_same (ho : offset = (s.port q).merge.offset) :
    PortIsSet q offset pref lead s (portSet q offset pref (s.port q).merge t) := by
  have told : Offers [1] t (portSet q offset pref (s.port q).merge t) := by
    simp only [portSet, if_pos ho]
    exact Offers.ite (.refl t) (offers_postPort _ _ _)
  have active : ((portSet q offset pref (s.port q).merge t).port q).merge.active = lead := by rw [told.merge, h.merge]
  have lane (n : LaneName) : (portSet q offset pref (s.port q).merge t).lane q n = s.lane q n := (told.lane q n).trans (h.lane n)
  refine ⟨?_, fun _ => (told.assembly q).trans h.assembly, fun _ hp hl => ?_, fun hc => ?_, ?_, fun hl hu => ?_,
    fun hn => absurd active hn, fun n => ⟨fun hn => absurd ho hn, fun _ => lane n⟩⟩
  · rw [told.merge, h.merge, if_pos ho, ho]
  · simp only [portSet, if_pos ho, if_pos (And.intro ho hp)]
    exact h.same hp hl
  · have hp : ¬ (offset = (s.port q).merge.offset ∧ pref = (s.port q).merge.preferred) := fun k =>
      hc.elim (fun e => e k.1) fun e => e k.2
    simp only [portSet, if_neg hp]
    exact posted_postPort _ _ _
  · rw [active, told.lanes, h.lanes, if_neg fun k => by simp [k.1] at k]
  · have p := h.told hl
    rw [show (s.lane q lead).state = .up from lane lead ▸ hu] at p
    exact p.offers told (by simp [Report.key])

/-- SET PORT with a new offset. -/
theorem Led.portIsSet_new (ho : offset ≠ (s.port q).merge.offset) :
    PortIsSet q offset pref lead s (portSet q offset pref (s.port q).merge t) := by
  have e : portSet q offset pref (s.port q).merge t = postPort q .setting (setOffset q offset t) := by
    simp only [portSet, if_neg ho, if_neg fun k : offset = _ ∧ _ => ho k.1]
  have moved := setOffset_reoffset q offset t
  have told := offers_postPort q .setting (setOffset q offset t)
  rw [e]
  have lanes : ((postPort q .setting (setOffset q offset t)).port q).lanes = (s.port q).lanes.requalify offset := by
    rw [told.lanes, moved.lanes, h.lanes]
  have lane (n : LaneName) : (postPort q .setting (setOffset q offset t)).lane q n = (s.lane q n).requalify offset := by
    rw [State.lane, lanes]; exact Lanes.requalify_get _ _ _
  have active : ((postPort q .setting (setOffset q offset t)).port q).merge.active =
      ((t.port q).requalified offset).merge.active := by rw [told.merge, moved.merge]
  have was : (t.port q).merge.active = lead := by rw [h.merge]
  have late (n : LaneName) : (s.lane q n).lateUnder offset = true ↔ _ := Lane.lateUnder_iff offset (s.lane q n)
  refine ⟨?_, fun hl => ?_, fun k => absurd k ho, fun _ => posted_postPort _ _ _, ?_, fun hl hu => ?_, fun hn => ?_,
    fun n => ⟨fun _ hs hg => ?_, fun hn => ?_⟩⟩
  · rw [told.merge, moved.merge, h.merge, if_neg ho]
  · exact ((told.assembly q).trans (moved.assembly (h.portState ▸ hl))).trans h.assembly
  · rw [active, requalified_active, was, lanes, h.lanes]
    simp only [Bool.not_eq_true]
  · rw [lane] at hu
    have inTime := Lane.inTime_of_up hu
    rw [Lane.requalify_inTime inTime] at hu
    have p := h.told hl
    rw [hu] at p
    have stays : ((t.port q).requalified offset).merge.active = (t.port q).merge.active := by
      have up : ((s.port q).lanes.requalify offset).isUp lead = true := by
        rw [Lanes.isUp_iff, Lanes.requalify_get, show (s.port q).lanes.get lead = s.lane q lead from rfl,
          Lane.requalify_inTime inTime]
        exact hu
      rw [requalified_active, was, h.lanes, if_neg fun k => k.2.1 up]
    exact (p.still (moved.still lead _ _ _ _ (by rwa [h.lane]) stays)).offers told (by simp [Report.key])
  · rw [active] at hn ⊢
    have p := moved.active (was ▸ hn)
    rw [h.lane] at p
    exact p.offers told (by simp [Report.key])
  · have hn := (late n).2 ⟨hs, hg⟩
    rw [lane, active, Lane.requalify_late hn]
    have p := moved.late n (by rwa [h.lane])
    rw [h.lane] at p
    exact ⟨rfl, p.offers told (by simp [Report.key])⟩
  · rw [lane]
    refine Lane.requalify_inTime (Bool.eq_false_iff.2 fun k => ?_)
    obtain ⟨hs, hg⟩ := (late n).1 k
    obtain hn | ⟨hu, hq⟩ | hn := hn
    · exact ho hn
    · exact hs.elim hu hq
    · rw [hg] at hn; cases hn

theorem Led.portIsSet : PortIsSet q offset pref lead s (portSet q offset pref (s.port q).merge t) := by
  by_cases ho : offset = (s.port q).merge.offset
  · exact h.portIsSet_same ho
  · exact h.portIsSet_new ho

/-- What stands in the merge buffer once the offset has been taken. -/
theorem Led.offsetTaken :
    ((if offset = (s.port q).merge.offset then t else setOffset q offset t).port q).merge.offset = offset ∧
      ((if offset = (s.port q).merge.offset then t else setOffset q offset t).port q).merge.preferred = pref := by
  split
  · next e => rw [h.merge]; exact ⟨e.symm, rfl⟩
  · rw [(setOffset_reoffset q offset t).merge, h.merge]; exact ⟨rfl, rfl⟩
end

theorem preferredOf_eq_none {n : Nat} : preferredOf n = none ↔ 2 < n := by
  match n with
  | 0 | 1 | 2 => simp [preferredOf]
  | n + 3 => simp [preferredOf]

/-- A refused SET PORT: a port number outside 1 to 3, or an unknown lane code where the preferred lane is given (R20). -/
theorem serveSetPort_refused {m : Message} {s : State}
    (h : u8 m.body 0 = 0 ∨ 3 < u8 m.body 0 ∨ (u8 m.body 1 / 2 % 2 = 1 ∧ 2 < u8 m.body 3)) :
    serveSetPort m s = refuse .range s := by
  unfold serveSetPort
  dsimp only
  split
  · next q pref hq hp =>
    obtain h | h | ⟨hb, hc⟩ := h
    · rw [portOf_eq_none.2 (.inl h)] at hq; cases hq
    · rw [portOf_eq_none.2 (.inr h)] at hq; cases hq
    · rw [preferredOf_eq_none.2 hc] at hp
      simp [whenSet, hb] at hp
  · rfl

/-- An accepted SET PORT takes the preferred lane it gives, or none, and then the offset (R20, R21). -/
theorem serveSetPort_taken {m : Message} {q : Port} {s : State} {offset : Nat} {pref : Option LaneName} {lead : LaneName}
    (hq : u8 m.body 0 = num q)
    (ho : (u8 m.body 1 % 2 = 0 ∧ offset = (s.port q).merge.offset) ∨
      (u8 m.body 1 % 2 = 1 ∧ offset = max 1 (min 7 (u8 m.body 2))))
    (hp : (u8 m.body 1 / 2 % 2 = 0 ∧ pref = (s.port q).merge.preferred ∧ lead = (s.port q).merge.active) ∨
      (u8 m.body 1 / 2 % 2 = 1 ∧
        ((u8 m.body 3 = 0 ∧ pref = none) ∨ (u8 m.body 3 = 1 ∧ pref = some .A) ∨ (u8 m.body 3 = 2 ∧ pref = some .B)) ∧
        lead = (pref.filter fun n => (s.port q).lanes.isUp n).getD (s.port q).merge.active)) :
    ∃ t, Led q pref lead s t ∧
      serveSetPort m s = taken
        (if u8 m.body 1 % 2 = 1 ∧ (u8 m.body 2 < 1 ∨ 7 < u8 m.body 2) then .clamped else .done) []
        (portSet q offset pref (s.port q).merge t) := by
  have offsetStep (t : State) :
      (if decide (u8 m.body 1 % 2 = 1) = true ∧ clampNat 1 7 (u8 m.body 2) ≠ (s.port q).merge.offset then
        setOffset q (clampNat 1 7 (u8 m.body 2)) t else t) =
        if offset = (s.port q).merge.offset then t else setOffset q offset t := by
    obtain ⟨hb, e⟩ | ⟨hb, e⟩ := ho
    · rw [if_neg fun k => by simp [hb] at k, if_pos e]
    · rw [show clampNat 1 7 (u8 m.body 2) = offset from e.symm]
      by_cases h : offset = (s.port q).merge.offset <;> simp [hb, h]
  have status : (if decide (u8 m.body 1 % 2 = 1) = true ∧ clampNat 1 7 (u8 m.body 2) ≠ u8 m.body 2 then Status.clamped else .done) =
      if u8 m.body 1 % 2 = 1 ∧ (u8 m.body 2 < 1 ∨ 7 < u8 m.body 2) then .clamped else .done := by
    have e : clampNat 1 7 (u8 m.body 2) ≠ u8 m.body 2 ↔ u8 m.body 2 < 1 ∨ 7 < u8 m.body 2 := by unfold clampNat; omega
    simp only [e, decide_eq_true_eq]
  have finish {t : State} (h : Led q pref lead s t) :
      (if ((if offset = (s.port q).merge.offset then t else setOffset q offset t).port q).merge.offset = (s.port q).merge.offset ∧
          ((if offset = (s.port q).merge.offset then t else setOffset q offset t).port q).merge.preferred =
            (s.port q).merge.preferred then
        (if offset = (s.port q).merge.offset then t else setOffset q offset t)
      else postPort q .setting (if offset = (s.port q).merge.offset then t else setOffset q offset t)) =
        portSet q offset pref (s.port q).merge t := by
    rw [h.offsetTaken.1, h.offsetTaken.2]; rfl
  obtain ⟨hb, rfl, rfl⟩ | ⟨hb, hc, rfl⟩ := hp
  · have given : whenSet (u8 m.body 1) 1 (preferredOf (u8 m.body 3)) = none := if_neg (by omega)
    have absent : whenSet (u8 m.body 1) 1 () = none := if_neg (by omega)
    refine ⟨s, .refl q s, ?_⟩
    simp only [serveSetPort, hq, portOf_num, given, absent, Option.getD_none, Option.isSome_none, Bool.false_eq_true, if_false,
      offsetStep, status, finish (.refl q s)]
  · have code : preferredOf (u8 m.body 3) = some pref := by
      obtain ⟨h, rfl⟩ | ⟨h, rfl⟩ | ⟨h, rfl⟩ := hc <;> rw [h] <;> rfl
    have given : whenSet (u8 m.body 1) 1 (preferredOf (u8 m.body 3)) = some (some pref) := code ▸ if_pos (by omega)
    have present : whenSet (u8 m.body 1) 1 () = some () := if_pos (by omega)
    refine ⟨setPreferred q pref s, setPreferred_led q pref s, ?_⟩
    simp only [serveSetPort, hq, portOf_num, given, present, Option.getD_some, Option.isSome_some, if_true, offsetStep, status,
      finish (setPreferred_led q pref s)]

/-- Settles O25, from what the preferred lane does and then the offset. -/
theorem setPortIsTaken : Obligations.SetPortIsTaken := by
  intro p q m s ha
  have run : exec (.setPort p) s = .next (whenRunning (serve p kindSetPort serveSetPort) s) := rfl
  refine ⟨fun offset pref lead hq ho hp => ?_, fun h => exec_refused ha run (serveSetPort_refused h)⟩
  obtain ⟨t, led, e⟩ := serveSetPort_taken hq ho hp
  have served := exec_served ha run
  rw [e] at served
  exact ⟨_, served, led.portIsSet⟩

end Sys2Proof.Machine
end

section
/-! PROOF. What an operation on one port leaves of the others, and how little of a port the assembly of its messages looks at:
the layer under the playout and the downstream frame. -/

namespace Sys2Proof.Machine

/-! ### Operations on one port -/

/-- From s to t nothing has changed at any port but q. -/
def Elsewhere (q : Port) (s t : State) : Prop := ∀ p, p ≠ q → t.port p = s.port p

theorem Elsewhere.refl (q : Port) (s : State) : Elsewhere q s s := fun _ _ => rfl

theorem Elsewhere.trans {q : Port} {s t u : State} (h : Elsewhere q s t) (g : Elsewhere q t u) : Elsewhere q s u :=
  fun p hp => (g p hp).trans (h p hp)

theorem Elsewhere.ite {q : Port} {s t u : State} {c : Prop} [Decidable c] (h : Elsewhere q s t) (g : Elsewhere q s u) :
    Elsewhere q s (if c then t else u) := by split <;> assumption

theorem Elsewhere.forEach {q : Port} {α : Type} {f : α → State → State} (h : ∀ a s, Elsewhere q s (f a s)) (l : List α)
    (s : State) : Elsewhere q s (Machine.forEach f l s) :=
  forEach_keeps (P := Elsewhere q s) (fun a t ht => ht.trans (h a t)) l s (.refl q s)

theorem elsewhere_modPort (q : Port) (f : PortUnit → PortUnit) (s : State) : Elsewhere q s (modPort q f s) :=
  fun _ hp => modPort_port_ne hp.symm _ _

theorem elsewhere_modControl (q : Port) (f : Control → Control) (s : State) : Elsewhere q s (modControl q f s) :=
  elsewhere_modPort q _ s

theorem elsewhere_modMerge (q : Port) (f : Merge → Merge) (s : State) : Elsewhere q s (modMerge q f s) :=
  elsewhere_modPort q _ s

theorem elsewhere_postTo (q : Port) (r : Report) (s : State) : Elsewhere q s (postTo q r s) :=
  .ite (.refl q s) (elsewhere_modControl q _ s)

/-- An operation made at each of several ports once shows at port p as if it were made there alone, from a state whose port p is
as it was. -/
theorem forEach_port {f : Port → State → State} {P : State → Prop} (hf : ∀ q s, Elsewhere q s (f q s))
    {p : Port} (hP : ∀ q s, p ≠ q → P s → P (f q s)) {l : List Port} (hl : l.Nodup) (hp : p ∈ l) {s : State} (hs : P s) :
    ∃ t, P t ∧ t.port p = s.port p ∧ (forEach f l s).port p = (f p t).port p := by
  have stands {l : List Port} (hn : p ∉ l) (u : State) : (forEach f l u).port p = u.port p := by
    induction l generalizing u with
    | nil => rfl
    | cons a l ih =>
      rw [List.mem_cons, not_or] at hn
      rw [forEach_cons, ih hn.2, hf a u p hn.1]
  induction l generalizing s with
  | nil => cases hp
  | cons a l ih =>
    obtain ⟨ha, hl⟩ := List.nodup_cons.1 hl
    rw [forEach_cons]
    by_cases h : p = a
    · subst h
      exact ⟨s, hs, rfl, stands ha _⟩
    · obtain ⟨t, ht, e, r⟩ := ih hl ((List.mem_cons.1 hp).resolve_left h) (hP a s h hs)
      exact ⟨t, ht, e.trans (hf a s p h), r⟩

theorem mem_indexes {n : Nat} (i : Fin n) : i ∈ indexes n := List.mem_finRange i

theorem nodup_indexes (n : Nat) : (indexes n).Nodup := List.nodup_finRange n

/-! ### Assembling and the other ports -/

theorem elsewhere_dropAssembly (q : Port) (why : DropReason) (s : State) : Elsewhere q s (dropAssembly q why s) :=
  fun p hp => by rw [dropAssembly_port, if_neg hp.symm]

theorem elsewhere_classify (q : Port) (m : Message) (s : State) : Elsewhere q s (classify q m s) :=
  .ite (elsewhere_modControl q _ s) (.ite (elsewhere_modControl q _ s) (elsewhere_postTo q _ s))

theorem elsewhere_extend (q : Port) (bytes : List Byte) (s : State) : Elsewhere q s (extend q bytes s) := by
  have h := elsewhere_modControl q (fun k => { k with assembly := some { bytes := bytes, idle := 0 } }) s
  unfold extend
  exact .ite h (.ite (h.trans (elsewhere_dropAssembly q _ _)) (.ite
    ((h.trans (elsewhere_modControl q _ _)).trans (elsewhere_classify q _ _)) h))

theorem elsewhere_takeByte (q : Port) (b : ControlByte) (s : State) : Elsewhere q s (takeByte q b s) := by
  unfold takeByte
  split
  · exact (elsewhere_dropAssembly q _ s).trans (elsewhere_extend q _ _)
  · split
    · exact .refl q s
    · exact elsewhere_extend q _ s

theorem elsewhere_takeControl (q : Port) (bytes : List ControlByte) (s : State) : Elsewhere q s (takeControl q bytes s) :=
  .ite (elsewhere_modControl q _ s) (.forEach (elsewhere_takeByte q) _ _)

/-! ### Assembling and the port's own control channel -/

/-- Port p has one control channel and one port state in s and t. -/
structure SameControl (p : Port) (s t : State) : Prop where
  control : (s.port p).control = (t.port p).control
  state : s.portState p = t.portState p

/-- An operation that turns states alike at port p's control channel into states alike there. -/
def ControlLocal (p : Port) (f : State → State) : Prop := ∀ {s t : State}, SameControl p s t → SameControl p (f s) (f t)

theorem controlLocal_modControl (p : Port) (f : Control → Control) : ControlLocal p (modControl p f) := fun h => by
  refine ⟨?_, ?_⟩
  · rw [modControl_port, if_pos rfl, modControl_port, if_pos rfl, h.control]
  · rw [State.portState, modControl_port_record, State.portState, modControl_port_record]
    exact h.state

theorem controlLocal_postTo (p : Port) (r : Report) : ControlLocal p (postTo p r) := fun {s t} h => by
  unfold postTo
  rw [h.state]
  split
  · exact h
  · exact controlLocal_modControl p _ h

theorem controlLocal_dropAssembly (p : Port) (why : DropReason) : ControlLocal p (dropAssembly p why) := fun {s t} h => by
  unfold dropAssembly
  rw [h.control]
  split
  · exact h
  · exact controlLocal_postTo p _ (controlLocal_modControl p _ h)

theorem controlLocal_classify (p : Port) (m : Message) : ControlLocal p (classify p m) := fun {s t} h => by
  unfold classify queueRequest loseRequest
  rw [h.control]
  split
  · exact controlLocal_modControl p _ h
  · split
    · exact controlLocal_modControl p _ h
    · exact controlLocal_postTo p _ h

theorem controlLocal_extend (p : Port) (bytes : List Byte) : ControlLocal p (extend p bytes) := fun {s t} h => by
  have begun := controlLocal_modControl p (fun k => { k with assembly := some { bytes := bytes, idle := 0 } }) h
  unfold extend
  dsimp only
  split
  · exact begun
  · split
    · exact controlLocal_dropAssembly p _ begun
    · split
      · exact controlLocal_classify p _ (controlLocal_modControl p _ begun)
      · exact begun

theorem controlLocal_takeByte (p : Port) (b : ControlByte) : ControlLocal p (takeByte p b) := fun {s t} h => by
  unfold takeByte
  rw [h.control]
  split
  · exact controlLocal_extend p _ (controlLocal_dropAssembly p _ h)
  · split
    · exact h
    · exact controlLocal_extend p _ h

theorem controlLocal_takeControl (p : Port) (bytes : List ControlByte) : ControlLocal p (takeControl p bytes) := fun {s t} h => by
  unfold takeControl
  split
  · exact controlLocal_modControl p _ h
  · clear * - h
    induction bytes generalizing s t with
    | nil => exact h
    | cons b bytes ih => exact ih (controlLocal_takeByte p b h)

end Sys2Proof.Machine
end

section
/-! PROOF. The playout: settles O23. -/

namespace Sys2Proof.Machine

/-! ### The copy chosen (R17) -/

theorem usableCopy_eq_some {u : PortUnit} {e : Entry} {n : LaneName} {c : Copy} (hn : u.lanes.isUp n = true)
    (hq : e.seq = some u.merge.next) (hc : e.get n = some c) : usableCopy u e n = some c := (if_pos ⟨hn, hq⟩).trans hc

theorem usableCopy_eq_none {u : PortUnit} {e : Entry} {n : LaneName}
    (h : u.lanes.isUp n = false ∨ e.seq ≠ some u.merge.next ∨ e.get n = none) : usableCopy u e n = none := by
  unfold usableCopy
  split
  · next hu =>
    obtain h | h | h := h
    · rw [h] at hu; cases hu.1
    · exact absurd hu.2 h
    · exact h
  · rfl

/-! ### The playout of one port (R11, R16, R18, R21) -/

/-- The merge buffer after a playout, field by field, whether or not the mute of a change starts with it. -/
theorem Merge.play_eq (c : Option Copy) (m : Merge) :
    m.play c = { m with
      entries := m.entries.put (Fin.ofNat 8 m.next) Entry.empty
      next := (m.next + 1) % 65536
      missing := c.elim (satSucc 3 m.missing) fun _ => 0
      last := (m.play c).handed.each Slot.sample
      deskHold := c.elim m.deskHold Copy.deskHold
      mute := if m.muteDue then some 31 else m.mute.map (fun k => k - 1)
      muteDue := false
      handed := (m.play c).handed } := by
  cases c <;> cases h : m.muteDue <;> simp [Merge.play, Merge.startMute, h, Config.playoutMute, Config.seqMod]

/-- What is handed on at a playout: silence while a mute runs or starts, and otherwise the copy or the concealment. -/
theorem Merge.play_handed_muted {c : Option Copy} {m : Merge} (h : m.muteDue = true ∨ m.mute.isSome = true) (i : Fin 33) :
    (m.play c).handed.get i = silentSlot := by
  have running : m.startMute.mute.isSome = true := by
    unfold Merge.startMute
    split
    · rfl
    · exact h.resolve_left (by assumption)
  have e : (m.play c).handed = Bank.const 33 silentSlot := if_pos running
  rw [e, Bank.get_const]

theorem Merge.play_handed {c : Option Copy} {m : Merge} (hd : m.muteDue = false) (hm : m.mute = none) :
    (m.play c).handed = c.elim (concealed (m.missing + 1) m.last) Copy.slots := by
  have e : m.startMute = m := if_neg (by rw [hd]; decide)
  have k : (m.play c).handed = handedSlots m c := congrArg (handedSlots · c) e
  have unmuted : ¬ m.mute.isSome = true := by rw [hm]; decide
  rw [k]
  cases c <;> exact if_neg unmuted

theorem concealed_get (missing : Nat) (last : Bank 33 Int) (i : Fin 33) :
    (concealed (missing + 1) last).get i =
      if missing < 2 then { sample := last.get i, cond := .concealed } else silentSlot := by
  unfold concealed
  by_cases h : missing < 2
  · rw [if_pos (by omega), if_pos h, Bank.get_each]
  · rw [if_neg (by omega), if_neg h, Bank.get_const]

/-- A lane judged at a playout (R11). -/
theorem Lanes.judge_get_eq (q : Nat) (e : Entry) (ls : Lanes) (n : LaneName) :
    (ls.judge q e).get n = { ls.get n with
      misses := if (ls.get n).state ≠ .up then (ls.get n).misses
        else if e.seq = some q ∧ (e.get n).isSome = true then 0 else min 3 ((ls.get n).misses + 1) } := by
  rw [Lanes.judge_get, Lane.judge]
  by_cases h : (ls.get n).state = .up
  · simp only [h, if_true, ne_eq, not_true_eq_false, if_false, Entry.holds, Bool.and_eq_true, decide_eq_true_eq]
    rfl
  · simp only [h, if_false, ne_eq, not_false_eq_true, if_true]

/-- The playout of a port as the port feels it: its lanes are judged, its merge buffer plays the chosen copy. -/
theorem playPort_unit (p : Port) (s : State) :
    ((playPort p s).port p).lanes = (s.port p).lanes.judge (s.port p).merge.next
        ((s.port p).merge.entries.get (Fin.ofNat 8 (s.port p).merge.next)) ∧
      ((playPort p s).port p).merge = (s.port p).merge.play
        (chooseCopy (s.port p) ((s.port p).merge.entries.get (Fin.ofNat 8 (s.port p).merge.next))) := by
  unfold playPort
  dsimp only
  generalize (s.port p).merge.entries.get (Fin.ofNat 8 (s.port p).merge.next) = e
  have played (c : Option Copy) : (modPort p (fun u =>
      { u with lanes := u.lanes.judge u.merge.next e, merge := u.merge.play c }) s).port p =
      { s.port p with lanes := (s.port p).lanes.judge (s.port p).merge.next e, merge := (s.port p).merge.play c } :=
    modPort_port_same _ _ _
  split
  · next c hc =>
    obtain ⟨-, lanes, merge⟩ := unitsStand_takeControl p c.control (modPort p (fun u =>
      { u with lanes := u.lanes.judge u.merge.next e, merge := u.merge.play (chooseCopy (s.port p) e) }) s) p
    rw [lanes, merge, played]
    exact ⟨rfl, rfl⟩
  · next hc =>
    obtain ⟨-, lanes, merge⟩ := unitsStand_dropAssembly p .missingFrame (modPort p (fun u =>
      { u with lanes := u.lanes.judge u.merge.next e, merge := u.merge.play (chooseCopy (s.port p) e) }) s) p
    rw [lanes, merge, played]
    exact ⟨rfl, rfl⟩

/-- The control bytes of the chosen copy go to the assembly, and a missing frame discards it (R39, R40): the same as from any
state alike at the port's control channel. -/
theorem playPort_control {p : Port} {s v : State} (h : SameControl p s v) :
    (∀ c, chooseCopy (s.port p) ((s.port p).merge.entries.get (Fin.ofNat 8 (s.port p).merge.next)) = some c →
        ((playPort p s).port p).control = ((takeControl p c.control v).port p).control) ∧
      (chooseCopy (s.port p) ((s.port p).merge.entries.get (Fin.ofNat 8 (s.port p).merge.next)) = none →
        ((playPort p s).port p).control = ((dropAssembly p .missingFrame v).port p).control) := by
  have judged (f : PortUnit → PortUnit) (hf : ∀ u, (f u).record = u.record ∧ (f u).control = u.control) :
      SameControl p (modPort p f s) v := by
    refine ⟨?_, ?_⟩
    · rw [modPort_port_same, (hf _).2, h.control]
    · rw [State.portState, modPort_port_same, (hf _).1]; exact h.state
  refine ⟨fun c hc => ?_, fun hc => ?_⟩ <;> simp only [playPort, hc]
  · refine (controlLocal_takeControl p _ (judged _ ?_)).control
    exact fun _ => ⟨rfl, rfl⟩
  · refine (controlLocal_dropAssembly p _ (judged _ ?_)).control
    exact fun _ => ⟨rfl, rfl⟩

/-! ### Skipped and held playouts (R21) -/

/-- A playout that lies k frames ahead is held. -/
theorem framesAhead_of_held {f q offset k : Nat} (hk : k < 32768) (h : (q + offset) % 65536 = (f + k) % 65536) :
    framesAhead f q offset = k := by
  unfold framesAhead Config.seqMod; omega

/-- A playout that lies k frames in the past has left k sequence numbers behind. -/
theorem skipped_of_past {f q offset k : Nat} (hk : k ≤ 32768) (h : (q + offset + k) % 65536 = f % 65536) :
    skipped f q offset = k := by
  unfold skipped framesAhead Config.seqMod
  dsimp only
  split <;> omega

/-- A playout that does not lie ahead is not held. -/
theorem not_playoutHeld {s : State} {p : Port} {k : Nat} (hk : k ≤ 32768)
    (h : ((s.port p).merge.next + (s.port p).merge.offset + k) % 65536 = s.hubFrame % 65536) : playoutHeld s p = false := by
  unfold playoutHeld framesAhead Config.seqMod
  simp only [Bool.and_eq_false_iff, decide_eq_false_iff_not]
  omega

theorem playoutHeld_of_ahead {s : State} {p : Port} {k : Nat} (h0 : 0 < k) (hk : k < 32768)
    (h : ((s.port p).merge.next + (s.port p).merge.offset) % 65536 = (s.hubFrame + k) % 65536) : playoutHeld s p = true := by
  unfold playoutHeld
  simp only [framesAhead_of_held hk h, Config.seqMod, Bool.and_eq_true, decide_eq_true_eq]
  omega

/-! ### The end of a frame period at one port -/

theorem elsewhere_endPort (q : Port) (s : State) : Elsewhere q s (endPort q s) := by
  have counted := elsewhere_modMerge q (Merge.countWithout (s.port q).lanes.anyUp) s
  have skips (t : State) : Elsewhere q t (skipPort q t) :=
    (elsewhere_modMerge q _ t).trans (.ite (.refl q _) (elsewhere_dropAssembly q _ _))
  have plays (t : State) : Elsewhere q t (playPort q t) := by
    unfold playPort
    dsimp only
    split
    · exact (elsewhere_modPort q _ t).trans (elsewhere_takeControl q _ _)
    · exact (elsewhere_modPort q _ t).trans (elsewhere_dropAssembly q _ _)
  refine .ite (counted.trans fun p hp => ?_) (counted.trans ((skips _).trans (plays _)))
  rw [holdPort_port, if_neg hp.symm]

/-- The end of a frame period shows at each port as if that port alone had one. -/
theorem endFrame_port {inp : FrameInputs} {s : State} (hb : s.begun = true) (hp : s.played = false) (p : Port) :
    ∃ t, t.hubFrame = s.hubFrame ∧ t.port p = s.port p ∧ (endFrame inp s).port p = (endPort p t).port p := by
  have e : (endFrame inp s).port p = (forEach endPort (indexes 3) s).port p := by
    unfold endFrame
    rw [if_pos ⟨hb, by rw [hp]; decide⟩]
    rfl
  rw [e]
  exact forEach_port (P := fun t => t.hubFrame = s.hubFrame) elsewhere_endPort
    (fun q t _ ht => ((agree_endPort q t) .hubFrame (by decide)).trans ht) (nodup_indexes 3) (mem_indexes p) rfl

/-- A frame period that a raised offset holds, as the port feels it (R21). -/
theorem endPort_held {p : Port} {s : State} {k : Nat} (h0 : 0 < k) (hk : k < 32768)
    (h : ((s.port p).merge.next + (s.port p).merge.offset) % 65536 = (s.hubFrame + k) % 65536) :
    (endPort p s).port p = { s.port p with
      merge := ((s.port p).merge.countWithout (s.port p).lanes.anyUp).hold (heldSlots s.freeReads)
      control := { (s.port p).control with
        assembly := (s.port p).control.assembly.map fun a => { a with idle := a.idle + 1 } } } := by
  have counted : (modMerge p (Merge.countWithout (s.port p).lanes.anyUp) s).port p =
      { s.port p with merge := (s.port p).merge.countWithout (s.port p).lanes.anyUp } := modPort_port_same _ _ _
  have held : playoutHeld (modMerge p (Merge.countWithout (s.port p).lanes.anyUp) s) p = true :=
    playoutHeld_of_ahead h0 hk (by rw [counted]; exact h)
  have e : endPort p s = holdPort p (modMerge p (Merge.countWithout (s.port p).lanes.anyUp) s) := if_pos held
  rw [e, holdPort_port, if_pos rfl, counted]
  rfl

/-- A frame period with a playout is the playout of a state whose port has left behind what a lowered offset skips. -/
theorem endPort_played {p : Port} {s : State} {k : Nat} (hk : k ≤ 32768)
    (h : ((s.port p).merge.next + (s.port p).merge.offset + k) % 65536 = s.hubFrame % 65536) :
    ∃ w, endPort p s = playPort p w ∧ (w.port p).lanes = (s.port p).lanes ∧
      (w.port p).merge = ((s.port p).movedOn k).merge.countWithout (s.port p).lanes.anyUp ∧
      SameControl p w (if k = 0 then s else dropAssembly p .missingFrame s) := by
  have counted : (modMerge p (Merge.countWithout (s.port p).lanes.anyUp) s).port p =
      { s.port p with merge := (s.port p).merge.countWithout (s.port p).lanes.anyUp } := modPort_port_same _ _ _
  have due : playoutHeld (modMerge p (Merge.countWithout (s.port p).lanes.anyUp) s) p = false :=
    not_playoutHeld hk (by rw [counted]; exact h)
  have alike : SameControl p (modMerge p (Merge.countWithout (s.port p).lanes.anyUp) s) s :=
    ⟨by rw [counted], by rw [State.portState, counted]; rfl⟩
  have skips := skipPort_port p p k (modMerge p (Merge.countWithout (s.port p).lanes.anyUp) s)
    (by rw [counted]; exact skipped_of_past hk h)
  rw [if_pos rfl, counted] at skips
  refine ⟨_, if_neg (by rw [due]; decide), by rw [skips]; rfl, by rw [skips]; rfl, ?_, ?_⟩
  · rw [skips]
    by_cases h0 : k = 0
    · rw [if_pos h0, if_pos h0]
    · rw [if_neg h0, if_neg h0]
      exact (controlLocal_dropAssembly p .missingFrame alike).control
  · have state : (skipPort p (modMerge p (Merge.countWithout (s.port p).lanes.anyUp) s)).portState p = s.portState p := by
      rw [State.portState, skips]; rfl
    rw [state]
    split
    · rfl
    · exact congrArg PortRecord.state (unitsStand_dropAssembly p .missingFrame s p).1.symm

/-- Settles O23, port by port: the playout held, or made after what is skipped. -/
theorem playoutTakesTheCopy : Obligations.PlayoutTakesTheCopy := by
  refine ⟨fun u e => ⟨fun c hn hq hc => ?_, fun c ha hn hq hc => ?_, fun h => ?_⟩, fun inp p s k hr hb hp => ?_⟩
  · rw [chooseCopy, usableCopy_eq_some hn hq hc]; rfl
  · rw [chooseCopy, usableCopy_eq_none (ha.imp_right .inr), usableCopy_eq_some hn hq hc]; rfl
  · obtain h | ⟨ha, hb⟩ := h
    · rw [chooseCopy, usableCopy_eq_none (.inr (.inl h)), usableCopy_eq_none (.inr (.inl h))]; rfl
    · rw [chooseCopy, usableCopy_eq_none (ha.imp_right .inr), usableCopy_eq_none (hb.imp_right .inr)]; rfl
  obtain ⟨t, frame, unit, ended⟩ := endFrame_port (inp := inp) hb hp p
  have run : exec (.playout inp) s = .next (endFrame inp s) := congrArg Host.Outcome.next (whenRunning_eq hr _)
  refine ⟨fun h0 hk h => ⟨_, run, ?_⟩, fun hk h u hu e he v hv => ⟨_, run, ?_⟩⟩
  · have held := endPort_held (p := p) (s := t) h0 hk (by rw [unit, frame]; exact h)
    rw [unit] at held
    rw [ended, held]
    refine ⟨rfl, rfl, fun hs i => ?_, rfl⟩
    have silent : (s.port p).merge.mute.isSome = true ∨
        3 ≤ ((s.port p).merge.countWithout (s.port p).lanes.anyUp).withoutLane := by
      refine hs.imp_right fun ⟨hn, hw⟩ => ?_
      simp only [Merge.countWithout, hn, satSucc, Config.silentAfter]
      simpa using hw
    exact (congrArg (Bank.get · i) (if_pos silent)).trans (Bank.get_const _ i)
  · obtain ⟨w, plays, lanes, merge, control⟩ := endPort_played (p := p) (s := t) hk (by rw [unit, frame]; exact h)
    rw [unit] at lanes merge
    have alike : SameControl p w v := by
      have same : SameControl p t s := ⟨congrArg PortUnit.control unit, congrArg (fun x => x.record.state) unit⟩
      rw [hv]
      refine ⟨control.control.trans ?_, control.state.trans ?_⟩ <;> split
      · exact same.control
      · exact (controlLocal_dropAssembly p _ same).control
      · exact same.state
      · exact (controlLocal_dropAssembly p _ same).state
    rw [← hu] at merge
    have next : (w.port p).merge.next = u.merge.next := by rw [merge]; rfl
    have entry : (w.port p).merge.entries.get (Fin.ofNat 8 (w.port p).merge.next) = e := by rw [he, next, merge]; rfl
    have chosen : chooseCopy (w.port p) e = chooseCopy u e := by
      unfold chooseCopy usableCopy
      rw [lanes, merge, hu]; rfl
    obtain ⟨playedLanes, playedMerge⟩ := playPort_unit p w
    obtain ⟨took, lost⟩ := playPort_control alike
    rw [entry, chosen] at playedMerge took lost
    rw [entry, lanes, next] at playedLanes
    have handed := fun c => Merge.play_handed (c := c) (m := u.merge.countWithout (s.port p).lanes.anyUp)
    have muted := fun c => Merge.play_handed_muted (c := c) (m := u.merge.countWithout (s.port p).lanes.anyUp)
    rw [merge] at playedMerge
    rw [ended, plays, playedMerge]
    subst hu
    refine ⟨?_, ?_, fun i => ?_, fun c hc => ⟨?_, ?_, ?_, fun hd hm => ?_⟩, fun hc => ⟨?_, ?_, ?_, fun hd hm i => ?_⟩,
      fun h i => muted _ h i, ?_, ?_, fun i => ?_, fun n => ?_⟩
    · rw [Merge.play_eq]; rfl
    · rw [Merge.play_eq]; rfl
    · rw [Merge.play_eq, Bank.get_put]
      simp only [eq_comm]
      rfl
    · rw [Merge.play_eq, hc]; rfl
    · rw [Merge.play_eq, hc]; rfl
    · exact took c hc
    · rw [handed _ hd hm, hc]; rfl
    · rw [Merge.play_eq, hc]; rfl
    · rw [Merge.play_eq, hc]; rfl
    · exact lost hc
    · rw [handed _ hd hm, hc]
      exact concealed_get _ _ i
    · rw [Merge.play_eq]
    · rw [Merge.play_eq]; rfl
    · rw [Merge.play_eq]; exact Bank.get_each _ _ _
    · rw [State.lane, ended, plays, playedLanes]
      exact Lanes.judge_get_eq _ _ _ _

end Sys2Proof.Machine
end

section
/-! PROOF. Notices, meters and counters: settles O45. -/

namespace Sys2Proof.Machine

/-! ### Ranges and the records of a port -/

theorem rangeOf_nodup {n first last : Nat} {cs : List (Fin n)} (h : rangeOf n first last = some cs) : cs.Nodup := by
  unfold rangeOf at h
  split at h
  · injection h with h
    exact h ▸ (nodup_indexes n).filter _
  · cases h

/-- A change made to the desk-channel records of a range, each once. -/
theorem forEach_modDesk_desk {p : Port} {f : DeskRecord → DeskRecord} {cs : List Chan} (hc : cs.Nodup) (s : State) (c : Chan) :
    (forEach (fun c => modDesk p c f) cs s).desk p c = if c ∈ cs then f (s.desk p c) else s.desk p c := by
  induction cs generalizing s with
  | nil => rfl
  | cons d cs ih =>
    obtain ⟨hd, hcs⟩ := List.nodup_cons.1 hc
    rw [forEach_cons, ih hcs, modDesk_desk]
    by_cases h : d = c
    · subst h; simp [hd]
    · simp [h, Ne.symm h]

/-- The limited channels of a range are told by the limited flags alone. -/
theorem limitedFields_congr {p : Port} {cs : List Chan} {s t : State} (h : ∀ c, (t.desk p c).limited = (s.desk p c).limited) :
    limitedFields p cs t = limitedFields p cs s := by
  simp only [limitedFields, limitedOf, h]

/-! ### Meters (R126, R170) -/

/-- The reading of a magnitude in tenths of a dB below full scale, rounded (R126). -/
noncomputable def tenthsUnder (m : Nat) : Int := -round (200 * Real.logb 10 ((m : ℝ) / 8388608))

/-- The comparison in whole numbers is that of the logarithms (R126). -/
theorem readsAtLeast_iff {m : Nat} (hm : 1 ≤ m) (k : Nat) : readsAtLeast m k = true ↔ tenthsUnder m ≤ k := by
  have pos : (0 : ℝ) < m := by exact_mod_cast hm
  have whole : readsAtLeast m k = true ↔ ((8388608 : ℝ)) ^ 400 ≤ (m : ℝ) ^ 400 * 10 ^ (2 * k + 1) := by
    unfold readsAtLeast
    rw [decide_eq_true_eq, ← Nat.cast_le (α := ℝ), pow_mul]
    simp only [Nat.cast_pow, Nat.cast_mul, Nat.cast_ofNat]
    rw [show (2 : ℝ) ^ 23 = 8388608 by norm_num]
  have logs : ((8388608 : ℝ)) ^ 400 ≤ (m : ℝ) ^ 400 * 10 ^ (2 * k + 1) ↔
      0 ≤ 400 * Real.logb 10 ((m : ℝ) / 8388608) + (2 * k + 1) := by
    have e : Real.logb 10 (((m : ℝ) / 8388608) ^ 400 * 10 ^ (2 * k + 1)) =
        400 * Real.logb 10 ((m : ℝ) / 8388608) + (2 * k + 1) := by
      rw [Real.logb_mul (by positivity) (by positivity), Real.logb_pow, Real.logb_pow, Real.logb_self_eq_one (by norm_num)]
      push_cast
      ring
    rw [← e, Real.logb_nonneg_iff (by norm_num) (by positivity), div_pow, div_mul_eq_mul_div, le_div_iff₀ (by positivity), one_mul]
  rw [whole, logs, tenthsUnder, round_eq, neg_le, Int.le_floor]
  push_cast
  constructor <;> intro h <;> linarith

/-- The search for the reading, from k on. -/
theorem tenthsBelow_eq {m : Nat} (hm : 1 ≤ m) (fuel k : Nat) :
    (tenthsBelow m fuel k : Int) = max (k : Int) (min ((k + fuel : Nat) : Int) (tenthsUnder m)) := by
  induction fuel generalizing k with
  | zero => rw [tenthsBelow]; omega
  | succ fuel ih =>
    rw [tenthsBelow]
    split
    · next h =>
      have := (readsAtLeast_iff hm k).1 h
      omega
    · next h =>
      have : ¬ tenthsUnder m ≤ k := fun hk => h ((readsAtLeast_iff hm k).2 hk)
      rw [ih]
      push_cast
      omega

theorem peakTenthsBelow_eq {m : Nat} (hm : 1 ≤ m) : (peakTenthsBelow m : Int) = max 0 (min 1200 (tenthsUnder m)) := by
  rw [peakTenthsBelow, if_neg (by omega), tenthsBelow_eq hm]
  norm_num

theorem peakTenthsBelow_le (m : Nat) : peakTenthsBelow m ≤ 1200 := by
  rcases Nat.eq_zero_or_pos m with rfl | hm
  · decide
  · have := peakTenthsBelow_eq hm
    omega

/-- The packed number of a READ METERS item holds its four fields apart (R170). -/
theorem meterItem_fields {p : Port} {s : State} {c : Chan} (hl : -400 ≤ (s.desk p c).comp) (hu : (s.desk p c).comp ≤ 400) :
    ∃ n, meterItem p s c = bytesOf 3 n ∧ n < 2 ^ 24 ∧ n / 2 ^ 13 = peakTenthsBelow (s.desk p c).peak ∧
      ((n / 2 ^ 3 % 2 ^ 10 : Nat) : Int) = (s.desk p c).comp + 400 ∧ n / 2 ^ 2 % 2 = (s.desk p c).limited.toNat ∧
      n / 2 % 2 = (decide (num c ∈ windowItems 64 (s.port p).plan.mic)).toNat ∧ n % 2 = 0 := by
  refine ⟨_, rfl, ?_⟩
  have peak := peakTenthsBelow_le (s.desk p c).peak
  have comp : (((s.desk p c).comp + 400).toNat : Int) = (s.desk p c).comp + 400 := Int.toNat_of_nonneg (by omega)
  have inWindow : (windowItems 64 (s.port p).plan.mic).contains (num c) =
      decide (num c ∈ windowItems 64 (s.port p).plan.mic) := List.contains_eq_mem _ _
  rw [inWindow]
  generalize peakTenthsBelow (s.desk p c).peak = k at *
  generalize ((s.desk p c).comp + 400).toNat = x at *
  cases (s.desk p c).limited <;> cases decide (num c ∈ windowItems 64 (s.port p).plan.mic) <;>
    simp only [Bool.false_eq_true, if_false, if_true, Bool.toNat_false, Bool.toNat_true] <;>
    refine ⟨?_, ?_, ?_, ?_, ?_, ?_⟩ <;> omega

/-! ### The requests (R12, R124, R126) -/

theorem serveArm_taken {p : Port} {m : Message} {s : State} {cs : List Chan}
    (hc : rangeOf 64 (u8 m.body 0) (u8 m.body 1) = some cs) (h1 : 1 ≤ u8 m.body 2) (h3 : u8 m.body 2 ≤ 3) :
    ∃ u, serveArm p m s = { state := u, status := .done, steps := cs.length, result := limitedFields p cs s } ∧
      ∀ c, u.desk p c = if c ∈ cs then { s.desk p c with
        clipArmed := if u8 m.body 2 = 2 then (s.desk p c).clipArmed else true,
        limitArmed := if u8 m.body 2 = 1 then (s.desk p c).limitArmed else true } else s.desk p c := by
  have armed (c : Chan) := forEach_modDesk_desk (p := p) (f := fun r => { r with
    clipArmed := r.clipArmed || decide (u8 m.body 2 ≠ 2),
    limitArmed := r.limitArmed || decide (u8 m.body 2 ≠ 1) }) (rangeOf_nodup hc) s c
  refine ⟨_, ?_, fun c => (armed c).trans ?_⟩
  · simp only [serveArm, hc, if_pos (And.intro h1 h3)]
    congr 1
    refine limitedFields_congr fun c => ?_
    rw [armed]
    split <;> rfl
  · congr 1
    by_cases h2 : u8 m.body 2 = 2 <;> by_cases h1 : u8 m.body 2 = 1 <;> simp [h1, h2]

theorem serveArm_refused {p : Port} {m : Message} {s : State}
    (h : rangeOf 64 (u8 m.body 0) (u8 m.body 1) = none ∨ u8 m.body 2 = 0 ∨ 3 < u8 m.body 2) :
    serveArm p m s = refuse .range s := by
  unfold serveArm
  dsimp only
  split
  · rfl
  · next cs hc =>
    refine if_neg fun k => ?_
    rw [hc] at h
    obtain h | h | h := h
    · cases h
    · omega
    · omega

theorem serveMeters_taken {p : Port} {m : Message} {s : State} {cs : List Chan}
    (hc : rangeOf 64 (u8 m.body 0) (u8 m.body 1) = some cs) (hl : cs.length ≤ 16) :
    ∃ u, serveMeters p m s = { state := u, status := .done, steps := cs.length, result := cs.flatMap (meterItem p s) } ∧
      ∀ c, u.desk p c = if c ∈ cs then { s.desk p c with peak := 0 } else s.desk p c := by
  refine ⟨_, ?_, forEach_modDesk_desk (f := fun r => { r with peak := 0 }) (rangeOf_nodup hc) s⟩
  simp only [serveMeters, hc, if_neg (Nat.not_lt.2 hl)]

theorem serveClearCounters_refused {m : Message} {s : State}
    (h : u8 m.body 0 = 0 ∨ 3 < u8 m.body 0 ∨ u8 m.body 1 = 0 ∨ 3 < u8 m.body 1) :
    serveClearCounters m s = refuse .range s := by
  unfold serveClearCounters
  split
  · next q ns hq hn =>
    have named : 1 ≤ u8 m.body 1 ∧ u8 m.body 1 ≤ 3 := by
      unfold lanesNamed at hn
      split at hn
      case h_4 => cases hn
      all_goals omega
    have port : ¬ (u8 m.body 0 = 0 ∨ 3 < u8 m.body 0) := fun k => by rw [portOf_eq_none.2 k] at hq; cases hq
    omega
  · rfl

/-- The counters of the lanes named are 0, those of the others stand (R12). -/
theorem forEach_clear_port {q : Port} {ns : List LaneName} (hn : ns.Nodup) (s : State) :
    (∀ n, (forEach (fun n => modLane q n fun l => { l with errors := 0, drops := 0 }) ns s).lane q n =
      if n ∈ ns then { s.lane q n with errors := 0, drops := 0 } else s.lane q n) ∧
      ∀ r, r ≠ q → (forEach (fun n => modLane q n fun l => { l with errors := 0, drops := 0 }) ns s).port r = s.port r := by
  refine ⟨fun n => ?_, fun r hr => Elsewhere.forEach (q := q) (fun n t => elsewhere_modPort q _ t) ns s r hr⟩
  induction ns generalizing s with
  | nil => rfl
  | cons m ns ih =>
    obtain ⟨hm, hns⟩ := List.nodup_cons.1 hn
    rw [forEach_cons, ih hns]
    have lane : (modLane q m (fun l => { l with errors := 0, drops := 0 }) s).lane q n =
        if m = n then { s.lane q n with errors := 0, drops := 0 } else s.lane q n := by
      rw [State.lane, modLane_port, if_pos rfl]
      refine (lanes_get_put _ _ _ _).trans ?_
      split
      · next e => subst e; rfl
      · rfl
    rw [lane]
    by_cases h : m = n
    · subst h; simp [hm]
    · simp [h, Ne.symm h]

theorem serveClearCounters_taken {q : Port} {m : Message} {s : State} (hq : u8 m.body 0 = num q) (h1 : 1 ≤ u8 m.body 1)
    (h3 : u8 m.body 1 ≤ 3) :
    ∃ u, serveClearCounters m s = taken .done [] u ∧
      u.lane q .A = (if u8 m.body 1 = 2 then s.lane q .A else { s.lane q .A with errors := 0, drops := 0 }) ∧
      u.lane q .B = (if u8 m.body 1 = 1 then s.lane q .B else { s.lane q .B with errors := 0, drops := 0 }) ∧
      ∀ r, r ≠ q → u.port r = s.port r := by
  have named : ∃ ns, lanesNamed (u8 m.body 1) = some ns ∧ ns.Nodup ∧ (LaneName.A ∈ ns ↔ u8 m.body 1 ≠ 2) ∧
      (LaneName.B ∈ ns ↔ u8 m.body 1 ≠ 1) := by
    have code : u8 m.body 1 = 1 ∨ u8 m.body 1 = 2 ∨ u8 m.body 1 = 3 := by omega
    obtain h | h | h := code <;> rw [h]
    · exact ⟨[.A], rfl, by decide, by decide, by decide⟩
    · exact ⟨[.B], rfl, by decide, by decide, by decide⟩
    · exact ⟨[.A, .B], rfl, by decide, by decide, by decide⟩
  obtain ⟨ns, hn, hd, ha, hb⟩ := named
  obtain ⟨lanes, others⟩ := forEach_clear_port (q := q) hd s
  refine ⟨_, ?_, (lanes .A).trans ?_, (lanes .B).trans ?_, others⟩
  · simp only [serveClearCounters, hq, portOf_num, hn]
  · simp only [ha, ite_not]
  · simp only [hb, ite_not]

/-- Settles O45, request by request. -/
theorem noticesMetersAndCounters : Obligations.NoticesMetersAndCounters := by
  intro p q m s
  have arm : exec (.armNotices p) s = .next (whenRunning (serve p kindArmNotices (serveArm p)) s) := rfl
  have meters : exec (.readMeters p) s = .next (whenRunning (serve p kindReadMeters (serveMeters p)) s) := rfl
  have clear : exec (.clearLaneCounters p) s = .next (whenRunning (serve p kindClearLaneCounters serveClearCounters) s) := rfl
  refine ⟨fun cs hc => ⟨fun ha h1 h3 => ?_, fun ha hl => ?_, fun ha hl => ?_⟩, fun c hl hu => meterItem_fields hl hu, rfl,
    fun peak hp => peakTenthsBelow_eq hp, fun hc => ⟨fun ha => ?_, fun ha => ?_⟩, fun ha h => ?_, fun ha hq h1 h3 => ?_,
    fun ha h => ?_⟩
  · obtain ⟨u, e, desks⟩ := serveArm_taken (p := p) (s := s) hc h1 h3
    have served := exec_served ha arm
    rw [e] at served
    exact ⟨u, served, desks⟩
  · obtain ⟨u, e, desks⟩ := serveMeters_taken (p := p) (s := s) hc hl
    have served := exec_served ha meters
    rw [e] at served
    exact ⟨u, served, desks⟩
  · exact exec_refused ha meters (by simp only [serveMeters, hc, if_pos hl])
  · exact exec_refused ha arm (serveArm_refused (.inl hc))
  · exact exec_refused ha meters (by simp only [serveMeters, hc])
  · exact exec_refused ha arm (serveArm_refused (.inr h))
  · obtain ⟨u, e, lanes⟩ := serveClearCounters_taken (s := s) hq h1 h3
    have served := exec_served ha clear
    rw [e] at served
    exact ⟨u, served, lanes⟩
  · exact exec_refused ha clear (serveClearCounters_refused h)

end Sys2Proof.Machine
end

section
/-! PROOF. The reads: settles O60. -/

namespace Sys2Proof.Machine

/-! ### Bytes -/

@[simp] theorem toNat_byte (n : Nat) : (byte n).toNat = n % 256 := BitVec.toNat_ofNat n 8

@[simp] theorem length_bytesOf (k n : Nat) : (bytesOf k n).length = k := by
  induction k with
  | zero => rfl
  | succ k ih => rw [bytesOf, List.length_cons, ih]

@[simp] theorem length_signedBytes (k : Nat) (x : Int) : (signedBytes k x).length = k := length_bytesOf _ _

@[simp] theorem length_bytesOrNone (k d : Nat) (o : Option Nat) : (bytesOrNone k d o).length = k := by
  cases o <;> exact length_bytesOf _ _

theorem numByte_eq {n : Nat} (o : Option (Fin n)) : numByte o = [byte (o.elim 0 num)] := by cases o <;> rfl

theorem flagByte_eq (b : Bool) : flagByte b = [byte b.toNat] := by cases b <;> rfl

@[simp] theorem length_streamBytes (x : Stream) : (streamBytes x).length = 4 := by
  cases x with
  | silence => rfl
  | ret _ => rfl
  | fallback _ _ => simp [streamBytes]

/-- The three places of the priority order are its whole list. -/
theorem priorityBytes_eq {l : List Port} (h : l.length = 3) :
    (List.range 3).map (fun i => byte ((l.map num).getD i 0)) = l.map (fun r => byte (num r)) := by
  obtain ⟨a, b, c, rfl⟩ := List.length_eq_three.1 h
  rfl

/-! ### Requests that name a port or a range -/

theorem portOf_some {k : Nat} {q : Port} (h : k = num q) : portOf k = some q := h ▸ portOf_num q

/-- A read whose owner answers with a result and leaves the state is answered with that result. -/
theorem exec_read {c : Instr} {p : Port} {kind : Byte} {m : Message} {owner : Message → State → Served} {s : State}
    {steps : Nat} {result : List Byte} (h : Accepted p kind m s) (hc : exec c s = .next (whenRunning (serve p kind owner) s))
    (ho : owner m s = { state := s, status := .done, steps := steps, result := result }) :
    exec c s = .next (answered p m .done steps result s) := by
  rw [exec_served h hc, ho]

theorem serveReadPort_refused {m : Message} (s : State) (h : portOf (u8 m.body 0) = none) :
    serveReadPort m s = refuse .range s := by
  unfold serveReadPort; rw [h]

theorem serveReadLanes_refused {m : Message} (s : State) (h : portOf (u8 m.body 0) = none) :
    serveReadLanes m s = refuse .range s := by
  unfold serveReadLanes; rw [h]

theorem serveReadPlan_refused {m : Message} (s : State) (h : portOf (u8 m.body 0) = none) :
    serveReadPlan m s = refuse .range s := by
  unfold serveReadPlan; rw [h]

/-- READ CHANNELS takes at most 8 channels (R68). -/
theorem serveReadChannels_refused {m : Message} (s : State)
    (h : ∀ cs, rangeOf 64 (u8 m.body 0) (u8 m.body 1) = some cs → 8 < cs.length) :
    serveReadChannels m s = refuse .range s := by
  unfold serveReadChannels
  cases hr : rangeOf 64 (u8 m.body 0) (u8 m.body 1) with
  | none => rfl
  | some cs => exact if_pos (h cs hr)

/-- READ OUTPUTS takes at most 2 outputs (R138). -/
theorem serveReadOutputs_refused {m : Message} (s : State)
    (h : ∀ outs, rangeOf 32 (u8 m.body 0) (u8 m.body 1) = some outs → 2 < outs.length) :
    serveReadOutputs m s = refuse .range s := by
  unfold serveReadOutputs
  cases hr : rangeOf 32 (u8 m.body 0) (u8 m.body 1) with
  | none => rfl
  | some outs => exact if_pos (h outs hr)

theorem serveReadChannels_range {m : Message} {cs : List Chan} (s : State)
    (hr : rangeOf 64 (u8 m.body 0) (u8 m.body 1) = some cs) (hl : cs.length ≤ 8) :
    serveReadChannels m s = { state := s, status := .done, steps := cs.length, result := cs.flatMap (channelItem s) } := by
  unfold serveReadChannels; rw [hr]; exact if_neg (by omega)

theorem serveReadOutputs_range {m : Message} {outs : List OutNo} (s : State)
    (hr : rangeOf 32 (u8 m.body 0) (u8 m.body 1) = some outs) (hl : outs.length ≤ 2) :
    serveReadOutputs m s =
      { state := s, status := .done, steps := outs.length,
        result := outs.flatMap (fun n => outputItem (liveTalker s).isSome (s.output n)) ++ numByte (liveTalker s) } := by
  unfold serveReadOutputs; rw [hr]; exact if_neg (by omega)

/-! ### READ PORT, READ LANES and READ PLAN -/

theorem lossHoldTarget_eq (h : Settings) : h.lossHoldTarget = 24000 * h.lossHold := by
  simp only [Settings.lossHoldTarget, Config.framesPerMs]; omega

theorem msRoundedUp_eq (n : Nat) : msRoundedUp n = (n + 47) / 48 := rfl

/-- The remaining loss hold of READ PORT: a time while the port is ISOLATED, FFFFh otherwise (R38). -/
theorem holdRemaining_bytes (u : PortUnit) (h : Settings) :
    msBytes (holdRemaining u h) = match u.record.state, u.record.lossHold with
      | .isolated, some e => bytesOf 2 ((24000 * h.lossHold - e + 47) / 48)
      | _, _ => [0xFF, 0xFF] := by
  unfold holdRemaining
  cases u.record.state <;> cases u.record.lossHold <;>
    simp only [msRoundedUp_eq, lossHoldTarget_eq, msBytes, bytesOrNone] <;> rfl

theorem laneBytes_eq (l : Lane) :
    laneBytes l = [byte l.state.code, byte (if l.overBudget then 1 else 0)] ++ bytesOrNone 3 0xFFFFFF l.lastLag ++
      bytesOf 3 l.qualify ++ [byte l.misses] ++ bytesOf 2 l.errors ++ [byte l.drops] := rfl

/-- The three length bytes of READ PLAN at either rate (R114, R117). -/
theorem planLengths_bytes (r : Rate) (ret total : Nat) :
    [byte ret, byte (Config.capacity r), byte (slotsPerItem r * total)] = match r with
      | .single => [byte ret, 95, byte total]
      | .double => [byte ret, 47, byte (2 * total)] := by
  cases r with
  | single => rw [slotsPerItem, Nat.one_mul]; rfl
  | double => rfl

/-! ### READ CARDS -/

theorem entriesFor_eq (k : Card) (s : State) :
    entriesFor k s = s.bus.writeQueue.countP fun c => decide (cardOf c = k) := List.countP_eq_length_filter.symm

theorem cardItem_eq (s : State) : cardItem s = fun k =>
    [byte (s.card k).state.code, byte (if (s.card k).known then 1 else 0), byte (s.card k).timeouts] ++
      bytesOrNone 2 0xFFFF ((s.card k).lastPoll.map fun e => (s.hubFrame - e) / 48) ++
      [(s.card k).status.getD 0xFF, byte (s.bus.writeQueue.countP fun c => decide (cardOf c = k))] := by
  funext k
  simp only [cardItem, entriesFor_eq, List.append_assoc]
  rfl

/-! ### READ TALK -/

theorem liveTarget_eq (h : Settings) : h.liveTarget = 48000 * h.liveLimit := Nat.mul_comm _ _

theorem liveTalker_eq (s : State) : liveTalker s = s.talk.claims.head?.map Claim.port := rfl

theorem liveTalker_isSome (s : State) : (liveTalker s).isSome = !s.talk.claims.isEmpty := by
  rw [liveTalker_eq]
  cases s.talk.claims <;> rfl

/-! ### READ CONSENT -/

theorem consentTarget_eq (h : Settings) : h.consentTarget = 48000 * h.consentWindow := Nat.mul_comm _ _

theorem proposalBytes_eq (h : Settings) (p : Port) (o : Option Proposal) :
    proposalBytes h p o = match o with
      | none => [0, 0, 0, 0, 0, 0, 0xFF, 0xFF, 0]
      | some pr => [byte pr.number] ++ actionBytes pr.action ++ [byte (num pr.proposer)] ++ setByte pr.voters ++
          bytesOf 2 ((48000 * h.consentWindow - pr.elapsed + 47) / 48) ++ [byte (if pr.voters.get p then 1 else 0)] := by
  cases o with
  | none => rfl
  | some pr => rw [proposalBytes, consentTarget_eq, msRoundedUp_eq]; rfl

/-! ### A READ CHANNELS item -/

theorem bool_toNat_ite (b : Bool) (n : Nat) : (if b then n else 0) = n * b.toNat := by cases b <;> simp

theorem toNat_gainByte (v : GainPad) (top : Bool) :
    (gainByte v top).toNat = v.gain % 64 + 64 * v.pad.toNat + 128 * top.toNat := by
  have pad := Bool.toNat_le v.pad
  have flag := Bool.toNat_le top
  rw [gainByte, bool_toNat_ite, bool_toNat_ite, toNat_byte]
  omega

/-- The authority set of a channel as a number: bit 0 for the first port, and so on. -/
theorem authorityBits (a : Bank 3 Bool) :
    (indexes 3).foldl (fun n i => if a.get i then n + 2 ^ i.val else n) 0 =
      (a.get 0).toNat + 2 * (a.get 1).toNat + 4 * (a.get 2).toNat := by
  have fold : (indexes 3).foldl (fun n i => if a.get i then n + 2 ^ i.val else n) 0 =
      ([0, 1, 2] : List Port).foldl (fun n i => if a.get i then n + 2 ^ i.val else n) 0 := rfl
  rw [fold]
  simp only [List.foldl]
  cases a.get 0 <;> cases a.get 1 <;> cases a.get 2 <;> rfl

theorem CardState.code_le (x : CardState) : x.code ≤ 1 := by cases x <;> decide

theorem PhantomState.code_le (x : PhantomState) : x.code ≤ 5 := by cases x <;> decide

theorem elim_num_le {n : Nat} (o : Option (Fin n)) : o.elim 0 num ≤ n := by
  cases o with
  | none => exact Nat.zero_le _
  | some i => exact i.isLt

/-- The fourth byte of an item fits in 8 bits: the authority set, who wrote the desired values, the queue flag and the card
state (R170). -/
theorem channelItem_flags (s : State) (c : Chan) :
    u8 (channelItem s c) 3 = (((s.channel c).authority.get 0).toNat + 2 * ((s.channel c).authority.get 1).toNat +
      4 * ((s.channel c).authority.get 2).toNat) + 8 * (s.channel c).desiredBy.elim 0 num +
      32 * (decide (c ∈ s.bus.writeQueue)).toNat + 64 * (s.card (cardOf c)).state.code := by
  have card := CardState.code_le (s.card (cardOf c)).state
  have by_ := elim_num_le (s.channel c).desiredBy
  have queued := Bool.toNat_le (decide (c ∈ s.bus.writeQueue))
  have a := Bool.toNat_le ((s.channel c).authority.get 0)
  have b := Bool.toNat_le ((s.channel c).authority.get 1)
  have d := Bool.toNat_le ((s.channel c).authority.get 2)
  have flag : (if c ∈ s.bus.writeQueue then 32 else 0) = 32 * (decide (c ∈ s.bus.writeQueue)).toNat := by
    rw [← bool_toNat_ite]; simp
  have item : u8 (channelItem s c) 3 = (byte _).toNat := rfl
  rw [item, toNat_byte, authorityBits, flag]
  omega

/-- Bit r of the fourth byte tells whether port r has authority (R170). -/
theorem channelItem_authority (s : State) (c : Chan) (r : Port) :
    u8 (channelItem s c) 3 / 2 ^ r.val % 2 = ((s.channel c).authority.get r).toNat := by
  have a := Bool.toNat_le ((s.channel c).authority.get 0)
  have b := Bool.toNat_le ((s.channel c).authority.get 1)
  have d := Bool.toNat_le ((s.channel c).authority.get 2)
  rw [channelItem_flags]
  match r with
  | 0 => simp only [Fin.val_zero]; omega
  | 1 => simp only [Fin.val_one]; omega
  | 2 => simp only [Fin.val_two]; omega

theorem channelItem_desiredBy (s : State) (c : Chan) :
    u8 (channelItem s c) 3 / 8 % 4 = (s.channel c).desiredBy.elim 0 num := by
  have by_ := elim_num_le (s.channel c).desiredBy
  have queued := Bool.toNat_le (decide (c ∈ s.bus.writeQueue))
  have a := Bool.toNat_le ((s.channel c).authority.get 0)
  have b := Bool.toNat_le ((s.channel c).authority.get 1)
  have d := Bool.toNat_le ((s.channel c).authority.get 2)
  rw [channelItem_flags]
  omega

theorem channelItem_queued (s : State) (c : Chan) :
    u8 (channelItem s c) 3 / 32 % 2 = (decide (c ∈ s.bus.writeQueue)).toNat := by
  have by_ := elim_num_le (s.channel c).desiredBy
  have queued := Bool.toNat_le (decide (c ∈ s.bus.writeQueue))
  have a := Bool.toNat_le ((s.channel c).authority.get 0)
  have b := Bool.toNat_le ((s.channel c).authority.get 1)
  have d := Bool.toNat_le ((s.channel c).authority.get 2)
  rw [channelItem_flags]
  omega

theorem channelItem_card (s : State) (c : Chan) : u8 (channelItem s c) 3 / 64 = (s.card (cardOf c)).state.code := by
  have by_ := elim_num_le (s.channel c).desiredBy
  have queued := Bool.toNat_le (decide (c ∈ s.bus.writeQueue))
  have a := Bool.toNat_le ((s.channel c).authority.get 0)
  have b := Bool.toNat_le ((s.channel c).authority.get 1)
  have d := Bool.toNat_le ((s.channel c).authority.get 2)
  rw [channelItem_flags]
  omega

/-- The fifth byte of an item: the phantom state, and above it how many applications are pending (R170). -/
theorem channelItem_phantom (s : State) (c : Chan) :
    u8 (channelItem s c) 4 = ((s.phantomOf c).state.code + 8 * (s.channel c).applications.length) % 256 := toNat_byte _

/-- The first byte of an item: the desired values and the switched phantom (R170). -/
theorem channelItem_desired (s : State) (c : Chan) :
    u8 (channelItem s c) 0 = (s.channel c).desired.gain % 64 + 64 * (s.channel c).desired.pad.toNat +
      128 * (s.channel c).phantom.toNat := toNat_gainByte _ _

theorem channelItem_unknown {s : State} {c : Chan} (h : (s.channel c).applied = none) :
    u8 (channelItem s c) 1 = 0 ∧ u8 (channelItem s c) 2 = 0 := by
  constructor <;> simp [channelItem, u8, h]

theorem channelItem_known {s : State} {c : Chan} {v w : GainPad} {ph : Bool} (hv : (s.channel c).applied = some v)
    (hw : (s.channel c).switched = some w) (hp : (s.channel c).cardPhantom = some ph) :
    u8 (channelItem s c) 1 = w.gain % 64 + 64 * w.pad.toNat + 128 * ph.toNat ∧
      u8 (channelItem s c) 2 = v.gain % 64 + 64 * v.pad.toNat + 128 := by
  have second : u8 (channelItem s c) 1 = (gainByte w ph).toNat := by simp [channelItem, u8, hv, hw, hp]
  have third : u8 (channelItem s c) 2 = (gainByte v true).toNat := by simp [channelItem, u8, hv]
  exact ⟨second.trans (toNat_gainByte w ph), third.trans (toNat_gainByte v true)⟩

/-- The last two bytes of an item: the due frame of the last pending application (R170). -/
theorem channelItem_due (s : State) (c : Chan) :
    u16 (channelItem s c) 5 = ((s.channel c).applications.getLast?.elim 0 Application.due) % 65536 := by
  have high : u8 (channelItem s c) 5 = (byte (_ / 256)).toNat := rfl
  have low : u8 (channelItem s c) 6 = (byte (_ / 1)).toNat := rfl
  rw [u16, high, low, toNat_byte, toNat_byte]
  simp only [Config.seqMod]
  omega

/-! ### A READ OUTPUTS item -/

theorem delayTarget_eq (o : Output) : o.delayTarget = 4800 * o.fallbackDelay := by
  simp only [Output.delayTarget, Config.framesPerMs]; omega

/-- The remaining fallback delay of an item: a time while the output is WAITING, FFFFh otherwise (R137). -/
theorem remainingMs_bytes (o : Output) :
    msBytes o.remainingMs = match o.state, o.timer with
      | .waiting, some e => bytesOf 2 ((4800 * o.fallbackDelay - e + 47) / 48)
      | _, _ => [0xFF, 0xFF] := by
  unfold Output.remainingMs
  cases o.state <;> cases o.timer <;>
    simp only [msRoundedUp_eq, delayTarget_eq, msBytes, bytesOrNone] <;> rfl

theorem crossfade_bytes (x : Option Crossfade) :
    bytesOrNone 2 0xFFFF (x.map Crossfade.steps) ++ streamBytes ((x.map Crossfade.old).getD .silence) ++
        streamBytes ((x.map Crossfade.new).getD .silence) =
      match x with
      | none => [0xFF, 0xFF, 0, 0, 0, 0, 0, 0, 0, 0]
      | some y => bytesOf 2 y.steps ++ streamBytes y.old ++ streamBytes y.new := by
  cases x <;> rfl

theorem dimTarget_eq (talking : Bool) (o : Output) :
    o.dimTarget talking = if talking then (match o.dim with | .level x => coefficientOf x | .mute => 0) else 65536 := rfl

@[simp] theorem length_sourceBytes (x : Option Source) : (sourceBytes x).length = 2 := by cases x <;> rfl

@[simp] theorem length_dimBytes (x : Dim) : (dimBytes x).length = 2 := by
  cases x with
  | level t => exact length_signedBytes 2 t
  | mute => rfl

theorem length_outputItem (talking : Bool) (o : Output) : (outputItem talking o).length = 29 := by
  simp [outputItem, numByte_eq, flagByte_eq, msBytes]

theorem outputItem_eq (talking : Bool) (o : Output) :
    outputItem talking o =
      (match o.source with | none => [0, 0] | some x => [byte (num x.port), byte (num x.ret)]) ++
        [byte (o.patchedBy.elim 0 num), byte (o.fallbackChannel.elim 0 num)] ++ signedBytes 2 o.fallbackLevel ++
        [byte o.fallbackDelay, byte o.listen.toNat] ++
        (match o.dim with | .level x => signedBytes 2 x | .mute => [0x80, 0x00]) ++
        [byte (match o.state with | .normal => 0 | .waiting => 1 | .fallback => 2)] ++
        (match o.state, o.timer with
          | .waiting, some e => bytesOf 2 ((4800 * o.fallbackDelay - e + 47) / 48)
          | _, _ => [0xFF, 0xFF]) ++
        (match o.crossfade with
          | none => [0xFF, 0xFF, 0, 0, 0, 0, 0, 0, 0, 0]
          | some x => bytesOf 2 x.steps ++ streamBytes x.old ++ streamBytes x.new) ++
        bytesOf 3 o.dimCoefficient ++
        bytesOf 3 (if talking then (match o.dim with | .level x => coefficientOf x | .mute => 0) else 65536) := by
  rw [← dimTarget_eq, ← crossfade_bytes, ← remainingMs_bytes]
  simp only [outputItem, numByte_eq, flagByte_eq, List.append_assoc, List.cons_append, List.nil_append]
  rfl

/-- Settles O60: each read's result is laid out field by field by the lemmas above. -/
theorem readsAnswerTheState : Obligations.ReadsAnswerTheState := by
  unfold Obligations.ReadsAnswerTheState
  intro p q m s
  refine ⟨fun hq => ?named, fun hq => ?unnamed, fun h => ?hub, fun h => ?cards, fun h => ?channels, fun h => ?outputs,
    fun h hl => ?talk, fun h => ?consent, fun c => ?channelItem, fun talking o => ⟨length_outputItem talking o,
    outputItem_eq talking o⟩, rfl, fun _ => rfl, fun _ _ => rfl⟩
  case named =>
    refine ⟨fun h => exec_read h rfl ?_, fun h => exec_read h rfl ?_, fun h => exec_read h rfl ?_⟩
    · simp only [serveReadPort, portOf_some hq, holdRemaining_bytes]
      rfl
    · simp only [serveReadLanes, portOf_some hq, laneBytes_eq, List.flatMap_cons, List.flatMap_nil, List.append_nil,
        List.append_assoc]
      rfl
    · simp only [serveReadPlan, portOf_some hq, planLengths_bytes]
      rfl
  case unnamed =>
    have none : portOf (u8 m.body 0) = none := portOf_eq_none.2 hq
    exact ⟨fun h => exec_refused h rfl (serveReadPort_refused s none),
      fun h => exec_refused h rfl (serveReadLanes_refused s none),
      fun h => exec_refused h rfl (serveReadPlan_refused s none)⟩
  case hub => exact exec_read h rfl rfl
  case cards =>
    refine exec_read h rfl ?_
    rw [serveReadCards, cardItem_eq]
    rfl
  case channels =>
    exact ⟨fun cs hr hl => exec_read h rfl (serveReadChannels_range s hr hl),
      fun hr => exec_refused h rfl (serveReadChannels_refused s hr)⟩
  case outputs =>
    refine ⟨fun outs hr hl => exec_read h rfl ?_, fun hr => exec_refused h rfl (serveReadOutputs_refused s hr)⟩
    rw [serveReadOutputs_range s hr hl, liveTalker_isSome, liveTalker_eq]
  case talk =>
    refine exec_read h rfl ?_
    simp only [serveReadTalk, priorityBytes_eq hl, liveTarget_eq, liveTalker_eq]
    simp only [taken, flagByte, List.append_assoc, List.cons_append, List.nil_append]
  case consent =>
    refine exec_read h rfl ?_
    simp only [serveReadConsent, proposalBytes_eq]
    rfl
  case channelItem =>
    refine ⟨rfl, channelItem_desired s c, channelItem_unknown, fun v hv w hw ph hp => channelItem_known hv hw hp,
      channelItem_authority s c, channelItem_desiredBy s c, channelItem_queued s c, ?card, ?phantom, ?pending,
      channelItem_due s c⟩
    case card => exact channelItem_card s c
    case phantom =>
      have code := PhantomState.code_le (s.phantomOf c).state
      rw [channelItem_phantom]
      refine Eq.trans ?_ (rfl : (s.phantomOf c).state.code = _)
      omega
    case pending =>
      intro hl
      have code := PhantomState.code_le (s.phantomOf c).state
      rw [channelItem_phantom]
      omega

end Sys2Proof.Machine
end

section
/-! PROOF. The start of a frame period: settles O48. -/

namespace Sys2Proof.Machine

/-! ### What the building of frames leaves -/

/-- What the building of frames leaves: all but the ports' control channels and frames sent, and of the desk-channel records all
but the peaks and the armed notices. -/
structure Delivering (s t : State) : Prop where
  agree : Agree [.ports, .desks] s t
  unit : ∀ p, ∃ k f, t.port p = { s.port p with control := k, sent := f }
  desk : ∀ p c, ∃ m a, t.desk p c = { s.desk p c with peak := m, clipArmed := a }

theorem Delivering.refl (s : State) : Delivering s s := ⟨.refl s, fun _ => ⟨_, _, rfl⟩, fun _ _ => ⟨_, _, rfl⟩⟩

theorem Delivering.trans {s t u : State} (h : Delivering s t) (g : Delivering t u) : Delivering s u := by
  refine ⟨h.agree.trans g.agree, fun p => ?_, fun p c => ?_⟩
  · obtain ⟨k, f, e⟩ := g.unit p
    obtain ⟨k', f', e'⟩ := h.unit p
    exact ⟨k, f, by rw [e, e']⟩
  · obtain ⟨m, a, e⟩ := g.desk p c
    obtain ⟨m', a', e'⟩ := h.desk p c
    exact ⟨m, a, by rw [e, e']⟩

theorem Delivering.ite {b : Prop} [Decidable b] {s t u : State} (h : Delivering s t) (g : Delivering s u) :
    Delivering s (if b then t else u) := by
  split
  · exact h
  · exact g

theorem Delivering.forEach {α : Type} {f : α → State → State} (hf : ∀ a s, Delivering s (f a s)) (l : List α) (s : State) :
    Delivering s (forEach f l s) := by
  induction l generalizing s with
  | nil => exact .refl s
  | cons a l ih => exact (hf a s).trans (ih (f a s))

theorem delivering_modDesk {f : DeskRecord → DeskRecord} (hf : ∀ r, ∃ m a, f r = { r with peak := m, clipArmed := a }) (p : Port)
    (c : Chan) (s : State) : Delivering s (modDesk p c f s) := by
  refine ⟨(agree_modDesk p c f s).mono rfl, fun q => ⟨_, _, rfl⟩, fun q d => ?_⟩
  rw [modDesk_desk]
  split
  · next h => obtain ⟨rfl, rfl⟩ := h; exact hf _
  · exact ⟨_, _, rfl⟩

theorem delivering_modPort {f : PortUnit → PortUnit} (hf : ∀ u, ∃ k x, f u = { u with control := k, sent := x }) (p : Port)
    (s : State) : Delivering s (modPort p f s) := by
  refine ⟨(agree_modPort p f s).mono rfl, fun q => ?_, fun _ _ => ⟨_, _, rfl⟩⟩
  by_cases h : p = q
  · subst h; rw [modPort_port_same]; exact hf _
  · rw [modPort_port_ne h]; exact ⟨_, _, rfl⟩

theorem delivering_postTo (p : Port) (r : Report) (s : State) : Delivering s (postTo p r s) :=
  .ite (.refl s) (delivering_modPort (fun _ => ⟨_, _, rfl⟩) p s)

theorem delivering_clipNotice (p : Port) (c : Chan) (slots : List Slot) (s : State) :
    Delivering s (clipNotice p c slots s) := by
  unfold clipNotice
  split
  · exact .refl _
  · exact .ite ((delivering_postTo p _ _).trans (delivering_modDesk (fun _ => ⟨_, _, rfl⟩) p c _)) (.refl _)

/-- The meter of one delivered channel raised (R125). -/
def meterRaised (p : Port) (c : Chan) (s : State) : State :=
  modDesk p c (fun r => { r with peak := raisedPeak r.peak (micSlots s p c) }) s

theorem judgeChannel_eq (p : Port) (c : Chan) (s : State) :
    judgeChannel p c s = clipNotice p c (micSlots s p c) (meterRaised p c s) := rfl

theorem delivering_meterRaised (p : Port) (c : Chan) (s : State) : Delivering s (meterRaised p c s) :=
  delivering_modDesk (fun _ => ⟨_, _, rfl⟩) p c s

theorem delivering_judgeChannel (p : Port) (c : Chan) (s : State) : Delivering s (judgeChannel p c s) :=
  (delivering_meterRaised p c s).trans (delivering_clipNotice p c _ _)

theorem delivering_judgeWindow (p : Port) (s : State) : Delivering s (judgeWindow p s) :=
  .forEach (fun n => delivering_judgeChannel p (chanNumbered n)) _ s

theorem delivering_sendFrame (seq : Nat) (p : Port) (s : State) : Delivering s (sendFrame seq p s) :=
  (delivering_judgeWindow p s).trans (delivering_modPort (fun _ => ⟨_, _, rfl⟩) p _)

theorem delivering_sendFrames (seq : Nat) (s : State) : Delivering s (sendFrames seq s) :=
  .forEach (delivering_sendFrame seq) _ s

section
variable {s t : State} (h : Delivering s t)
include h

theorem Delivering.hubFrame : t.hubFrame = s.hubFrame := h.agree .hubFrame (by decide)
theorem Delivering.rate : t.rate = s.rate := h.agree .rate (by decide)
theorem Delivering.rateMute : t.rateMute = s.rateMute := h.agree .rateMute (by decide)
theorem Delivering.retained : t.retained = s.retained := h.agree .retained (by decide)
theorem Delivering.phantom : t.phantom = s.phantom := h.agree .phantom (by decide)
theorem Delivering.outputs : t.outputs = s.outputs := h.agree .outputs (by decide)
theorem Delivering.talk : t.talk = s.talk := h.agree .talk (by decide)
theorem Delivering.mics : t.mics = s.mics := h.agree .mics (by decide)

theorem Delivering.phantomOf (c : Chan) : t.phantomOf c = s.phantomOf c := congrArg (Bank.get · c) h.phantom

theorem Delivering.output (o : OutNo) : t.output o = s.output o := congrArg (Bank.get · o) h.outputs

theorem Delivering.record (p : Port) : (t.port p).record = (s.port p).record := by
  obtain ⟨k, f, e⟩ := h.unit p; rw [e]

theorem Delivering.merge (p : Port) : (t.port p).merge = (s.port p).merge := by
  obtain ⟨k, f, e⟩ := h.unit p; rw [e]

theorem Delivering.plan (p : Port) : (t.port p).plan = (s.port p).plan := by
  obtain ⟨k, f, e⟩ := h.unit p; rw [e]

theorem Delivering.coefficient (p : Port) (c : Chan) : (t.desk p c).coefficient = (s.desk p c).coefficient := by
  obtain ⟨m, a, e⟩ := h.desk p c; rw [e]

theorem Delivering.nextFrame (p : Port) (c : Chan) :
    (t.desk p c).nextFrame.coefficient = (s.desk p c).nextFrame.coefficient := by
  obtain ⟨m, a, e⟩ := h.desk p c
  rw [e]
  unfold DeskRecord.nextFrame
  dsimp only
  split
  · rfl
  · split
    · split <;> rfl
    · rfl

theorem Delivering.silenced (c : Chan) : silenced t c = silenced s c := by
  have cards : t.cards = s.cards := h.agree .cards (by decide)
  unfold Machine.silenced State.cardPresent State.card
  rw [cards, h.phantomOf]

theorem Delivering.micSlots (p : Port) (c : Chan) : micSlots t p c = micSlots s p c := by
  simp only [Machine.micSlots, micSlot, h.rate, h.rateMute, h.mics, h.silenced, h.coefficient]

theorem Delivering.returnSlots (q : Nat) : returnSlots t q = returnSlots s q := by
  simp only [Machine.returnSlots, h.rate, h.rateMute, h.merge]

theorem Delivering.talkSlot (p : Port) : talkSlot t p = talkSlot s p := by
  have settings : t.settings = s.settings := h.agree .settings (by decide)
  simp only [Machine.talkSlot, liveTalker, h.talk, settings, h.mics, h.silenced, h.merge]

/-- The slots of a frame stand while frames are built (R117). -/
theorem Delivering.frameSlots (p : Port) : frameSlots t p = frameSlots s p := by
  have returns : Machine.returnSlots t = Machine.returnSlots s := funext fun q => h.returnSlots q
  simp only [Machine.frameSlots, planSlots, h.plan, h.micSlots, h.talkSlot, returns]

end

/-! ### The clip notices of a window -/

/-- The CLIP report that a channel's slots call for, where its notice is armed and the port is not VACANT (R123). -/
def clipReport (s : State) (p : Port) (c : Chan) (slots : List Slot) : Option Report :=
  if (s.desk p c).clipArmed ∧ s.portState p ≠ .vacant then
    (slots.find? fun x => decide (x.cond = .clipped)).map fun x =>
      .clip c s.hubFrame (decide (x.sample < 0)) (s.desk p c).comp (s.channel c).net
  else none

theorem clipReports_eq (s : State) (p : Port) :
    clipReports s p = (windowItems 64 (s.port p).plan.mic).filterMap fun n =>
      clipReport s p (chanNumbered n) (micSlots s p (chanNumbered n)) := rfl

/-- The report is told by the record's armed notice and compensation, among what frames change. -/
theorem Delivering.clipReport {s t : State} (h : Delivering s t) {p : Port} {c : Chan} (slots : List Slot)
    (armed : (t.desk p c).clipArmed = (s.desk p c).clipArmed) : clipReport t p c slots = clipReport s p c slots := by
  have channels : t.channels = s.channels := h.agree .channels (by decide)
  have comp : (t.desk p c).comp = (s.desk p c).comp := by
    obtain ⟨m, a, e⟩ := h.desk p c; rw [e]
  unfold Machine.clipReport State.portState State.channel
  rw [armed, h.record, h.hubFrame, channels, comp]

theorem clipNotice_control (p : Port) (c : Chan) (slots : List Slot) (s : State) :
    ((clipNotice p c slots s).port p).control = (clipReport s p c slots).toList.foldl Control.offer (s.port p).control := by
  unfold clipNotice clipReport
  cases slots.find? fun x => decide (x.cond = .clipped) with
  | none => simp only [Option.map_none, ite_self]; rfl
  | some x =>
    dsimp only
    by_cases h : (s.desk p c).clipArmed ∧ s.portState p ≠ .vacant
    · rw [if_pos h, if_pos h]
      have posted := postTo_port p (.clip c s.hubFrame (decide (x.sample < 0)) (s.desk p c).comp (s.channel c).net) s p
      rw [if_pos ⟨rfl, h.2⟩] at posted
      exact congrArg PortUnit.control posted
    · rw [if_neg h, if_neg h]; rfl

theorem clipNotice_desk_ne {p q : Port} {c d : Chan} (h : ¬ (p = q ∧ c = d)) (slots : List Slot) (s : State) :
    (clipNotice p c slots s).desk q d = s.desk q d := by
  have posts (r : Report) : (postTo p r s).desk q d = s.desk q d :=
    congrArg (fun b => (b.get q).get d) ((agree_postTo p r s) .desks (by decide))
  unfold clipNotice
  split
  · rfl
  · split
    · rw [modDesk_desk, if_neg h, posts]
    · rfl

theorem meterRaised_clipArmed (p q : Port) (c d : Chan) (s : State) :
    ((meterRaised p c s).desk q d).clipArmed = (s.desk q d).clipArmed := by
  rw [meterRaised, modDesk_desk]
  split
  · next h => obtain ⟨rfl, rfl⟩ := h; rfl
  · rfl

/-- One channel of a window offers its CLIP report, where it calls for one. -/
theorem judgeChannel_control (p : Port) (c : Chan) (s : State) :
    ((judgeChannel p c s).port p).control =
      (clipReport s p c (micSlots s p c)).toList.foldl Control.offer (s.port p).control := by
  rw [judgeChannel_eq, clipNotice_control,
    (delivering_meterRaised p c s).clipReport _ (meterRaised_clipArmed p p c c s)]
  rfl

theorem judgeChannel_clipArmed_ne {p q : Port} {c d : Chan} (h : ¬ (p = q ∧ c = d)) (s : State) :
    ((judgeChannel p c s).desk q d).clipArmed = (s.desk q d).clipArmed := by
  rw [judgeChannel_eq, clipNotice_desk_ne h, meterRaised_clipArmed]

/-- The channels of a window, each once, offer their CLIP reports in window order. -/
theorem forEach_judgeChannel_control {p : Port} {ns : List Nat} (hn : (ns.map chanNumbered).Nodup) {s t : State}
    (h : Delivering s t) (armed : ∀ n ∈ ns, (t.desk p (chanNumbered n)).clipArmed = (s.desk p (chanNumbered n)).clipArmed) :
    ((forEach (fun n => judgeChannel p (chanNumbered n)) ns t).port p).control =
      (ns.filterMap fun n => clipReport s p (chanNumbered n) (micSlots s p (chanNumbered n))).foldl Control.offer
        (t.port p).control := by
  induction ns generalizing t with
  | nil => rfl
  | cons n ns ih =>
    rw [List.map_cons, List.nodup_cons] at hn
    obtain ⟨new, hn⟩ := hn
    have rest : ∀ k ∈ ns, ((judgeChannel p (chanNumbered n) t).desk p (chanNumbered k)).clipArmed =
        (s.desk p (chanNumbered k)).clipArmed := fun k hk => by
      rw [judgeChannel_clipArmed_ne, armed k (List.mem_cons_of_mem n hk)]
      exact fun e => new (e.2 ▸ List.mem_map_of_mem hk)
    rw [forEach_cons, ih hn (h.trans (delivering_judgeChannel p _ t)) rest, judgeChannel_control, h.micSlots,
      h.clipReport _ (armed n List.mem_cons_self), List.filterMap_cons]
    cases clipReport s p (chanNumbered n) (micSlots s p (chanNumbered n)) <;> rfl

/-- The channels of a window that lies within 1 to 64 are each numbered once (R113). -/
theorem windowItems_nodup {o : Option Window} (h : ∀ w, o = some w → w.within 64) :
    ((windowItems 64 o).map chanNumbered).Nodup := by
  cases o with
  | none => exact List.nodup_nil
  | some w =>
    obtain ⟨h1, h2, h3, h4⟩ := h w rfl
    have len : w.length 64 ≤ 64 := by unfold Window.length; split <;> omega
    rw [windowItems, List.map_map]
    refine List.Nodup.map_on (fun i hi j hj e => ?_) List.nodup_range
    rw [List.mem_range] at hi hj
    have v := congrArg Fin.val e
    simp only [Function.comp, chanNumbered, Fin.ofNat] at v
    omega

/-! ### The frame of one port -/

theorem elsewhere_judgeWindow (q : Port) (s : State) : Elsewhere q s (judgeWindow q s) := by
  have desks (p : Port) (c : Chan) (f : DeskRecord → DeskRecord) (t : State) : Elsewhere q t (modDesk p c f t) :=
    fun _ _ => rfl
  refine Elsewhere.forEach (fun n t => ?_) _ s
  rw [judgeChannel_eq]
  refine .trans (t := meterRaised q (chanNumbered n) t) (desks q _ _ t) ?_
  unfold clipNotice
  split
  · exact .refl q _
  · exact .ite ((elsewhere_postTo q _ _).trans (desks q _ _ _)) (.refl q _)

theorem elsewhere_sendFrame (seq : Nat) (q : Port) (s : State) : Elsewhere q s (sendFrame seq q s) :=
  (elsewhere_judgeWindow q s).trans (elsewhere_modPort q _ _)

/-- Another port's frame leaves the armed notices of a port. -/
theorem sendFrame_clipArmed_ne {p q : Port} (h : p ≠ q) (seq : Nat) (s : State) (c : Chan) :
    ((sendFrame seq q s).desk p c).clipArmed = (s.desk p c).clipArmed :=
  forEach_keeps (P := fun t : State => (t.desk p c).clipArmed = (s.desk p c).clipArmed)
    (fun _ t ht => (judgeChannel_clipArmed_ne (fun e => h e.1.symm) t).trans ht) _ s rfl

theorem Control.fill_length (deskHold : Bool) (n : Nat) (k : Control) : (Control.fill deskHold n k).1.length ≤ n := by
  induction n generalizing k with
  | zero => exact Nat.le_refl 0
  | succ n ih =>
    rw [Control.fill]
    split
    · exact Nat.zero_le _
    · exact Nat.succ_le_succ (ih _)

/-- What port p is sent in a frame built from s under the sequence number given, and its control channel after it
(R1, R49, R117, R168). -/
def SentFrom (seq : Nat) (s : State) (p : Port) (u : PortUnit) : Prop :=
  ∃ f, u.sent = some f ∧ f.seq = seq ∧ f.hold = (s.port p).control.hold ∧
    f.rate = s.rate ∧ f.stageTalk = s.talk.active ∧ f.slots = frameSlots s p ∧ f.control.length ≤ 4 ∧
    f.check = checkOf f.covered ∧
    ((∀ w, (s.port p).plan.mic = some w → w.within 64) →
      (f.control, u.control) =
        Control.fill (s.port p).merge.deskHold 4 ((clipReports s p).foldl Control.offer (s.port p).control))

theorem DownFrame.checked_covered (f : DownFrame) : f.checked.covered = f.covered := by
  unfold DownFrame.covered DownFrame.checked; rfl

theorem DownFrame.checked_check (f : DownFrame) : f.checked.check = checkOf f.checked.covered := by
  rw [DownFrame.checked_covered]
  dsimp only [DownFrame.checked]

/-- The frame of port p, where the frames of other ports may have been built before it. -/
theorem sentFrom_sendFrame {s t : State} {p : Port} (h : Delivering s t) (unit : t.port p = s.port p)
    (armed : ∀ c, (t.desk p c).clipArmed = (s.desk p c).clipArmed) (seq : Nat) :
    SentFrom seq s p ((sendFrame seq p t).port p) := by
  have judged := delivering_judgeWindow p t
  have hold : ((judgeWindow p t).port p).control.hold = (s.port p).control.hold := by
    obtain ⟨rs, -, e⟩ := offers_judgeWindow p t p
    rw [e, unit]
    exact Control.foldl_offer_hold rs _
  rw [sendFrame, modPort_port_same]
  refine ⟨_, rfl, rfl, hold, judged.rate.trans h.rate, ?_, h.frameSlots p,
    Control.fill_length _ _ _, DownFrame.checked_check _, fun within => ?_⟩
  · exact congrArg Talk.active (judged.talk.trans h.talk)
  · have field : ((judgeWindow p t).port p).control = (clipReports s p).foldl Control.offer (s.port p).control := by
      rw [judgeWindow, unit, forEach_judgeChannel_control (windowItems_nodup within) h (fun n _ => armed _), unit,
        clipReports_eq]
    have deskHold : ((judgeWindow p t).port p).merge = (s.port p).merge := (judged.merge p).trans (h.merge p)
    change (_, _) = _
    rw [← field, ← deskHold]
    rfl

theorem sentFrom_sendFrames (seq : Nat) (s : State) (p : Port) : SentFrom seq s p ((sendFrames seq s).port p) := by
  obtain ⟨t, ⟨h, armed⟩, unit, e⟩ := forEach_port (f := sendFrame seq) (l := indexes 3) (p := p)
    (P := fun t => Delivering s t ∧ ∀ c, (t.desk p c).clipArmed = (s.desk p c).clipArmed) (elsewhere_sendFrame seq)
    (fun q t hq ht => ⟨ht.1.trans (delivering_sendFrame seq q t),
      fun c => (sendFrame_clipArmed_ne hq seq t c).trans (ht.2 c)⟩)
    (nodup_indexes 3) (mem_indexes p) ⟨.refl s, fun _ => rfl⟩
  rw [sendFrames, e]
  exact sentFrom_sendFrame h unit armed seq

/-! ### What counts in a frame period -/

theorem tickFrame_port (s : State) (p : Port) : (tickFrame s).port p = (s.port p).tick := Bank.get_each _ _ _

theorem tickFrame_phantomOf (s : State) (c : Chan) : (tickFrame s).phantomOf c = (s.phantomOf c).tick := Bank.get_each _ _ _

theorem tickFrame_output (s : State) (o : OutNo) : (tickFrame s).output o = (s.output o).tick := Bank.get_each _ _ _

theorem tickFrame_desk (s : State) (p : Port) (c : Chan) : (tickFrame s).desk p c = (s.desk p c).nextFrame := by
  simp only [State.desk, tickFrame, Bank.get_each]

theorem dimStep_stands (o : Output) :
    o.dimStep.timer = o.timer ∧ o.dimStep.state = o.state ∧ o.dimStep.crossfade = o.crossfade := by
  unfold Output.dimStep
  split
  · split <;> exact ⟨rfl, rfl, rfl⟩
  · exact ⟨rfl, rfl, rfl⟩

theorem dimStep_ramping {o : Output} {x : Ramp} (hx : o.dimRamp = some x) (h : x.steps < 32) :
    o.dimStep.dimRamp = some { x with steps := x.steps + 1 } ∧
      o.dimStep.dimCoefficient =
        ((x.start : Int) + Int.tdiv (((x.target : Int) - x.start) * ((x.steps : Int) + 1)) 32).toNat := by
  have step : x.advance = { x with steps := x.steps + 1 } := by
    simp only [Ramp.advance, satSucc, Config.rampSteps, Nat.min_eq_right (Nat.succ_le_of_lt h)]
  have value : x.advance.value =
      ((x.start : Int) + Int.tdiv (((x.target : Int) - x.start) * ((x.steps : Int) + 1)) 32).toNat := by
    rw [step]; rfl
  have going : o.dimStep = { o with dimCoefficient := x.advance.value, dimRamp := some x.advance } := by
    unfold Output.dimStep; rw [hx]; exact if_pos h
  rw [going]
  exact ⟨congrArg some step, value⟩

theorem dimStep_still {o : Output} (h : ∀ x, o.dimRamp = some x → 32 ≤ x.steps) : o.dimStep = o := by
  unfold Output.dimStep
  cases hx : o.dimRamp with
  | none => rfl
  | some x => exact if_neg (Nat.not_lt.2 (h x hx))

/-- An output in a new frame period (R129, R132, R133). -/
theorem tick_output (o : Output) :
    o.tick.timer = o.timer.map (fun e => e + 1) ∧ o.tick.state = o.state ∧
      o.tick.crossfade = (o.crossfade.map fun x => { x with steps := min 480 (x.steps + 1) }) ∧
      (∀ x, o.dimRamp = some x → x.steps < 32 → o.tick.dimRamp = some { x with steps := x.steps + 1 } ∧
        o.tick.dimCoefficient =
          ((x.start : Int) + Int.tdiv (((x.target : Int) - x.start) * ((x.steps : Int) + 1)) 32).toNat) ∧
      ((∀ x, o.dimRamp = some x → 32 ≤ x.steps) →
        o.tick.dimRamp = o.dimRamp ∧ o.tick.dimCoefficient = o.dimCoefficient) := by
  unfold Output.tick
  obtain ⟨timer, state, crossfade⟩ :=
    dimStep_stands { o with timer := tickTimer o.timer, crossfade := o.crossfade.map Crossfade.advance }
  refine ⟨timer, state, crossfade, fun x hx hs => dimStep_ramping hx hs, fun hx => ?_⟩
  have still := dimStep_still
    (o := { o with timer := tickTimer o.timer, crossfade := o.crossfade.map Crossfade.advance }) hx
  rw [still]
  exact ⟨rfl, rfl⟩

/-! ### The frame period -/

/-- At the first frame period nothing is counted (R2). -/
theorem startFrame_first {s : State} (hb : s.begun = false) :
    ∃ d, Delivering s d ∧ (∀ p, SentFrom (s.hubFrame % 65536) s p (d.port p)) ∧
      startFrame s = { d with begun := true, played := false } := by
  refine ⟨_, delivering_sendFrames _ s, sentFrom_sendFrames _ s, ?_⟩
  unfold startFrame
  simp only [hb, Bool.false_eq_true, false_and, if_false]
  rfl

theorem startFrame_next {s : State} (hb : s.begun = true) (hp : s.played = true) :
    ∃ d, Delivering s d ∧ (∀ p, SentFrom ((s.hubFrame + 1) % 65536) s p (d.port p)) ∧
      startFrame s = { tickFrame d with begun := true, played := false } := by
  refine ⟨_, delivering_sendFrames _ s, sentFrom_sendFrames _ s, ?_⟩
  unfold startFrame
  simp only [hb, hp, not_true_eq_false, and_false, if_false, if_true]
  rfl

/-- The counts of a frame period leave the frames sent and the control channels. -/
theorem SentFrom.tick {seq : Nat} {s : State} {p : Port} {u : PortUnit} (h : SentFrom seq s p u) : SentFrom seq s p u.tick := h

/-- Settles O48: the frames are built one port after another from a state that differs in control channels, peaks and armed
notices alone, and then the timers count. -/
theorem framePeriodStarts : Obligations.FramePeriodStarts := by
  unfold Obligations.FramePeriodStarts
  intro s hp hs
  refine ⟨startFrame s, congrArg Host.Outcome.next (whenRunning_eq hp _), ?_⟩
  cases hb : s.begun with
  | false =>
    obtain ⟨d, h, sent, e⟩ := startFrame_first hb
    have hub : (startFrame s).hubFrame = s.hubFrame := by rw [e]; exact h.hubFrame
    rw [e] at hub ⊢
    refine ⟨rfl, rfl, hub, fun p => ?_, nofun, fun _ => ⟨h.rateMute, h.retained, h.phantom, h.outputs, h.coefficient⟩⟩
    rw [hub]
    exact sent p
  | true =>
    have played : s.played = true := hs.resolve_left (by rw [hb]; decide)
    obtain ⟨d, h, sent, e⟩ := startFrame_next hb played
    have hub : (startFrame s).hubFrame = s.hubFrame + 1 := by rw [e]; exact congrArg (· + 1) h.hubFrame
    have port (p : Port) : (startFrame s).port p = (d.port p).tick := by rw [e]; exact tickFrame_port d p
    have phantom (c : Chan) : (startFrame s).phantomOf c = (s.phantomOf c).tick := by
      rw [e, ← h.phantomOf]; exact tickFrame_phantomOf d c
    have output (o : OutNo) : (startFrame s).output o = (s.output o).tick := by
      rw [e, ← h.output]; exact tickFrame_output d o
    have desk (p : Port) (c : Chan) : (startFrame s).desk p c = (d.desk p c).nextFrame := by
      rw [e]; exact tickFrame_desk d p c
    refine ⟨by rw [e], by rw [e], hub, fun p => ?_, fun _ => ⟨fun p => ?_, phantom, fun o => ?_, ?_, ?_, ?_, fun p c => ?_⟩,
      nofun⟩
    · rw [hub, port]
      exact (sent p).tick
    · rw [port, ← h.record]; rfl
    · rw [output]
      exact tick_output _
    · rw [e]; exact congrArg (Option.map (· - 1)) h.rateMute
    · rw [e]; exact congrArg (fun r : Retained => r.tick.quiet) h.retained
    · rw [e]; exact congrArg (fun r : Retained => r.tick.write) h.retained
    · rw [desk, h.nextFrame]

end Sys2Proof.Machine
end

section
/-! PROOF. SET HUB, its fields and what the changed lane and port settings do: the layer under O35. -/

namespace Sys2Proof.Machine

/-! ### The fields of a SET HUB (R55) -/

theorem hubField_fst (b : List Byte) (bit lo hi n now : Nat) :
    (hubField b bit lo hi n now).1 = if u16 b 0 / 2 ^ bit % 2 = 1 then max lo (min hi n) else now := by
  unfold hubField whenSet
  split <;> rfl

/-- A field counts as clamped where it is present and out of its range. -/
theorem hubField_snd {lo hi : Nat} (h : lo ≤ hi) (b : List Byte) (bit n now : Nat) :
    (hubField b bit lo hi n now).2 = true ↔ u16 b 0 / 2 ^ bit % 2 = 1 ∧ (n < lo ∨ hi < n) := by
  have clamped : clampNat lo hi n ≠ n ↔ n < lo ∨ hi < n := by unfold clampNat; omega
  unfold hubField whenSet
  split
  · next hb => simp only [Option.getD_some, clampedTo, decide_eq_true_eq, clamped, hb, true_and]
  · next hb => simp [hb]

/-- The settings that a SET HUB asks for, given the priority order it names (R55). -/
def hubAsked (b : List Byte) (order : List Port) (h : Settings) : Settings :=
  { converterDelay := if u16 b 0 % 2 = 1 then min 63 (u8 b 2) else h.converterDelay
    rampTime := if u16 b 0 / 2 % 2 = 1 then max 1 (min 20 (u8 b 3)) else h.rampTime
    settleTime := if u16 b 0 / 4 % 2 = 1 then max 2 (min 30 (u8 b 4)) else h.settleTime
    consentWindow := if u16 b 0 / 8 % 2 = 1 then max 1 (min 30 (u8 b 5)) else h.consentWindow
    liveLimit := if u16 b 0 / 16 % 2 = 1 then max 5 (min 120 (u8 b 6)) else h.liveLimit
    priority := if u16 b 0 / 32 % 2 = 1 then order else h.priority
    lossHold := if u16 b 0 / 64 % 2 = 1 then max 1 (min 20 (u8 b 10)) else h.lossHold
    qualifyTime := if u16 b 0 / 128 % 2 = 1 then max 1 (min 1000 (u16 b 11)) else h.qualifyTime
    source := if u16 b 0 / 256 % 2 = 1 then (if u8 b 13 = 1 then .wordclock else .internal) else h.source
    stageChannel := if u16 b 0 / 512 % 2 = 1 then ofNum 64 (min 64 (u8 b 14)) else h.stageChannel }

/-- A present field of a SET HUB lies out of its range. -/
def HubClamped (b : List Byte) : Prop :=
  (u16 b 0 % 2 = 1 ∧ 63 < u8 b 2) ∨ (u16 b 0 / 2 % 2 = 1 ∧ (u8 b 3 < 1 ∨ 20 < u8 b 3)) ∨
    (u16 b 0 / 4 % 2 = 1 ∧ (u8 b 4 < 2 ∨ 30 < u8 b 4)) ∨ (u16 b 0 / 8 % 2 = 1 ∧ (u8 b 5 < 1 ∨ 30 < u8 b 5)) ∨
    (u16 b 0 / 16 % 2 = 1 ∧ (u8 b 6 < 5 ∨ 120 < u8 b 6)) ∨ (u16 b 0 / 64 % 2 = 1 ∧ (u8 b 10 < 1 ∨ 20 < u8 b 10)) ∨
    (u16 b 0 / 128 % 2 = 1 ∧ (u16 b 11 < 1 ∨ 1000 < u16 b 11)) ∨ (u16 b 0 / 512 % 2 = 1 ∧ 64 < u8 b 14)

theorem settingsGiven_order (b : List Byte) (h : Settings) (order : List Port)
    (ho : u16 b 0 / 32 % 2 = 1 → orderGiven b = some order) :
    (whenSet (u16 b 0) 5 (orderGiven b)).getD (some h.priority) =
      some (if u16 b 0 / 32 % 2 = 1 then order else h.priority) := by
  have present : whenSet (u16 b 0) 5 (orderGiven b) = if u16 b 0 / 32 % 2 = 1 then some (orderGiven b) else none := rfl
  rw [present]
  split
  · next hb => exact ho hb
  · rfl

theorem settingsGiven_clockSource (b : List Byte) (h : Settings) (hs : u16 b 0 / 256 % 2 = 1 → u8 b 13 ≤ 1) :
    (whenSet (u16 b 0) 8 (sourceOf (u8 b 13))).getD (some h.source) =
      some (if u16 b 0 / 256 % 2 = 1 then (if u8 b 13 = 1 then .wordclock else .internal) else h.source) := by
  have present : whenSet (u16 b 0) 8 (sourceOf (u8 b 13)) =
      if u16 b 0 / 256 % 2 = 1 then some (sourceOf (u8 b 13)) else none := rfl
  rw [present]
  split
  · next hb =>
    obtain h0 | h1 : u8 b 13 = 0 ∨ u8 b 13 = 1 := by have := hs hb; omega
    · rw [h0]; rfl
    · rw [h1]; rfl
  · rfl

/-- A SET HUB with an order and a source that are none of the refused ones asks for `hubAsked`. -/
theorem settingsGiven_eq {b : List Byte} {order : List Port} (h : Settings)
    (ho : u16 b 0 / 32 % 2 = 1 → orderGiven b = some order) (hs : u16 b 0 / 256 % 2 = 1 → u8 b 13 ≤ 1) :
    ∃ clamped, settingsGiven b h = some (hubAsked b order h, clamped) ∧ (clamped = true ↔ HubClamped b) := by
  unfold settingsGiven
  rw [settingsGiven_order b h order ho, settingsGiven_clockSource b h hs]
  refine ⟨_, congrArg some (Prod.ext ?_ rfl), ?_⟩
  · have stage : ofNum 64 (if u16 b 0 / 512 % 2 = 1 then min 64 (u8 b 14) else h.stageChannel.elim 0 num) =
        if u16 b 0 / 512 % 2 = 1 then ofNum 64 (min 64 (u8 b 14)) else h.stageChannel := by
      split
      · rfl
      · exact ofNum_elim_num _
    simp only [hubField_fst, hubAsked, Nat.reducePow, pow_zero, Nat.div_one, Nat.zero_max, stage]
  · simp only [Bool.or_eq_true, hubField_snd (Nat.zero_le _), hubField_snd (show 1 ≤ 20 by decide),
      hubField_snd (show 2 ≤ 30 by decide), hubField_snd (show 1 ≤ 30 by decide), hubField_snd (show 5 ≤ 120 by decide),
      hubField_snd (show 1 ≤ 1000 by decide), Nat.reducePow, pow_zero, Nat.div_one, HubClamped, Nat.not_lt_zero, false_or,
      or_assoc]

/-- A bad priority order or clock source refuses the request (R55, step 1). -/
theorem settingsGiven_none {b : List Byte} (h : Settings)
    (bad : (u16 b 0 / 32 % 2 = 1 ∧ orderGiven b = none) ∨ (u16 b 0 / 256 % 2 = 1 ∧ 1 < u8 b 13)) :
    settingsGiven b h = none := by
  unfold settingsGiven
  obtain ⟨hb, ho⟩ | ⟨hb, hs⟩ := bad
  · have order : (whenSet (u16 b 0) 5 (orderGiven b)).getD (some h.priority) = none := by
      rw [ho]; exact congrArg (Option.getD · _) (if_pos hb)
    rw [order]
  · have source : (whenSet (u16 b 0) 8 (sourceOf (u8 b 13))).getD (some h.source) = none := by
      have code : sourceOf (u8 b 13) = none := by
        generalize u8 b 13 = k at hs
        match k, hs with
        | k + 2, _ => rfl
      rw [code]; exact congrArg (Option.getD · _) (if_pos hb)
    rw [source]
    split
    · next e => cases e
    · rfl

/-! ### One event for each of a list of things -/

/-- What one of the events makes of a state that the events before it leave standing, where the events after it leave that. -/
theorem forEach_then {α : Type} {f : α → State → State} {x : α} {D Q : State → Prop} (before : ∀ y t, y ≠ x → D t → D (f y t))
    (hit : ∀ t, D t → Q (f x t)) (after : ∀ y t, y ≠ x → Q t → Q (f y t)) {l : List α} (hl : l.Nodup) (hx : x ∈ l)
    {s : State} (hs : D s) : Q (forEach f l s) := by
  induction l generalizing s with
  | nil => cases hx
  | cons y l ih =>
    obtain ⟨hy, hl⟩ := List.nodup_cons.1 hl
    rw [forEach_cons]
    by_cases h : y = x
    · subst h
      have rest : ∀ ys : List α, y ∉ ys → ∀ t, Q t → Q (forEach f ys t) := fun ys hys t ht => by
        induction ys generalizing t with
        | nil => exact ht
        | cons z ys ih =>
          rw [List.mem_cons, not_or] at hys
          exact ih hys.2 _ (after z t (Ne.symm hys.1) ht)
      exact rest l hy _ (hit s hs)
    · exact ih hl ((List.mem_cons.1 hx).resolve_left (Ne.symm h)) (before y s h hs)

/-! ### The lanes tested against the qualify time (R10) -/

/-- A lane tested against a qualify target. -/
def Lane.tested (target : Nat) (l : Lane) : Lane := if l.state = .qualifying ∧ target ≤ l.qualify then l.raise else l

theorem Lane.tested_due {target : Nat} {l : Lane} (h : l.state = .qualifying) (hd : target ≤ l.qualify) :
    l.tested target = l.raise := if_pos ⟨h, hd⟩

theorem laneEvent_lane_ne {p q : Port} {n m : LaneName} (h : ¬ (q = p ∧ m = n)) (why : LaneReason) (f : Lane → Lane)
    (s : State) : (laneEvent p n why f s).lane q m = s.lane q m := by
  by_cases hq : q = p
  · subst hq
    rw [State.lane, laneEvent_lanes, lanes_get_put, if_neg fun e => h ⟨rfl, e.symm⟩]
    rfl
  · have unit := (offers_laneEvent p n why f s).lane q m
    rwa [State.lane, State.lane, modPort_port_ne (Ne.symm hq)] at unit

theorem qualify_lane_same (p : Port) (n : LaneName) (s : State) :
    (qualify p n s).lane p n = (s.lane p n).tested s.settings.qualifyTarget := by
  unfold qualify Lane.tested
  split
  · exact laneEvent_lane p n .qualified Lane.raise s
  · rfl

theorem qualify_lane_ne {p q : Port} {n m : LaneName} (h : ¬ (q = p ∧ m = n)) (s : State) :
    (qualify p n s).lane q m = s.lane q m := by
  unfold qualify
  split
  · exact laneEvent_lane_ne h .qualified Lane.raise s
  · rfl

/-- A raised lane makes its port controller link or rejoin the port, if anything (R26, R28): neither talk nor consent is
touched. -/
theorem agree_lanesChanged_up {p : Port} {s : State} (h : (s.port p).lanes.anyUp = true) (was : Bool) :
    Agree [.ports, .outputs] s (lanesChanged p was s) := by
  unfold lanesChanged
  dsimp only
  rw [h]
  refine Agree.ite (Agree.refl s) ?_
  split
  · exact ((agree_modRecord _ _ _).mono rfl).andThen (agree_postPort _ _ _) rfl
  · exact (((agree_modRecord _ _ _).mono rfl).andThen (agree_outputsReturned _ _) rfl).andThen (agree_postPort _ _ _) rfl
  · next e => cases e
  · next e => cases e
  · exact Agree.refl s

theorem Lanes.anyUp_of_isUp {ls : Lanes} {n : LaneName} (h : ls.isUp n = true) : ls.anyUp = true := by
  unfold Lanes.anyUp
  cases n
  · rw [h]; rfl
  · rw [h]; exact Bool.or_true _

theorem Lane.raise_isUp {ls : Lanes} {n : LaneName} {l : Lane} : (ls.put n l.raise).isUp n = true := by
  rw [Lanes.isUp_iff, lanes_get_put_same]; rfl

theorem agree_raised (p : Port) (n : LaneName) (why : LaneReason) (s : State) :
    Agree [.ports, .outputs] s (laneEvent p n why Lane.raise s) := by
  rw [laneEvent_eq]
  have moved : Agree [.ports] s (postLane p n why (modPort p (PortUnit.laneMoved n Lane.raise) s)) :=
    (agree_modPort _ _ _).trans (agree_postLane _ _ _ _)
  have up (t : State) (h : Offers [0] (modPort p (PortUnit.laneMoved n Lane.raise) s) t) : (t.port p).lanes.isUp n = true := by
    rw [h.lanes, modPort_port_same]; exact Lane.raise_isUp
  exact Agree.trans (Agree.mono (Agree.ite (moved.trans (agree_postLane _ _ _ _)) moved) rfl)
    (agree_lanesChanged_up (Lanes.anyUp_of_isUp (up _ (Offers.also (offers_postLane _ _ _ _) (offers_postLane _ _ _ _)))) _)

theorem agree_qualify_ports (p : Port) (n : LaneName) (s : State) : Agree [.ports, .outputs] s (qualify p n s) :=
  Agree.ite (agree_raised p n .qualified s) (Agree.refl s)

/-- The six lanes in the order in which a changed qualify time tests them (Assumption 36). -/
def lanesInOrder : List (Port × LaneName) := [(0, .A), (0, .B), (1, .A), (1, .B), (2, .A), (2, .B)]

theorem lanesInOrder_nodup : lanesInOrder.Nodup := by decide

theorem mem_lanesInOrder (x : Port × LaneName) : x ∈ lanesInOrder := by
  obtain ⟨p, n⟩ := x
  revert p
  cases n <;> decide

theorem qualifyAll_eq (s : State) : qualifyAll s = forEach (fun x => qualify x.1 x.2) lanesInOrder s := by
  have ports : indexes 3 = [0, 1, 2] := rfl
  unfold qualifyAll lanesInOrder
  rw [ports]
  simp only [forEach, List.foldl]

theorem agree_qualifyAll_ports (s : State) : Agree [.ports, .outputs] s (qualifyAll s) := by
  rw [qualifyAll_eq]
  exact Agree.forEach (f := fun x : Port × LaneName => qualify x.1 x.2) (fun x t => agree_qualify_ports x.1 x.2 t)
    lanesInOrder s

theorem qualify_settings (p : Port) (n : LaneName) (s : State) : (qualify p n s).settings = s.settings :=
  agree_qualify_ports p n s .settings (by decide)

/-- Every lane is tested once, and no other lane's event changes it. -/
theorem qualifyAll_lane (q : Port) (n : LaneName) (s : State) :
    (qualifyAll s).lane q n = (s.lane q n).tested s.settings.qualifyTarget := by
  rw [qualifyAll_eq]
  refine forEach_then (x := (q, n)) (D := fun t => t.settings = s.settings ∧ t.lane q n = s.lane q n)
    (Q := fun t => t.lane q n = (s.lane q n).tested s.settings.qualifyTarget) (fun y t hy ht => ?_) (fun t ht => ?_)
    (fun y t hy ht => ?_) lanesInOrder_nodup (mem_lanesInOrder _) ⟨rfl, rfl⟩
  · exact ⟨(qualify_settings _ _ t).trans ht.1,
      (qualify_lane_ne (fun e => hy (Prod.ext e.1.symm e.2.symm)) t).trans ht.2⟩
  · rw [qualify_lane_same, ht.1, ht.2]
  · rw [qualify_lane_ne (fun e => hy (Prod.ext e.1.symm e.2.symm)) t, ht]

/-! ### LANE STATE of a raised lane stays heard (R13, R19) -/

/-- A raised lane that was not UP becomes active itself or leaves the active lane. -/
theorem raised_active {p : Port} {n : LaneName} {why : LaneReason} {s : State} (down : (s.port p).lanes.isUp n = false) :
    ((laneEvent p n why Lane.raise s).port p).merge.active = (s.port p).merge.active ∨
      ((laneEvent p n why Lane.raise s).port p).merge.active = n := by
  have active := congrArg Merge.active (laneEvent_merge p n why Lane.raise s)
  rw [active]
  dsimp only
  unfold activeAfter
  rw [if_neg fun e => by rw [down] at e; exact absurd e.1 (by decide)]
  split
  · exact .inr rfl
  · exact .inl rfl

/-- A lane that is raised is not reported in place of another lane of its port. -/
theorem stillHeard_raised {p q : Port} {n m : LaneName} {why w : LaneReason} {s : State} (down : (s.port p).lanes.isUp n = false)
    (h : ¬ (q = p ∧ m = n)) {st : LaneState} {lag : Option Nat} {active : LaneName} :
    StillHeard (.laneState q m st w lag active) s (laneEvent p n why Lane.raise s) := by
  have key {k : LaneName} {a : LaneState} {x : LaneReason} {y : Option Nat} {z : LaneName} (hk : ¬ (q = p ∧ m = k)) :
      (Report.laneState q m st w lag active).key ≠ (Report.laneState p k a x y z).key := by
    by_cases hq : q = p
    · subst hq; exact laneState_key_ne fun e => hk ⟨rfl, e⟩
    · intro e
      have e := congrArg Prod.snd e
      refine hq (Fin.ext ?_)
      cases m <;> cases k <;> simp only [Report.key] at e <;> omega
  have moved := raised_active (why := why) down
  have unit := (offers_laneEvent p n why Lane.raise s).merge p
  rw [modPort_port_same] at unit
  rw [unit] at moved
  rw [laneEvent_eq, if_neg fun e => moved.elim e.1 e.2]
  refine StillHeard.trans ?_ (stillHeard_lanesChanged (by simp [Report.key]) _ _ _)
  exact StillHeard.trans (stillHeard_modPort p (fun hp => hp) rfl) (stillHeard_post (key h) _)

/-- A lane that is tested leaves another lane's report heard. -/
theorem stillHeard_qualify {p q : Port} {n m : LaneName} {w : LaneReason} {s : State} (h : ¬ (q = p ∧ m = n)) {st : LaneState}
    {lag : Option Nat} {active : LaneName} : StillHeard (.laneState q m st w lag active) s (qualify p n s) := by
  unfold qualify
  split
  · next due =>
    exact stillHeard_raised (by simp only [Lanes.isUp, show (s.port p).lanes.get n = s.lane p n from rfl, due.1]; decide) h
  · exact .refl s

/-- LANE STATE of every lane that is raised has been heard when all lanes are tested (R10, R13). -/
theorem posted_qualifyAll {q : Port} {n : LaneName} {s : State} (h : (s.lane q n).state = .qualifying)
    (due : s.settings.qualifyTarget ≤ (s.lane q n).qualify) :
    ∃ active, Posted (.laneState q n .up .qualified (s.lane q n).lastLag active) (qualifyAll s) := by
  rw [qualifyAll_eq]
  refine forEach_then (x := (q, n)) (D := fun t => t.settings = s.settings ∧ t.lane q n = s.lane q n)
    (Q := fun t => ∃ active, Posted (.laneState q n .up .qualified (s.lane q n).lastLag active) t) (fun y t hy ht => ?_)
    (fun t ht => ?_) (fun y t hy ht => ?_) lanesInOrder_nodup (mem_lanesInOrder _) ⟨rfl, rfl⟩
  · exact ⟨(qualify_settings _ _ t).trans ht.1,
      (qualify_lane_ne (fun e => hy (Prod.ext e.1.symm e.2.symm)) t).trans ht.2⟩
  · obtain ⟨settings, lane⟩ := ht
    have raised : qualify q n t = laneEvent q n .qualified Lane.raise t :=
      if_pos ⟨by rw [lane]; exact h, by rw [settings, lane]; exact due⟩
    have p := posted_laneEvent q n .qualified Lane.raise t
    rw [lane] at p
    exact ⟨_, raised ▸ p⟩
  · obtain ⟨active, p⟩ := ht
    exact ⟨active, p.still (stillHeard_qualify fun e => hy (Prod.ext e.1.symm e.2.symm))⟩

/-- A port none of whose lanes is UP after the test was left alone by it. -/
theorem qualify_record {p q : Port} {n : LaneName} {s : State} (h : ((qualify p n s).port q).lanes.anyUp = false) :
    ((qualify p n s).port q).record = (s.port q).record ∧ (s.port q).lanes.anyUp = false := by
  unfold qualify at h ⊢
  split at h
  · next due =>
    rw [if_pos due]
    have unit := (offers_laneEvent p n .qualified Lane.raise s)
    by_cases hq : p = q
    · subst hq
      rw [Lanes.anyUp_of_isUp (n := n)] at h
      · cases h
      · rw [laneEvent_lanes]; exact Lane.raise_isUp
    · rw [unit.lanes, modPort_port_ne hq] at h
      rw [unit.record, modPort_port_ne hq]
      exact ⟨rfl, h⟩
  · next due =>
    rw [if_neg due]
    exact ⟨rfl, h⟩

theorem qualifyAll_record {q : Port} {s : State} (h : ((qualifyAll s).port q).lanes.anyUp = false) :
    ((qualifyAll s).port q).record = (s.port q).record := by
  rw [qualifyAll_eq] at h ⊢
  generalize lanesInOrder = l at h ⊢
  have all : ((forEach (fun x : Port × LaneName => qualify x.1 x.2) l s).port q).record = (s.port q).record ∧
      (s.port q).lanes.anyUp = false := by
    induction l generalizing s with
    | nil => exact ⟨rfl, h⟩
    | cons x l ih =>
      obtain ⟨record, down⟩ := ih h
      obtain ⟨first, was⟩ := qualify_record down
      exact ⟨record.trans first, was⟩
  exact all.1

/-! ### The loss holds (R29) -/

theorem offers_expireHold (p : Port) (s : State) :
    Offers [1] (if holdDue p s then modPort p PortUnit.vacated s else s) (expireHold p s) := by
  unfold expireHold
  split
  · exact offers_enterVacant p .holdExpired s
  · exact .refl s

theorem expireHold_lanes (p q : Port) (s : State) :
    ((expireHold p s).port q).lanes = (s.port q).lanes ∧ ((expireHold p s).port q).merge = (s.port q).merge := by
  rw [(offers_expireHold p s).lanes, (offers_expireHold p s).merge]
  split
  · rw [modPort_port]; split
    · next h => subst h; exact ⟨rfl, rfl⟩
    · exact ⟨rfl, rfl⟩
  · exact ⟨rfl, rfl⟩

theorem expireHold_record_ne {p q : Port} (h : p ≠ q) (s : State) :
    ((expireHold p s).port q).record = (s.port q).record := by
  rw [(offers_expireHold p s).record]
  split
  · rw [modPort_port_ne h]
  · rfl

theorem expireHold_record_same (p : Port) (s : State) :
    ((expireHold p s).port p).record = if holdDue p s then (s.port p).record.vacated else (s.port p).record := by
  rw [(offers_expireHold p s).record]
  split
  · rw [modPort_port_same]; rfl
  · rfl

/-- What was heard is heard still after a hold is tested, but for PORT STATE of that port. -/
theorem stillHeard_expireHold {r : Report} {p : Port} (hr : r.key ≠ (1, p.val)) (s : State) :
    StillHeard r s (expireHold p s) := by
  unfold expireHold
  split
  · refine StillHeard.trans (stillHeard_modPort_absent p (f := PortUnit.vacated) rfl) ?_
    have e : enterVacant p .holdExpired s = postPort p .holdExpired (modPort p PortUnit.vacated s) :=
      congrArg (postPort p .holdExpired) (modPort_modPort _ _ _ _)
    rw [e]
    exact stillHeard_post hr _
  · exact .refl s

theorem expireHolds_lanes (q : Port) (s : State) :
    ((expireHolds s).port q).lanes = (s.port q).lanes ∧ ((expireHolds s).port q).merge = (s.port q).merge :=
  forEach_keeps (P := fun t : State => (t.port q).lanes = (s.port q).lanes ∧ (t.port q).merge = (s.port q).merge)
    (fun p t ht => ⟨(expireHold_lanes p q t).1.trans ht.1, (expireHold_lanes p q t).2.trans ht.2⟩) _ s ⟨rfl, rfl⟩

theorem holdDue_congr {p : Port} {s t : State} (hr : (t.port p).record = (s.port p).record) (hs : t.settings = s.settings) :
    holdDue p t = holdDue p s := by
  unfold holdDue State.portState
  rw [hr, hs]

theorem holdDue_iff {q : Port} {t : State} {x : Nat} (hl : (t.port q).record.lossHold = some x)
    (hi : t.portState q = .isolated) : holdDue q t = decide (24000 * t.settings.lossHold ≤ x) := by
  unfold holdDue
  rw [hl, hi]
  simp only [lossHoldTarget_eq, decide_true, Bool.true_and]

theorem expireHolds_record (q : Port) (s : State) :
    ((expireHolds s).port q).record = if holdDue q s then (s.port q).record.vacated else (s.port q).record := by
  refine forEach_then (x := q) (D := fun t => t.settings = s.settings ∧ (t.port q).record = (s.port q).record)
    (Q := fun t => (t.port q).record = if holdDue q s then (s.port q).record.vacated else (s.port q).record)
    (fun p t hp ht => ?_) (fun t ht => ?_) (fun p t hp ht => ?_) (nodup_indexes 3) (mem_indexes q) ⟨rfl, rfl⟩
  · exact ⟨(agree_expireHold p t .settings (by decide)).trans ht.1, (expireHold_record_ne hp t).trans ht.2⟩
  · rw [expireHold_record_same, holdDue_congr ht.2 ht.1, ht.2]
  · rw [expireHold_record_ne hp, ht]

/-- A report of a port tells its record and the settings of its merge buffer alone. -/
theorem portReport_congr {q : Port} {why : PortReason} {s t : State} (hr : (t.port q).record = (s.port q).record)
    (hm : (t.port q).merge = (s.port q).merge) : portReport q why t = portReport q why s := by
  unfold portReport State.portState
  rw [hr, hm]

theorem portReport_key (q : Port) (why : PortReason) (t : State) : (portReport q why t).key = (1, q.val) := rfl

/-- PORT STATE of a port whose hold has expired has been heard (R29, R37). -/
theorem posted_expireHolds {q : Port} {s : State} (due : holdDue q s = true) :
    Posted (portReport q .holdExpired (expireHolds s)) (expireHolds s) := by
  refine forEach_then (x := q) (D := fun t => t.settings = s.settings ∧ (t.port q).record = (s.port q).record)
    (Q := fun t => Posted (portReport q .holdExpired t) t)
    (fun p t hp ht => ?_) (fun t ht => ?_) (fun p t hp ht => ?_) (nodup_indexes 3) (mem_indexes q) ⟨rfl, rfl⟩
  · exact ⟨(agree_expireHold p t .settings (by decide)).trans ht.1, (expireHold_record_ne hp t).trans ht.2⟩
  · have now : expireHold q t = postPort q .holdExpired (vacate q t) := if_pos (by rw [holdDue_congr ht.2 ht.1]; exact due)
    rw [now]
    exact posted_postPort q .holdExpired _
  · rw [portReport_congr (expireHold_record_ne hp t) (expireHold_lanes p q t).2]
    exact ht.still (stillHeard_expireHold (by rw [portReport_key]; exact fun e => hp (Fin.ext (congrArg Prod.snd e).symm)) t)

end Sys2Proof.Machine
end

section
/-! PROOF. What the changed talk and phantom settings do: the layer under O35. -/

namespace Sys2Proof.Machine

theorem stillHeard_laneEvent {r : Report} (hr : r.key.1 ∉ [0, 1, 11, 13, 15, 18]) (p : Port) (n : LaneName) (why : LaneReason)
    (f : Lane → Lane) (s : State) : StillHeard r s (laneEvent p n why f s) := by
  rw [laneEvent_eq]
  have posts {m : LaneName} {w : LaneReason} (t : State) : StillHeard r t (postLane p m w t) :=
    (offers_postLane p m w t).stillHeard fun h => hr (List.mem_cons.2 (.inl (List.mem_singleton.1 h)))
  refine StillHeard.trans ?_ (stillHeard_lanesChanged (fun h => hr (List.mem_cons_of_mem 0 h)) _ _ _)
  refine StillHeard.trans (stillHeard_modPort p (f := PortUnit.laneMoved n f) (fun hp => hp) rfl) ?_
  split
  · exact (posts _).trans (posts _)
  · exact posts _

theorem StillHeard.forEach {r : Report} {α : Type} {f : α → State → State} (h : ∀ a s, StillHeard r s (f a s)) (l : List α)
    (s : State) : StillHeard r s (Machine.forEach f l s) :=
  forEach_keeps (P := StillHeard r s) (fun a t ht => ht.trans (h a t)) l s (.refl s)

theorem stillHeard_qualifyAll {r : Report} (hr : r.key.1 ∉ [0, 1, 11, 13, 15, 18]) (s : State) :
    StillHeard r s (qualifyAll s) := by
  rw [qualifyAll_eq]
  refine StillHeard.forEach (f := fun x : Port × LaneName => qualify x.1 x.2) (fun x t => ?_) lanesInOrder s
  unfold qualify
  split
  · exact stillHeard_laneEvent hr x.1 x.2 .qualified Lane.raise t
  · exact .refl t

theorem stillHeard_expireHolds {r : Report} (hr : r.key.1 ≠ 1) (s : State) : StillHeard r s (expireHolds s) :=
  StillHeard.forEach (fun _ t => stillHeard_expireHold (fun e => hr (congrArg Prod.fst e)) t) _ s

/-! ### The head of the talk claim list tested (R144) -/

/-- A claim whose live time meets the limit. -/
def Claim.late (limit : Nat) (c : Claim) : Bool := decide (48000 * limit ≤ c.live)

theorem headDue_cons {s : State} {c : Claim} {rest : List Claim} (h : s.talk.claims = c :: rest) :
    headDue s = c.late s.settings.liveLimit := by
  unfold headDue
  rw [h]
  simp only [liveTarget_eq, Claim.late]

theorem expireHead_claims {s : State} {c : Claim} {rest : List Claim} (h : s.talk.claims = c :: rest) :
    (expireHead s).talk.claims = rest ∧ (expireHead s).settings = s.settings := by
  unfold expireHead
  rw [h]
  dsimp only
  rw [(agree_postTalk _ _) .talk (by decide), (agree_postTo _ _ _) .talk (by decide),
    (agree_postTalk _ _) .settings (by decide), (agree_postTo _ _ _) .settings (by decide)]
  exact ⟨rfl, rfl⟩

/-- Late claims leave the head one after another, as far as the list reaches. -/
theorem settleHead_claims {n : Nat} {s : State} (h : s.talk.claims.length ≤ n) :
    (settleHead n s).talk.claims = s.talk.claims.dropWhile (Claim.late s.settings.liveLimit) := by
  induction n generalizing s with
  | zero => rw [List.length_eq_zero_iff.1 (Nat.le_zero.1 h)]; exact List.length_eq_zero_iff.1 (Nat.le_zero.1 h)
  | succ n ih =>
    unfold settleHead
    cases hc : s.talk.claims with
    | nil =>
      have still : headDue s = false := by unfold headDue; rw [hc]
      rw [still]
      exact hc
    | cons c rest =>
      obtain ⟨claims, settings⟩ := expireHead_claims hc
      rw [headDue_cons hc, List.dropWhile_cons]
      split
      · rw [ih (by rw [claims]; rw [hc] at h; exact Nat.le_of_succ_le_succ h), claims, settings]
      · exact hc

theorem followTalker_talk (before : Option Port) (s : State) :
    (followTalker before s).talk = s.talk ∧ (followTalker before s).settings = s.settings :=
  ⟨agree_followTalker before s .talk (by decide), agree_followTalker before s .settings (by decide)⟩

/-- Each port holds one claim at most, so the list has three at most. -/
theorem length_le_of_ports_nodup {cs : List Claim} (h : (cs.map Claim.port).Nodup) : cs.length ≤ 3 := by
  have l := h.length_le_card
  rwa [List.length_map, Fintype.card_fin] at l

theorem testHead_claims {s : State} (h : (s.talk.claims.map Claim.port).Nodup) :
    (testHead s).talk.claims = s.talk.claims.dropWhile (Claim.late s.settings.liveLimit) := by
  rw [testHead, (followTalker_talk _ _).1, settleHead_claims (length_le_of_ports_nodup h)]

/-! ### The list sorted by a new priority order (R146) -/

theorem insertClaim_perm (order : List Port) (c : Claim) (cs : List Claim) : (insertClaim order c cs).Perm (c :: cs) := by
  induction cs with
  | nil => exact .refl _
  | cons d ds ih =>
    unfold insertClaim
    split
    · exact .refl _
    · exact (ih.cons d).trans (.swap c d ds)

theorem sortClaims_perm (order : List Port) (cs : List Claim) : (sortClaims order cs).Perm cs := by
  induction cs with
  | nil => exact .refl _
  | cons c cs ih => exact (insertClaim_perm order c _).trans (ih.cons c)

/-- Claims in the order of their ports' places. -/
def InOrder (order : List Port) (cs : List Claim) : Prop :=
  cs.Pairwise fun c d => rank order c.port ≤ rank order d.port

theorem insertClaim_inOrder {order : List Port} (c : Claim) {cs : List Claim} (h : InOrder order cs) :
    InOrder order (insertClaim order c cs) := by
  induction cs with
  | nil => exact List.pairwise_singleton _ c
  | cons d ds ih =>
    obtain ⟨first, rest⟩ := List.pairwise_cons.1 h
    unfold insertClaim
    split
    · next lt =>
      refine List.pairwise_cons.2 ⟨fun e he => ?_, h⟩
      obtain rfl | he := List.mem_cons.1 he
      · exact lt.le
      · exact lt.le.trans (first e he)
    · next ge =>
      refine List.pairwise_cons.2 ⟨fun e he => ?_, ih rest⟩
      obtain rfl | he := List.mem_cons.1 ((insertClaim_perm order c ds).mem_iff.1 he)
      · exact Nat.not_lt.1 ge
      · exact first e he

theorem sortClaims_inOrder (order : List Port) (cs : List Claim) : InOrder order (sortClaims order cs) := by
  induction cs with
  | nil => exact List.Pairwise.nil
  | cons c cs ih => exact insertClaim_inOrder c ih

/-- A re-sorted list keeps its claims where its head stands, and loses the late ones where another claim has taken the head
(R144, R146). -/
theorem resortTalk_claims {s : State} (h : (s.talk.claims.map Claim.port).Nodup) :
    (resortTalk s).talk.claims =
      if (sortClaims s.settings.priority s.talk.claims).head?.map Claim.port = s.talk.claims.head?.map Claim.port then
        sortClaims s.settings.priority s.talk.claims
      else (sortClaims s.settings.priority s.talk.claims).dropWhile (Claim.late s.settings.liveLimit) := by
  unfold resortTalk
  dsimp only
  split
  · next same =>
    have same : sortClaims s.settings.priority s.talk.claims = s.talk.claims := same
    rw [same, if_pos rfl]
  · generalize ht : modTalk (fun t => { t with claims := sortClaims s.settings.priority t.claims }) s = t
    have sorted : t.talk.claims = sortClaims s.settings.priority s.talk.claims := by rw [← ht]; rfl
    have settings : t.settings = s.settings := by rw [← ht]; rfl
    have told := (agree_postTalk .reordered t).andThen (agree_preempted (liveTalker s) _) rfl
    generalize preempted (liveTalker s) (postTalk .reordered t) = u at told
    have talk : u.talk = t.talk := told .talk (by decide)
    have settings' : u.settings = t.settings := told .settings (by decide)
    have once : ((sortClaims s.settings.priority s.talk.claims).map Claim.port).Nodup :=
      ((sortClaims_perm _ _).map Claim.port).nodup_iff.2 h
    obtain ⟨follows, follows'⟩ := followTalker_talk (liveTalker s) u
    unfold headChanged
    have head : liveTalker s = liveTalker u ↔
        (sortClaims s.settings.priority s.talk.claims).head?.map Claim.port = s.talk.claims.head?.map Claim.port := by
      rw [liveTalker_eq, liveTalker_eq, talk, sorted]; exact eq_comm
    by_cases same : liveTalker s = liveTalker u
    · rw [if_pos same, if_pos (head.1 same), follows, talk, sorted]
    · rw [if_neg same, if_neg fun e => same (head.2 e), testHead_claims (by rw [follows, talk, sorted]; exact once),
        follows, follows', talk, sorted, settings', settings]

/-- From s to t talk has changed in its claims alone. -/
def OnlyClaims (s t : State) : Prop := t.talk = { s.talk with claims := t.talk.claims }

theorem OnlyClaims.trans {s t u : State} (h : OnlyClaims s t) (g : OnlyClaims t u) : OnlyClaims s u := by
  unfold OnlyClaims at *
  rw [g, h]

theorem OnlyClaims.of_talk {s t : State} (h : t.talk = s.talk) : OnlyClaims s t := by unfold OnlyClaims; rw [h]

theorem OnlyClaims.taken {s t : State} (h : OnlyClaims s t) : t.talk.taken = s.talk.taken := by rw [h]

theorem OnlyClaims.active {s t : State} (h : OnlyClaims s t) : t.talk.active = s.talk.active := by rw [h]

theorem onlyClaims_expireHead (s : State) : OnlyClaims s (expireHead s) := by
  unfold expireHead
  split
  · next c rest _ =>
    refine OnlyClaims.trans (t := modTalk (fun t => { t with claims := rest }) s) rfl ?_
    exact .of_talk (((agree_postTo _ _ _).trans (agree_postTalk _ _)) .talk (by decide))
  · exact .of_talk rfl

theorem onlyClaims_settleHead (n : Nat) (s : State) : OnlyClaims s (settleHead n s) := by
  induction n generalizing s with
  | zero => exact .of_talk rfl
  | succ n ih =>
    unfold settleHead
    split
    · exact (onlyClaims_expireHead s).trans (ih _)
    · exact .of_talk rfl

theorem onlyClaims_testHead (s : State) : OnlyClaims s (testHead s) :=
  (onlyClaims_settleHead 3 s).trans (.of_talk (followTalker_talk _ _).1)

theorem onlyClaims_resortTalk (s : State) : OnlyClaims s (resortTalk s) := by
  unfold resortTalk
  dsimp only
  split
  · exact .of_talk rfl
  · refine OnlyClaims.trans
      (t := modTalk (fun t => { t with claims := sortClaims s.settings.priority t.claims }) s) rfl ?_
    refine OnlyClaims.trans (.of_talk (((agree_postTalk .reordered _).andThen (agree_preempted (liveTalker s) _) rfl)
      .talk (by decide))) ?_
    unfold headChanged
    dsimp only
    split
    · exact .of_talk (followTalker_talk _ _).1
    · exact OnlyClaims.trans (.of_talk (followTalker_talk _ _).1) (onlyClaims_testHead _)

/-! ### Stage talk (R148) -/

theorem recomputeStage_active (s : State) :
    (recomputeStage s).talk = { s.talk with active := s.talk.taken && s.settings.stageChannel.isSome } := by
  unfold recomputeStage
  dsimp only
  split
  · next same => rw [← same]
  · rw [agree_post _ _ .talk (by decide)]; rfl

/-- STAGE TALK has been heard where stage talk changed (R150). -/
theorem posted_recomputeStage {s : State} (h : (recomputeStage s).talk.active ≠ s.talk.active) :
    Posted (.stageTalk (recomputeStage s).talk.active s.talk.taken s.settings.stageChannel) (recomputeStage s) := by
  rw [recomputeStage_active] at h ⊢
  have changed : ¬ s.talk.active = (s.talk.taken && s.settings.stageChannel.isSome) := fun e => h e.symm
  unfold recomputeStage
  dsimp only
  rw [if_neg changed]
  exact posted_post (by simp [Report.key]) _

/-! ### The phantom transitions tested (R105) -/

theorem queueWrite_phantom (c : Chan) (s : State) :
    (queueWrite c s).phantom = s.phantom ∧ (queueWrite c s).startQueue = s.startQueue :=
  ⟨agree_queueWrite c s .phantom (by decide), agree_queueWrite c s .startQueue (by decide)⟩

/-- A channel that enters a phantom state: its record, and the start queue (R102, R104). -/
theorem enterPhantom_phantom (c : Chan) (st : PhantomState) (s : State) :
    (enterPhantom c st s).phantom =
        s.phantom.modify c (fun r => { r with state := st, timer := entryTimer st (s.channel c).cardPhantom }) ∧
      (enterPhantom c st s).startQueue = queueAfter st c s.startQueue := by
  unfold enterPhantom
  dsimp only
  split
  · exact queueWrite_phantom c _
  · exact ⟨rfl, rfl⟩

theorem mem_queueAfter {st : PhantomState} {c d : Chan} {q : List Chan} :
    c ∈ queueAfter st d q ↔ if c = d then st = .queued else c ∈ q := by
  unfold queueAfter
  by_cases h : c = d
  · subst h; split <;> simp_all
  · split <;> simp_all

/-- A channel's phantom record stands, and so does its place in the start queue or out of it. -/
def Untouched (c : Chan) (s t : State) : Prop := t.phantomOf c = s.phantomOf c ∧ (c ∈ t.startQueue ↔ c ∈ s.startQueue)

theorem Untouched.refl (c : Chan) (s : State) : Untouched c s s := ⟨rfl, .rfl⟩

theorem Untouched.trans {c : Chan} {s t u : State} (h : Untouched c s t) (g : Untouched c t u) : Untouched c s u :=
  ⟨g.1.trans h.1, g.2.trans h.2⟩

theorem Untouched.of_eq {c : Chan} {s t : State} (hp : t.phantom = s.phantom) (hq : t.startQueue = s.startQueue) :
    Untouched c s t := ⟨congrArg (Bank.get · c) hp, by rw [hq]⟩

theorem untouched_postPhantom (c d : Chan) (why : PhantomReason) (s : State) : Untouched c s (postPhantom d why s) :=
  .of_eq (agree_postPhantom d why s .phantom (by decide)) (agree_postPhantom d why s .startQueue (by decide))

theorem untouched_queueWrite (c d : Chan) (s : State) : Untouched c s (queueWrite d s) :=
  .of_eq (queueWrite_phantom d s).1 (queueWrite_phantom d s).2

theorem untouched_enterPhantom {c d : Chan} (h : c ≠ d) (st : PhantomState) (s : State) :
    Untouched c s (enterPhantom d st s) := by
  obtain ⟨phantom, queue⟩ := enterPhantom_phantom d st s
  refine ⟨?_, by rw [queue, mem_queueAfter, if_neg h]⟩
  simp only [State.phantomOf, phantom, Bank.get_modify_ne _ _ h.symm]

/-- The channel that enters a state is in it, and out of the start queue unless it is QUEUED (R102). -/
theorem enterPhantom_same (c : Chan) (st : PhantomState) (s : State) :
    ((enterPhantom c st s).phantomOf c).state = st ∧ (c ∈ (enterPhantom c st s).startQueue ↔ st = .queued) := by
  obtain ⟨phantom, queue⟩ := enterPhantom_phantom c st s
  refine ⟨?_, by rw [queue, mem_queueAfter, if_pos rfl]⟩
  simp only [State.phantomOf, phantom, Bank.get_modify_same]

theorem untouched_changePhantom {c d : Chan} (h : c ≠ d) (st : PhantomState) (why : PhantomReason) (s : State) :
    Untouched c s (changePhantom d st why s) := (untouched_enterPhantom h st s).trans (untouched_postPhantom c d why _)

theorem changePhantom_same (c : Chan) (st : PhantomState) (why : PhantomReason) (s : State) :
    ((changePhantom c st why s).phantomOf c).state = st ∧ (c ∈ (changePhantom c st why s).startQueue ↔ st = .queued) := by
  obtain ⟨record, queue⟩ := untouched_postPhantom c c why (enterPhantom c st s)
  obtain ⟨state, waits⟩ := enterPhantom_same c st s
  exact ⟨(congrArg PhantomRecord.state record).trans state, queue.trans waits⟩

theorem untouched_startPhantom {c d : Chan} (h : c ≠ d) (s : State) : Untouched c s (startPhantom d s) :=
  ((untouched_enterPhantom h .rampUp s).trans (untouched_queueWrite c d _)).trans (untouched_postPhantom c d .started _)

/-- A channel in RAMP_UP, out of the start queue. -/
def Started (c : Chan) (s : State) : Prop := (s.phantomOf c).state = .rampUp ∧ c ∉ s.startQueue

theorem started_startPhantom (c : Chan) (s : State) : Started c (startPhantom c s) := by
  obtain ⟨record, queue⟩ := (untouched_queueWrite c c (enterPhantom c .rampUp s)).trans
    (untouched_postPhantom c c .started _)
  obtain ⟨state, waits⟩ := enterPhantom_same c .rampUp s
  exact ⟨(congrArg PhantomRecord.state record).trans state, fun h => by cases waits.1 (queue.1 h)⟩

/-- The sequencer starts channels of the start queue alone (R103). -/
theorem startQueued_keeps {P : State → Prop} (h : ∀ d t, d ∈ t.startQueue → P t → P (startPhantom d t)) {s : State} (hs : P s) :
    P (startQueued s) := by
  unfold startQueued
  generalize Config.maxRamping = n
  induction n generalizing s with
  | zero => exact hs
  | succ n ih =>
    unfold startUpTo
    split
    · exact hs
    · next d hd =>
      refine ih (h d s ?_ hs)
      unfold nextStart at hd
      split at hd
      · exact List.mem_of_find?_eq_some hd
      · cases hd

theorem untouched_startQueued {c : Chan} {s : State} (h : c ∉ s.startQueue) : Untouched c s (startQueued s) := by
  refine startQueued_keeps (P := Untouched c s) (fun d t hd ht => ?_) (.refl c s)
  exact ht.trans (untouched_startPhantom (fun e => h (ht.2.1 (by rw [e]; exact hd))) t)

/-- A channel that is QUEUED, or has been started out of the queue. -/
def QueuedOrStarted (c : Chan) (s : State) : Prop := (s.phantomOf c).state = .queued ∨ Started c s

theorem QueuedOrStarted.untouched {c : Chan} {s t : State} (h : QueuedOrStarted c s) (u : Untouched c s t) :
    QueuedOrStarted c t := by
  obtain ⟨record, queue⟩ := u
  unfold QueuedOrStarted Started
  rw [record, queue]
  exact h

theorem QueuedOrStarted.startQueued {c : Chan} {s : State} (h : QueuedOrStarted c s) : QueuedOrStarted c (startQueued s) := by
  refine startQueued_keeps (P := QueuedOrStarted c) (fun d t _ ht => ?_) h
  by_cases e : c = d
  · subst e; exact .inr (started_startPhantom c t)
  · exact ht.untouched (untouched_startPhantom e t)

/-- The end of one channel's transition, as another channel feels it. -/
theorem endIfDue_ne {P : State → Prop} {c d : Chan} (h : c ≠ d) (touched : ∀ t u, Untouched c t u → P t → P u)
    (starts : ∀ t, P t → P (startQueued t)) {s : State} (hs : P s) : P (endIfDue d s) := by
  have change (st : PhantomState) (why : PhantomReason) : P (changePhantom d st why s) :=
    touched _ _ (untouched_changePhantom h st why s) hs
  unfold endIfDue
  split
  · unfold endTransition
    split
    · exact starts _ (change _ _)
    · exact change _ _
    · exact starts _ (change _ _)
    · exact hs
    · exact hs
    · exact hs
  · exact hs

/-- Where a channel out of the start queue stands, it stands still after another's transition has ended. -/
theorem endIfDue_ne_state {c d : Chan} (h : c ≠ d) {s : State} (hq : c ∉ s.startQueue) : Untouched c s (endIfDue d s) :=
  endIfDue_ne (P := Untouched c s) h (fun _ _ u ht => ht.trans u)
    (fun _ ht => ht.trans (untouched_startQueued fun m => hq (ht.2.1 m))) (.refl c s)

/-- The state to which the end of a transition takes a channel whose phantom is wanted or not (R105). -/
def PhantomState.ended (wanted : Bool) : PhantomState → PhantomState
  | .rampUp => .settleUp
  | .settleUp => .on
  | .rampDown => if wanted then .queued else .off
  | .off => .off
  | .queued => .queued
  | .on => .on

/-- The end of a channel's own transition, where it leads to a state other than QUEUED. -/
theorem endTransition_same {c : Chan} {s : State} (hq : c ∉ s.startQueue)
    (he : (s.phantomOf c).state.ended (s.channel c).phantom ≠ .queued) :
    ((endTransition c s).phantomOf c).state = (s.phantomOf c).state.ended (s.channel c).phantom ∧
      c ∉ (endTransition c s).startQueue := by
  have change {st : PhantomState} (why : PhantomReason) (h : st ≠ .queued) :
      ((changePhantom c st why s).phantomOf c).state = st ∧ c ∉ (changePhantom c st why s).startQueue := by
    obtain ⟨state, waits⟩ := changePhantom_same c st why s
    exact ⟨state, fun m => h (waits.1 m)⟩
  have start {st : PhantomState} (why : PhantomReason) (h : st ≠ .queued) :
      ((startQueued (changePhantom c st why s)).phantomOf c).state = st ∧
        c ∉ (startQueued (changePhantom c st why s)).startQueue := by
    obtain ⟨state, out⟩ := change why h
    obtain ⟨record, queue⟩ := untouched_startQueued out
    exact ⟨(congrArg PhantomRecord.state record).trans state, fun m => out (queue.1 m)⟩
  unfold endTransition
  cases hs : (s.phantomOf c).state with
  | rampUp => exact start _ (by decide)
  | settleUp => exact change _ (by decide)
  | rampDown => rw [hs] at he; exact start _ he
  | off => exact ⟨hs, hq⟩
  | queued => rw [hs] at he; exact absurd rfl he
  | on => exact ⟨hs, hq⟩

/-- A discharged channel whose phantom is wanted is queued, and perhaps started at once (R103, R105). -/
theorem endTransition_wanted {c : Chan} {s : State} (hs : (s.phantomOf c).state = .rampDown)
    (hw : (s.channel c).phantom = true) : QueuedOrStarted c (endTransition c s) := by
  unfold endTransition
  rw [hs]
  dsimp only
  rw [hw, if_pos rfl]
  exact QueuedOrStarted.startQueued (.inl (changePhantom_same c .queued .discharged s).1)

/-- A channel's transition before its turn: nothing that decides about it has changed. -/
structure BeforeTurn (c : Chan) (s t : State) : Prop where
  settings : t.settings = s.settings
  channels : t.channels = s.channels
  untouched : Untouched c s t

theorem beforeTurn_endIfDue {c d : Chan} (h : d ≠ c) {s t : State} (hq : c ∉ s.startQueue) (ht : BeforeTurn c s t) :
    BeforeTurn c s (endIfDue d t) where
  settings := (agree_endIfDue d t .settings (by decide)).trans ht.settings
  channels := (agree_endIfDue d t .channels (by decide)).trans ht.channels
  untouched := ht.untouched.trans (endIfDue_ne_state h.symm fun m => hq (ht.untouched.2.1 m))

theorem BeforeTurn.due {c : Chan} {s t : State} (h : BeforeTurn c s t) : transitionDue t c = transitionDue s c := by
  unfold transitionDue
  rw [h.settings, h.untouched.1]

/-- All transitions tested, as one channel out of the start queue feels it: its own has ended or not (R105). -/
theorem endTransitions_state {c : Chan} {s : State} (hq : c ∉ s.startQueue) {st : PhantomState}
    (hst : st = if transitionDue s c then (s.phantomOf c).state.ended (s.channel c).phantom else (s.phantomOf c).state)
    (hne : st ≠ .queued) : ((endTransitions s).phantomOf c).state = st := by
  have all := forEach_then (f := endIfDue) (x := c) (D := BeforeTurn c s)
    (Q := fun t => (t.phantomOf c).state = st ∧ c ∉ t.startQueue) (fun d t hd ht => beforeTurn_endIfDue hd hq ht)
    (fun t ht => ?_) (fun d t hd ht => ?_) (nodup_indexes 64) (mem_indexes c) ⟨rfl, rfl, .refl c s⟩
  · exact all.1
  · have out : c ∉ t.startQueue := fun m => hq (ht.untouched.2.1 m)
    have record : t.phantomOf c = s.phantomOf c := ht.untouched.1
    have channel : t.channel c = s.channel c := congrArg (Bank.get · c) ht.channels
    unfold endIfDue
    rw [ht.due]
    split
    · next due =>
      rw [if_pos due, ← record, ← channel] at hst
      rw [hst] at hne ⊢
      exact endTransition_same out hne
    · next due =>
      rw [if_neg due] at hst
      exact ⟨by rw [record, hst], out⟩
  · obtain ⟨record, queue⟩ := endIfDue_ne_state hd.symm ht.2
    exact ⟨by rw [record]; exact ht.1, fun m => ht.2 (queue.1 m)⟩

theorem endTransitions_wanted {c : Chan} {s : State} (hq : c ∉ s.startQueue) (hs : (s.phantomOf c).state = .rampDown)
    (hw : (s.channel c).phantom = true) (due : transitionDue s c = true) : QueuedOrStarted c (endTransitions s) := by
  refine forEach_then (f := endIfDue) (x := c) (D := BeforeTurn c s) (Q := QueuedOrStarted c)
    (fun d t hd ht => beforeTurn_endIfDue hd hq ht) (fun t ht => ?_) (fun d t hd ht => ?_) (nodup_indexes 64) (mem_indexes c)
    ⟨rfl, rfl, .refl c s⟩
  · have ends : endIfDue c t = endTransition c t := if_pos (by rw [ht.due]; exact due)
    rw [ends]
    exact endTransition_wanted (by rw [ht.untouched.1]; exact hs)
      ((congrArg (fun b : Bank 64 Channel => (b.get c).phantom) ht.channels).trans hw)
  · exact endIfDue_ne hd.symm (fun _ _ u h => h.untouched u) (fun _ h => h.startQueued) ht

end Sys2Proof.Machine
end

section
/-! PROOF. SET HUB: settles O35. -/

namespace Sys2Proof.Machine

/-! ### The blocks of a change of settings, one after another (R54, R55, Assumption 12) -/

theorem Agree.whenChanged {ps : List Part} {α : Type} [DecidableEq α] {field : Settings → α} {old : Settings}
    {f : State → State} {s : State} (h : Agree ps s (f s)) : Agree ps s (Machine.whenChanged field old f s) :=
  Agree.ite (Agree.refl s) h

theorem Offers.whenChanged {ks : List Nat} {α : Type} [DecidableEq α] {field : Settings → α} {old : Settings}
    {f : State → State} {s : State} (h : Offers ks s (f s)) : Offers ks s (Machine.whenChanged field old f s) :=
  Offers.ite (.refl s) h

theorem StillHeard.whenChanged {r : Report} {α : Type} [DecidableEq α] {field : Settings → α} {old : Settings}
    {f : State → State} {s : State} (h : StillHeard r s (f s)) : StillHeard r s (Machine.whenChanged field old f s) := by
  unfold Machine.whenChanged
  split
  · exact .refl s
  · exact h

/-- The settings h are in force in place of those of s, and a change of them is announced (R54). -/
structure Announced (h : Settings) (s a : State) : Prop where
  agree : Agree [.ports, .settings] s a
  offers : Offers [20] s a
  settings : a.settings = h
  posted : h ≠ s.settings → Posted (.hubSetting h) a

/-- The blocks act in turn, from the announcement at a to v. -/
structure Blocks (old : Settings) (a b c d e f g v : State) : Prop where
  lanes : b = whenChanged Settings.qualifyTime old qualifyAll a
  holds : c = whenChanged Settings.lossHold old expireHolds b
  clock : d = whenChanged Settings.source old sourceChanged c
  phantom : e = whenChanged (fun h => (h.rampTime, h.settleTime)) old endTransitions d
  limit : f = whenChanged Settings.liveLimit old testHead e
  order : g = whenChanged Settings.priority old resortTalk f
  stage : v = whenChanged Settings.stageChannel old recomputeStage g

theorem announced_post {h : Settings} {s : State} : Announced h s (post (.hubSetting h) { s with settings := h }) where
  agree := by
    refine Agree.trans (t := { s with settings := h }) ?_ ((agree_post _ _).mono rfl)
    intro x hx
    cases x
    case settings => exact absurd (by simp) hx
    all_goals rfl
  offers := (Offers.of_ports rfl).trans (offers_post _ _ rfl)
  settings := rfl
  posted _ := posted_post (by simp [Report.key]) _

theorem changeSettings_blocks (h : Settings) (s : State) :
    ∃ a b c d e f g, Announced h s a ∧ Blocks s.settings a b c d e f g (changeSettings h s) := by
  by_cases same : h = s.settings
  · subst same
    rw [changeSettings_same]
    exact ⟨s, s, s, s, s, s, s, ⟨.refl s, .refl s, rfl, fun n => absurd rfl n⟩, (whenChanged_same rfl).symm,
      (whenChanged_same rfl).symm, (whenChanged_same rfl).symm, (whenChanged_same rfl).symm, (whenChanged_same rfl).symm,
      (whenChanged_same rfl).symm, (whenChanged_same rfl).symm⟩
  · have effects : changeSettings h s = _ := if_neg (Ne.symm same)
    exact ⟨_, _, _, _, _, _, _, announced_post, ⟨rfl, rfl, rfl, rfl, rfl, rfl, effects⟩⟩

/-- The clock after a change to a source (R23). -/
def Clock.sourced (src : ClockSource) (k : Clock) : Clock :=
  match src with
  | .internal => { k with state := .internal }
  | .wordclock => { k with state := .holdover, requalify := 0 }

theorem sourceChanged_eq (s : State) :
    sourceChanged s = postClock { s with clock := s.clock.sourced s.settings.source } := by
  unfold sourceChanged
  cases s.settings.source <;> rfl

theorem sourceChanged_clock (s : State) : (sourceChanged s).clock = s.clock.sourced s.settings.source := by
  rw [sourceChanged_eq]; rfl

theorem posted_sourceChanged (s : State) :
    Posted (.clockState (sourceChanged s).clock.state s.settings.source) (sourceChanged s) := by
  rw [sourceChanged_clock, sourceChanged_eq]
  exact posted_postClock _

section
variable {h : Settings} {s a b c d e f g v : State} (A : Announced h s a) (B : Blocks s.settings a b c d e f g v)
include B

theorem Blocks.agree_lanes : Agree [.ports, .outputs] a b := B.lanes ▸ .whenChanged (agree_qualifyAll_ports a)
theorem Blocks.agree_holds : Agree [.ports] b c := B.holds ▸ .whenChanged (agree_expireHolds b)
theorem Blocks.agree_clock : Agree [.ports, .clock] c d := B.clock ▸ .whenChanged ((agree_sourceChanged c).mono rfl)
theorem Blocks.agree_phantom : Agree touchedByPhantom d e := B.phantom ▸ .whenChanged (agree_endTransitions d)
theorem Blocks.agree_limit : Agree [.ports, .talk, .outputs] e f := B.limit ▸ .whenChanged (agree_testHead e)
theorem Blocks.agree_order : Agree [.ports, .talk, .outputs] f g := B.order ▸ .whenChanged (agree_resortTalk f)
theorem Blocks.agree_stage : Agree [.ports, .talk, .outputs] g v := B.stage ▸ .whenChanged ((agree_recomputeStage g).mono rfl)

/-- The two talk blocks and stage talk leave all but the ports, talk and the outputs. -/
theorem Blocks.agree_talk : Agree [.ports, .talk, .outputs] e v :=
  (B.agree_limit.trans B.agree_order).trans B.agree_stage

theorem Blocks.agree_toHolds : Agree [.ports, .outputs] a c := B.agree_lanes.andThen B.agree_holds rfl

/-- What lies outside every block's reach. -/
theorem Blocks.agree :
    Agree [.ports, .outputs, .clock, .phantom, .startQueue, .supplyGuard, .bus, .talk] a v :=
  (((B.agree_toHolds.mono rfl).andThen B.agree_clock rfl).andThen B.agree_phantom rfl).andThen B.agree_talk rfl

theorem Blocks.agree_afterClock : Agree [.ports, .phantom, .startQueue, .supplyGuard, .bus, .talk, .outputs] d v :=
  (B.agree_phantom.mono rfl).andThen B.agree_talk rfl

theorem Blocks.offers_afterClock : Offers [6, 13, 14, 15, 16] d v := by
  have phantom : Offers [6] d e := B.phantom ▸ .whenChanged (offers_endTransitions d)
  have limit : Offers [13, 15] e f := B.limit ▸ .whenChanged (offers_testHead e)
  have order : Offers [13, 14, 15] f g := B.order ▸ .whenChanged (offers_resortTalk f)
  have stage : Offers [16] g v := B.stage ▸ .whenChanged (offers_recomputeStage g)
  exact (((phantom.mono rfl).andThen limit rfl).andThen order rfl).andThen stage rfl

theorem Blocks.offers_afterHolds : Offers [2, 6, 13, 14, 15, 16] c v := by
  have clock : Offers [2] c d := B.clock ▸ .whenChanged (offers_sourceChanged c)
  exact (clock.mono rfl).andThen B.offers_afterClock rfl

theorem Blocks.lanes_afterLanes (q : Port) : (v.port q).lanes = (b.port q).lanes := by
  rw [B.offers_afterHolds.lanes, B.holds]
  unfold whenChanged
  split
  · rfl
  · exact (expireHolds_lanes q b).1

theorem Blocks.claims_stage : v.talk.claims = g.talk.claims := by
  rw [B.stage]
  unfold whenChanged
  split
  · rfl
  · rw [recomputeStage_active]

include A

theorem Blocks.settings : v.settings = h := (B.agree .settings (by decide)).trans A.settings

theorem Blocks.settings_lanes : b.settings = h := (B.agree_lanes .settings (by decide)).trans A.settings
theorem Blocks.settings_holds : c.settings = h := (B.agree_holds .settings (by decide)).trans (B.settings_lanes A)
theorem Blocks.settings_clock : d.settings = h := (B.agree_clock .settings (by decide)).trans (B.settings_holds A)
theorem Blocks.settings_phantom : e.settings = h := (B.agree_phantom .settings (by decide)).trans (B.settings_clock A)
theorem Blocks.settings_limit : f.settings = h := (B.agree_limit .settings (by decide)).trans (B.settings_phantom A)
theorem Blocks.settings_order : g.settings = h := (B.agree_order .settings (by decide)).trans (B.settings_limit A)

/-! ### The announcement, the lanes and the holds -/

theorem Blocks.posted_setting (hne : h ≠ s.settings) : Posted (.hubSetting h) v := by
  have lanes : StillHeard (.hubSetting h) a b := B.lanes ▸ .whenChanged (stillHeard_qualifyAll (by simp [Report.key]) a)
  have holds : StillHeard (.hubSetting h) b c := B.holds ▸ .whenChanged (stillHeard_expireHolds (by simp [Report.key]) b)
  exact ((A.posted hne).still (lanes.trans holds)).offers B.offers_afterHolds (by simp [Report.key])

theorem Blocks.lane (q : Port) (n : LaneName) :
    v.lane q n = if h.qualifyTime = s.settings.qualifyTime then s.lane q n else (s.lane q n).tested h.qualifyTarget := by
  have later : v.lane q n = b.lane q n := congrArg (Lanes.get · n) (B.lanes_afterLanes q)
  rw [later, B.lanes, ← A.offers.lane q n]
  split
  · next same => rw [whenChanged_same (by rw [A.settings]; exact same)]
  · next differ => rw [whenChanged_ne (by rw [A.settings]; exact differ), qualifyAll_lane, A.settings]

theorem Blocks.posted_qualified {q : Port} {n : LaneName} (differ : h.qualifyTime ≠ s.settings.qualifyTime)
    (hs : (s.lane q n).state = .qualifying) (due : h.qualifyTarget ≤ (s.lane q n).qualify) :
    ∃ active, Posted (.laneState q n .up .qualified (s.lane q n).lastLag active) v := by
  have lane := A.offers.lane q n
  have tested : b = qualifyAll a := B.lanes.trans (whenChanged_ne (by rw [A.settings]; exact differ))
  obtain ⟨active, p⟩ := posted_qualifyAll (q := q) (n := n) (s := a) (by rw [lane]; exact hs)
    (by rw [lane, A.settings]; exact due)
  rw [lane, ← tested] at p
  have holds : StillHeard (.laneState q n .up .qualified (s.lane q n).lastLag active) b c :=
    B.holds ▸ .whenChanged (stillHeard_expireHolds (by simp [Report.key]) b)
  exact ⟨active, (p.still holds).offers B.offers_afterHolds (by simp [Report.key])⟩

/-- A port that the test of the lanes leaves with none UP has its record as it was until its hold is tested. -/
theorem Blocks.record_lanes {q : Port} (down : (v.port q).lanes.anyUp = false) : (b.port q).record = (s.port q).record := by
  rw [B.lanes_afterLanes] at down
  rw [← A.offers.record, B.lanes] at *
  unfold whenChanged at *
  split
  · rfl
  · next differ => rw [if_neg differ] at down; exact qualifyAll_record down

/-- The record of an ISOLATED port whose hold runs and none of whose lanes is UP: it enters VACANT where the hold has expired
under the new setting (R29). -/
theorem Blocks.record {q : Port} {x : Nat} (hl : (s.port q).record.lossHold = some x) (hi : s.portState q = .isolated)
    (down : (v.port q).lanes.anyUp = false) :
    (v.port q).record = if h.lossHold ≠ s.settings.lossHold ∧ 24000 * h.lossHold ≤ x then (s.port q).record.vacated
      else (s.port q).record := by
  have record := B.record_lanes A down
  have due : holdDue q b = decide (24000 * h.lossHold ≤ x) := by
    rw [holdDue_iff (by rw [record]; exact hl) ((congrArg PortRecord.state record).trans hi), B.settings_lanes A]
  rw [B.offers_afterHolds.record, B.holds]
  by_cases same : h.lossHold = s.settings.lossHold
  · rw [whenChanged_same (by rw [B.settings_lanes A]; exact same), if_neg fun k => k.1 same, record]
  · rw [whenChanged_ne (by rw [B.settings_lanes A]; exact same), expireHolds_record, due, record]
    simp only [decide_eq_true_eq, ne_eq, same, not_false_eq_true, true_and]

theorem Blocks.posted_expired {q : Port} {x : Nat} (hl : (s.port q).record.lossHold = some x) (hi : s.portState q = .isolated)
    (down : (v.port q).lanes.anyUp = false) (differ : h.lossHold ≠ s.settings.lossHold) (due : 24000 * h.lossHold ≤ x) :
    Posted (portReport q .holdExpired v) v := by
  have record := B.record_lanes A down
  have expired : holdDue q b = true := by
    rw [holdDue_iff (by rw [record]; exact hl) ((congrArg PortRecord.state record).trans hi), B.settings_lanes A]
    exact decide_eq_true due
  have tested : c = expireHolds b := B.holds.trans (whenChanged_ne (by rw [B.settings_lanes A]; exact differ))
  have p := posted_expireHolds expired
  rw [← tested] at p
  rw [portReport_congr (B.offers_afterHolds.record q) (B.offers_afterHolds.merge q)]
  exact p.offers B.offers_afterHolds (by simp [portReport_key])

/-! ### The clock and the phantom transitions -/

theorem Blocks.clock_before : c.clock = s.clock :=
  (B.agree_toHolds .clock (by decide)).trans (A.agree .clock (by decide))

theorem Blocks.clock_same (same : h.source = s.settings.source) : v.clock = s.clock := by
  rw [B.agree_afterClock .clock (by decide), B.clock, whenChanged_same (by rw [B.settings_holds A]; exact same),
    B.clock_before A]

theorem Blocks.clock_changed (differ : h.source ≠ s.settings.source) :
    v.clock = s.clock.sourced h.source ∧ Posted (.clockState (s.clock.sourced h.source).state h.source) v := by
  have moved : d = sourceChanged c := B.clock.trans (whenChanged_ne (by rw [B.settings_holds A]; exact differ))
  have p := posted_sourceChanged c
  have clock := sourceChanged_clock c
  rw [← moved, B.settings_holds A] at p
  rw [← moved, B.settings_holds A, B.clock_before A] at clock
  rw [clock] at p
  exact ⟨(B.agree_afterClock .clock (by decide)).trans clock, p.offers B.offers_afterClock (by simp [Report.key])⟩

theorem Blocks.phantom_before :
    d.phantom = s.phantom ∧ d.startQueue = s.startQueue ∧ d.channels = s.channels := by
  have before := (B.agree_toHolds.mono (qs := [.ports, .outputs, .clock]) rfl).andThen B.agree_clock rfl
  exact ⟨(before .phantom (by decide)).trans (A.agree .phantom (by decide)),
    (before .startQueue (by decide)).trans (A.agree .startQueue (by decide)),
    (before .channels (by decide)).trans (A.agree .channels (by decide))⟩

theorem Blocks.phantom_same (ramp : h.rampTime = s.settings.rampTime) (settle : h.settleTime = s.settings.settleTime) :
    v.phantom = s.phantom := by
  rw [B.agree_talk .phantom (by decide), B.phantom, whenChanged_same, (B.phantom_before A).1]
  rw [B.settings_clock A]
  exact Prod.ext ramp settle

/-- The phantom state of a channel in transition: its timer is tested against the new target (R105). -/
theorem Blocks.phantom_changed (differ : h.rampTime ≠ s.settings.rampTime ∨ h.settleTime ≠ s.settings.settleTime)
    (law : StartQueueLaw s) {k : Chan} {x target : Nat} (timer : (s.phantomOf k).timer = some x)
    (ht : h.phantomTarget (s.phantomOf k).state = some target) :
    (x < target → (v.phantomOf k).state = (s.phantomOf k).state) ∧
      (target ≤ x → (s.phantomOf k).state.ended (s.channel k).phantom ≠ .queued →
        (v.phantomOf k).state = (s.phantomOf k).state.ended (s.channel k).phantom) ∧
      (target ≤ x → (s.phantomOf k).state = .rampDown → (s.channel k).phantom = true →
        (v.phantomOf k).state = .queued ∨ (v.phantomOf k).state = .rampUp) := by
  obtain ⟨phantom, queue, channels⟩ := B.phantom_before A
  have record : d.phantomOf k = s.phantomOf k := congrArg (Bank.get · k) phantom
  have channel : d.channel k = s.channel k := congrArg (Bank.get · k) channels
  have moving : (s.phantomOf k).state ≠ .queued := fun e => by rw [e] at ht; cases ht
  have out : k ∉ d.startQueue := by rw [queue, law.2 k]; exact moving
  have due : transitionDue d k = decide (target ≤ x) := by
    unfold transitionDue
    rw [record, B.settings_clock A, ht, timer]
  have tested : e = endTransitions d := by
    refine B.phantom.trans (whenChanged_ne ?_)
    rw [B.settings_clock A]
    intro same
    exact differ.elim (fun n => n (congrArg Prod.fst same)) (fun n => n (congrArg Prod.snd same))
  have later : v.phantomOf k = (endTransitions d).phantomOf k := by
    rw [← tested]; exact congrArg (Bank.get · k) (B.agree_talk .phantom (by decide))
  rw [later, ← record, ← channel]
  refine ⟨fun lt => ?_, fun ge ne => ?_, fun ge down wanted => ?_⟩
  · exact endTransitions_state out (by rw [due, decide_eq_false (Nat.not_le.2 lt)]; rfl) (by rw [record]; exact moving)
  · exact endTransitions_state out (by rw [due, decide_eq_true ge]; rfl) ne
  · exact (endTransitions_wanted out down wanted (by rw [due]; exact decide_eq_true ge)).imp_right And.left

/-! ### Talk -/

theorem Blocks.talk_before : e.talk = s.talk := by
  have before := ((B.agree_toHolds.mono (qs := [.ports, .outputs, .clock, .phantom, .startQueue, .supplyGuard, .bus]) rfl).andThen
    B.agree_clock rfl).andThen B.agree_phantom rfl
  exact (before .talk (by decide)).trans (A.agree .talk (by decide))

theorem Blocks.claims_limit (once : (s.talk.claims.map Claim.port).Nodup) :
    f.talk.claims = if h.liveLimit = s.settings.liveLimit then s.talk.claims
      else s.talk.claims.dropWhile (Claim.late h.liveLimit) := by
  rw [B.limit, ← B.talk_before A] at *
  split
  · next same => rw [whenChanged_same (by rw [B.settings_phantom A]; exact same)]
  · next differ =>
    rw [whenChanged_ne (by rw [B.settings_phantom A]; exact differ), testHead_claims once, B.settings_phantom A]

theorem Blocks.claims_same (same : h.priority = s.settings.priority) : v.talk.claims = f.talk.claims := by
  rw [B.claims_stage, B.order, whenChanged_same (by rw [B.settings_limit A]; exact same)]

theorem Blocks.claims_changed (differ : h.priority ≠ s.settings.priority) (once : (f.talk.claims.map Claim.port).Nodup) :
    v.talk.claims =
      if (sortClaims h.priority f.talk.claims).head?.map Claim.port = f.talk.claims.head?.map Claim.port then
        sortClaims h.priority f.talk.claims
      else (sortClaims h.priority f.talk.claims).dropWhile (Claim.late h.liveLimit) := by
  rw [B.claims_stage, B.order, whenChanged_ne (by rw [B.settings_limit A]; exact differ), resortTalk_claims once,
    B.settings_limit A]

theorem Blocks.onlyClaims_before : OnlyClaims s g := by
  have limit : OnlyClaims e f := by
    rw [B.limit]; unfold whenChanged; split
    · exact .of_talk rfl
    · exact onlyClaims_testHead e
  have order : OnlyClaims f g := by
    rw [B.order]; unfold whenChanged; split
    · exact .of_talk rfl
    · exact onlyClaims_resortTalk f
  exact OnlyClaims.trans (.of_talk (B.talk_before A)) (limit.trans order)

theorem Blocks.stage_taken : v.talk.taken = s.talk.taken := by
  rw [← (B.onlyClaims_before A).taken, B.stage]
  unfold whenChanged
  split
  · rfl
  · rw [recomputeStage_active]

theorem Blocks.stage_active :
    v.talk.active = if h.stageChannel = s.settings.stageChannel then s.talk.active
      else s.talk.taken && h.stageChannel.isSome := by
  have talk := B.onlyClaims_before A
  rw [← talk.taken, ← talk.active, B.stage]
  split
  · next same => rw [whenChanged_same (by rw [B.settings_order A]; exact same)]
  · next differ =>
    rw [whenChanged_ne (by rw [B.settings_order A]; exact differ), recomputeStage_active, B.settings_order A]

theorem Blocks.posted_stage (changed : v.talk.active ≠ s.talk.active) :
    Posted (.stageTalk v.talk.active s.talk.taken h.stageChannel) v := by
  have talk := B.onlyClaims_before A
  by_cases same : h.stageChannel = s.settings.stageChannel
  · exact absurd ((B.stage_active A).trans (if_pos same)) changed
  · have now : v = recomputeStage g := B.stage.trans (whenChanged_ne (by rw [B.settings_order A]; exact same))
    rw [← talk.active, now] at changed
    have p := posted_recomputeStage changed
    rwa [talk.taken, B.settings_order A, ← now] at p

end

/-! ### The obligation (O35) -/

theorem serveSetHub_refused {m : Message} (s : State) (h : settingsGiven m.body s.settings = none) :
    serveSetHub m s = refuse .range s := by
  unfold serveSetHub; rw [h]

theorem serveSetHub_taken {m : Message} {s : State} {h : Settings} {clamped : Bool}
    (given : settingsGiven m.body s.settings = some (h, clamped)) :
    serveSetHub m s = taken (if clamped then .clamped else .done) []
      (whenChanged Settings.consentWindow s.settings testWindow (changeSettings h s)) := by
  unfold serveSetHub; rw [given]

theorem qualifyTarget_eq (h : Settings) : h.qualifyTarget = 480 * h.qualifyTime := by
  simp only [Settings.qualifyTarget, Config.framesPerMs]; omega

theorem rampTarget_eq (h : Settings) : h.rampTarget = 4800 * h.rampTime := by
  simp only [Settings.rampTarget, Config.framesPerMs]; omega

theorem settleTarget_eq (h : Settings) : h.settleTarget = 4800 * h.settleTime := by
  simp only [Settings.settleTarget, Config.framesPerMs]; omega

/-- Settles O35: the fields by `settingsGiven_eq`, and each block's effect from the block that has it, the later ones leaving it
as it is. -/
theorem setHubTakesThePresentFields : Obligations.SetHubTakesThePresentFields := by
  unfold Obligations.SetHubTakesThePresentFields
  intro p m s ha
  refine ⟨fun bad => exec_refused ha rfl (serveSetHub_refused s (settingsGiven_none s.settings bad)), fun order ho hs => ?_⟩
  obtain ⟨clamped, given, hc⟩ := settingsGiven_eq s.settings ho hs
  obtain ⟨a, b, c, d, e, f, g, A, B⟩ := changeSettings_blocks (hubAsked m.body order s.settings) s
  have same : hubAsked m.body order s.settings = s.settings → changeSettings (hubAsked m.body order s.settings) s = s :=
    fun e => by rw [e]; exact changeSettings_same s
  have served := exec_served ha (show exec (.setHub p) s = .next (whenRunning (serve p kindSetHub serveSetHub) s) from rfl)
  rw [serveSetHub_taken given] at served
  generalize changeSettings (hubAsked m.body order s.settings) s = v at B served same
  have settings := B.settings A
  have running : v.power = .running := by
    rw [B.agree .power (by decide), A.agree .power (by decide)]; exact ha.1.1
  refine ⟨whenChanged Settings.consentWindow s.settings testWindow v, v, ?exec, congrArg Settings.converterDelay settings,
    congrArg Settings.rampTime settings, congrArg Settings.settleTime settings, congrArg Settings.consentWindow settings,
    congrArg Settings.liveLimit settings, congrArg Settings.priority settings, congrArg Settings.lossHold settings,
    congrArg Settings.qualifyTime settings, congrArg Settings.source settings, congrArg Settings.stageChannel settings, ?_⟩
  case exec =>
    rw [served]
    exact congrArg (fun st => Host.Outcome.next (answered p m st 1 [] _)) (if_congr hc rfl rfl)
  generalize hubAsked m.body order s.settings = h at A settings same
  have lanes := B.lane A
  subst settings
  refine ⟨B.posted_setting A, same, ?consent, fun same => whenChanged_same same, fun differ => ?window, fun q n => ⟨?due, ?notDue⟩,
    fun q x hl hi down => ⟨fun differ due => ?expired, fun standing => ?holding⟩, B.clock_same A, fun differ src => ?wordclock,
    fun differ src => ?internal, B.phantom_same A, fun differ law k x timer => ?phantom, ?claims, B.stage_taken A,
    B.stage_active A, B.posted_stage A, ?channels, ?desks, ?rate⟩
  case consent => exact (B.agree .consent (by decide)).trans (A.agree .consent (by decide))
  case window =>
    rw [whenChanged_ne differ]
    exact congrArg Host.Outcome.next (whenRunning_eq running _)
  case due =>
    intro differ hq due
    rw [← qualifyTarget_eq] at due
    exact ⟨by rw [lanes, if_neg differ, Lane.tested_due hq due]; rfl, B.posted_qualified A differ hq due⟩
  case notDue =>
    intro still
    rw [lanes]
    split
    · rfl
    · next differ =>
      refine if_neg fun due => ?_
      rw [qualifyTarget_eq] at due
      obtain h | h | h := still
      · exact differ h
      · exact h due.1
      · omega
  case expired =>
    refine ⟨?_, B.posted_expired A hl hi down differ due⟩
    have record := B.record A hl hi down
    rw [if_pos ⟨differ, due⟩] at record
    exact congrArg PortRecord.state record
  case holding =>
    rw [B.record A hl hi down, if_neg]
    rintro ⟨differ, due⟩
    obtain h | h := standing
    · exact differ h
    · omega
  case wordclock =>
    have moved := B.clock_changed A differ
    rw [src] at moved
    exact moved
  case internal =>
    have moved := B.clock_changed A differ
    rw [src] at moved
    exact moved
  case phantom =>
    have tested {target : Nat} := B.phantom_changed A differ law (k := k) (target := target) timer
    refine ⟨fun st => ?_, fun st => ?_, fun st lt => ?_, fun st ge => ?_⟩
    · obtain ⟨before, ended, -⟩ := tested (target := v.settings.rampTarget) (by rw [st]; rfl)
      rw [st, rampTarget_eq] at before ended
      split
      · next due => exact ended due nofun
      · next early => exact before (Nat.not_le.1 early)
    · obtain ⟨before, ended, -⟩ := tested (target := v.settings.settleTarget) (by rw [st]; rfl)
      rw [st, settleTarget_eq] at before ended
      split
      · next due => exact ended due nofun
      · next early => exact before (Nat.not_le.1 early)
    all_goals
      obtain ⟨before, ended, queued⟩ := tested (target := v.settings.rampTarget + v.settings.settleTarget) (by rw [st]; rfl)
      rw [rampTarget_eq, settleTarget_eq, ← Nat.mul_add] at before ended queued
    · exact (before lt).trans st
    · refine ⟨fun unwanted => ?_, queued ge st⟩
      rw [st, unwanted] at ended
      exact ended ge (by decide)
  case claims =>
    rintro late rfl l hl once
    have claims := B.claims_limit A once
    obtain rfl : l = f.talk.claims := hl.trans claims.symm
    have once : (f.talk.claims.map Claim.port).Nodup := by
      rw [claims]
      split
      · exact once
      · exact once.sublist ((List.dropWhile_sublist _).map _)
    exact ⟨B.claims_same A, fun differ =>
      ⟨_, sortClaims_perm _ _, sortClaims_inOrder _ _, B.claims_changed A differ once⟩⟩
  case channels => exact (B.agree .channels (by decide)).trans (A.agree .channels (by decide))
  case desks => exact (B.agree .desks (by decide)).trans (A.agree .desks (by decide))
  case rate => exact (B.agree .rate (by decide)).trans (A.agree .rate (by decide))

end Sys2Proof.Machine
end

section
/-! PROOF. What a departure from ATTACHED and a return to it do to the outputs, the talk claims and the proposal: the layer
under O27, O29 and O30. -/

namespace Sys2Proof.Machine

/-! ### Events on one output -/

/-- From s to t no output has moved but one, and what was heard is heard still, but for reports of that output. -/
structure OnOutput (n : OutNo) (s t : State) : Prop where
  others : ∀ o, n ≠ o → t.output o = s.output o
  heard : ∀ r : Report, r.key ≠ (11, n.val) → StillHeard r s t

theorem OnOutput.refl (n : OutNo) (s : State) : OnOutput n s s := ⟨fun _ _ => rfl, fun _ _ => .refl s⟩

theorem OnOutput.trans {n : OutNo} {s t u : State} (h : OnOutput n s t) (g : OnOutput n t u) : OnOutput n s u :=
  ⟨fun o hn => (g.others o hn).trans (h.others o hn), fun r hr => (h.heard r hr).trans (g.heard r hr)⟩

theorem OnOutput.ite {n : OutNo} {s t u : State} {c : Prop} [Decidable c] (h : OnOutput n s t) (g : OnOutput n s u) :
    OnOutput n s (if c then t else u) := by split <;> assumption

theorem onOutput_modOutput (n : OutNo) (f : Output → Output) (s : State) : OnOutput n s (modOutput n f s) :=
  ⟨fun o h => by rw [modOutput_output, if_neg h],
    fun _ _ => ((agree_modOutput n f s).offers (ks := []) rfl).stillHeard List.not_mem_nil⟩

theorem onOutput_postOutput (n : OutNo) (why : OutputReason) (s : State) : OnOutput n s (postOutput n why s) :=
  ⟨fun _ _ => rfl, fun _ hr => stillHeard_post hr s⟩

theorem onOutput_expireDelay (n : OutNo) (s : State) : OnOutput n s (expireDelay n s) :=
  .ite ((onOutput_modOutput _ _ _).trans (onOutput_postOutput _ _ _)) (.refl n s)

theorem onOutput_outputLeft (p : Port) (n : OutNo) (s : State) : OnOutput n s (outputLeft p n s) :=
  .ite (((onOutput_modOutput _ _ _).trans (onOutput_postOutput _ _ _)).trans (onOutput_expireDelay _ _)) (.refl n s)

theorem onOutput_outputReturned (p : Port) (n : OutNo) (s : State) : OnOutput n s (outputReturned p n s) :=
  .ite ((onOutput_modOutput _ _ _).trans (onOutput_postOutput _ _ _)) (.refl n s)

/-- OUTPUT STATE of an output as it stands (R137). -/
def Output.report (n : OutNo) (why : OutputReason) (x : Output) : Report :=
  .outputState n x.state why x.source x.fallbackChannel x.fallbackLevel x.remainingMs

theorem posted_postOutput (n : OutNo) (why : OutputReason) (s : State) :
    Posted ((s.output n).report n why) (postOutput n why s) := posted_post (by simp [Output.report, Report.key]) s

/-- Where each output has its own event in turn, one of them is found as its event leaves it, and its report heard. -/
theorem forEach_output {f : OutNo → State → State} (hf : ∀ n t, OnOutput n t (f n t)) {o : OutNo} {why : OutputReason}
    {x y : Output} {s : State} (hit : ∀ t, t.output o = s.output o → (f o t).output o = x ∧ Posted (y.report o why) (f o t)) :
    (forEach f (indexes 32) s).output o = x ∧ Posted (y.report o why) (forEach f (indexes 32) s) := by
  refine forEach_then (D := fun t => t.output o = s.output o) (Q := fun t => t.output o = x ∧ Posted (y.report o why) t)
    (fun n t hn ht => ((hf n t).others o hn).trans ht) hit (fun n t hn ht => ?_) (nodup_indexes 32) (mem_indexes o) rfl
  refine ⟨((hf n t).others o hn).trans ht.1, ht.2.still ((hf n t).heard _ fun e => hn (Fin.ext ?_))⟩
  exact (congrArg Prod.snd e).symm

/-! ### Outputs whose source leaves ATTACHED (R129, R130) -/

/-- An output that begins to wait. -/
def Output.toWait (x : Output) : Output := { x with state := .waiting, timer := some 0 }

/-- An output whose source has left: it waits, or with a delay of 0 it is in FALLBACK at once. -/
def Output.left (x : Output) : Output := if x.fallbackDelay = 0 then x.toWait.expire else x.toWait

/-- The reason of the last OUTPUT STATE of an output whose source has left. -/
def Output.leftReason (x : Output) : OutputReason := if x.fallbackDelay = 0 then .delayExpired else .sourceLeft

theorem toWait_delayDue (x : Output) : x.toWait.delayDue = decide (x.fallbackDelay = 0) := by
  have target : x.toWait.delayTarget = 4800 * x.fallbackDelay := delayTarget_eq _
  have due : x.toWait.delayDue = decide (x.toWait.delayTarget ≤ 0) := rfl
  rw [due, decide_eq_decide, target]
  omega

/-- A delay of 100 ms steps that has just begun remains whole (R137). -/
theorem toWait_remainingMs (x : Output) : x.toWait.remainingMs = some (100 * x.fallbackDelay) := by
  have target : x.toWait.delayTarget = 4800 * x.fallbackDelay := delayTarget_eq _
  have remains : x.toWait.remainingMs = some (msRoundedUp (x.toWait.delayTarget - 0)) := rfl
  rw [remains, target, msRoundedUp, Config.framesPerMs, Option.some.injEq]
  omega

theorem outputLeft_hit {p : Port} {n : OutNo} {s : State} (h : (s.output n).state = .normal ∧ (s.output n).sourcedBy p = true) :
    (outputLeft p n s).output n = (s.output n).left ∧
      Posted ((s.output n).left.report n (s.output n).leftReason) (outputLeft p n s) := by
  have run : outputLeft p n s = expireDelay n (postOutput n .sourceLeft (modOutput n Output.toWait s)) := if_pos h
  have waits : (postOutput n .sourceLeft (modOutput n Output.toWait s)).output n = (s.output n).toWait :=
    modOutput_output_same n Output.toWait s
  rw [run, expireDelay, waits, toWait_delayDue, Output.left, Output.leftReason]
  by_cases h0 : (s.output n).fallbackDelay = 0
  · have expired : (modOutput n Output.expire (postOutput n .sourceLeft (modOutput n Output.toWait s))).output n =
        (s.output n).toWait.expire := (modOutput_output_same _ _ _).trans (congrArg Output.expire waits)
    simp only [h0, decide_true, if_true]
    exact ⟨expired, expired ▸ posted_postOutput n .delayExpired _⟩
  · have told := posted_postOutput n .sourceLeft (modOutput n Output.toWait s)
    rw [modOutput_output_same] at told
    simp only [h0, decide_false, if_false, Bool.false_eq_true]
    exact ⟨waits, told⟩

theorem outputsLeft_hit {p : Port} {o : OutNo} {s : State} (h : (s.output o).state = .normal ∧ (s.output o).sourcedBy p = true) :
    (outputsLeft p s).output o = (s.output o).left ∧
      Posted ((s.output o).left.report o (s.output o).leftReason) (outputsLeft p s) :=
  forEach_output (onOutput_outputLeft p) fun _ ht => ht ▸ outputLeft_hit (ht ▸ h)

/-! ### Outputs whose source returns to ATTACHED (R131) -/

/-- An output whose source has returned. -/
def Output.returned (x : Output) : Output := x.become fun o => { o with state := .normal, timer := none }

theorem outputReturned_hit {p : Port} {n : OutNo} {s : State}
    (h : (s.output n).state ≠ .normal ∧ (s.output n).sourcedBy p = true) :
    (outputReturned p n s).output n = (s.output n).returned ∧
      Posted ((s.output n).returned.report n .sourceReturned) (outputReturned p n s) := by
  have run : outputReturned p n s = postOutput n .sourceReturned (modOutput n Output.returned s) := if_pos h
  have told := posted_postOutput n .sourceReturned (modOutput n Output.returned s)
  rw [modOutput_output_same] at told
  rw [run]
  exact ⟨modOutput_output_same n Output.returned s, told⟩

theorem outputsReturned_hit {p : Port} {o : OutNo} {s : State}
    (h : (s.output o).state ≠ .normal ∧ (s.output o).sourcedBy p = true) :
    (outputsReturned p s).output o = (s.output o).returned ∧
      Posted ((s.output o).returned.report o .sourceReturned) (outputsReturned p s) :=
  forEach_output (onOutput_outputReturned p) fun _ ht => ht ▸ outputReturned_hit (ht ▸ h)

theorem outputsReturned_other {p : Port} {o : OutNo} {s : State} (h : (s.output o).sourcedBy p = false) :
    (outputsReturned p s).output o = s.output o := by
  refine forEach_keeps (P := fun t => t.output o = s.output o) (fun n t ht => ?_) (indexes 32) s rfl
  by_cases hn : n = o
  · subst hn
    have stands : outputReturned p n t = t := if_neg fun hit => by rw [ht, h] at hit; exact absurd hit.2 (by decide)
    rw [stands, ht]
  · exact ((onOutput_outputReturned p n t).others o hn).trans ht

theorem sourcedBy_iff {p : Port} {x : Output} : x.sourcedBy p = true ↔ ∃ src, x.source = some src ∧ src.port = p := by
  unfold Output.sourcedBy
  cases x.source <;> simp

/-! ### A claim removed (R141, R145) -/

theorem settleHead_suffix (n : Nat) (s : State) : (settleHead n s).talk.claims <:+ s.talk.claims := by
  induction n generalizing s with
  | zero => exact List.suffix_rfl
  | succ n ih =>
    unfold settleHead
    split
    · refine (ih _).trans ?_
      cases h : s.talk.claims with
      | nil => simp [expireHead, h]
      | cons c rest => exact (expireHead_claims h).1 ▸ List.suffix_cons c rest
    · exact List.suffix_rfl

/-- A changed head can only remove claims: those past the live limit (R141). -/
theorem headChanged_suffix (before : Option Port) (s : State) : (headChanged before s).talk.claims <:+ s.talk.claims := by
  have follows {b : Option Port} {u : State} : (followTalker b u).talk.claims = u.talk.claims :=
    congrArg Talk.claims (followTalker_talk b u).1
  unfold headChanged
  dsimp only
  split
  · rw [follows]
  · rw [testHead, follows]
    exact (settleHead_suffix 3 _).trans (by rw [follows])

/-- A port whose claim has been removed holds none. -/
theorem removeClaim_claims (p : Port) (why : TalkReason) (s : State) : ∀ x ∈ (removeClaim p why s).talk.claims, x.port ≠ p := by
  intro x hx
  unfold removeClaim at hx
  split at hx
  · have kept := (headChanged_suffix _ _).subset hx
    exact of_decide_eq_true (List.mem_filter.1 kept).2
  · next without =>
    have absent : s.talk.claims.find? (fun c => c.port = p) = none := by simpa [claimOf] using without
    exact fun e => List.find?_eq_none.1 absent x hx (decide_eq_true e)

/-- From s to t every output has stood as it was, but for the ramp of its dim. -/
def DimsFollow (s t : State) : Prop := ∀ o, ∃ r, t.output o = { s.output o with dimRamp := r }

theorem DimsFollow.of_outputs {s t : State} (h : t.outputs = s.outputs) : DimsFollow s t := fun o =>
  ⟨(s.output o).dimRamp, congrArg (Bank.get · o) h⟩

theorem DimsFollow.trans {s t u : State} (h : DimsFollow s t) (g : DimsFollow t u) : DimsFollow s u := by
  intro o
  obtain ⟨r, h⟩ := h o
  obtain ⟨x, g⟩ := g o
  exact ⟨x, by rw [g, h]⟩

theorem dimsFollow_followTalker (before : Option Port) (s : State) : DimsFollow s (followTalker before s) := by
  unfold followTalker
  split
  · exact .of_outputs rfl
  · exact fun o => ⟨_, Bank.get_each _ _ o⟩

theorem dimsFollow_headChanged (before : Option Port) (s : State) : DimsFollow s (headChanged before s) := by
  unfold headChanged
  dsimp only
  split
  · exact dimsFollow_followTalker _ _
  · have tested := DimsFollow.of_outputs (agree_settleHead 3 (followTalker before s) .outputs (by decide))
    exact ((dimsFollow_followTalker _ _).trans tested).trans (dimsFollow_followTalker _ _)

theorem dimsFollow_removeClaim (p : Port) (why : TalkReason) (s : State) : DimsFollow s (removeClaim p why s) := by
  unfold removeClaim
  split
  · exact (DimsFollow.of_outputs rfl).trans (dimsFollow_headChanged _ _)
  · exact .of_outputs rfl

/-! ### A departure from the pending proposal (R157) -/

theorem departConsent_none {p : Port} {s : State} (h : s.consent.proposal = none) : departConsent p s = s := by
  simp only [departConsent, h]

theorem departConsent_own {p : Port} {pr : Proposal} {s : State} (h : s.consent.proposal = some pr) (hp : pr.proposer = p) :
    departConsent p s = withdrawProposal pr .departure s := by
  simp only [departConsent, h, if_pos hp]

theorem departConsent_other {p : Port} {pr : Proposal} {s : State} (h : s.consent.proposal = some pr) (hp : pr.proposer ≠ p) :
    departConsent p s = modConsent (fun c => { c with proposal := some { pr with voters := pr.voters.put p false } }) s := by
  simp only [departConsent, h, if_neg hp]

/-- The consent unit once a proposal has been withdrawn (R152, R157). -/
theorem withdrawProposal_consent (pr : Proposal) (why : Cause) (s : State) :
    (withdrawProposal pr why s).consent =
      { s.consent with
        proposal := none,
        lastOutcome := some { number := pr.number, action := pr.action, proposer := pr.proposer, ending := .withdrawn } } :=
  rfl

theorem posted_withdrawProposal (pr : Proposal) (why : Cause) (s : State) :
    Posted (.consentEnded pr.number pr.action pr.proposer .withdrawn none (some why)) (withdrawProposal pr why s) :=
  posted_post (by simp [Report.key]) _

/-! ### Leaving ATTACHED and returning to it (R34, R35) -/

/-- What a port that leaves ATTACHED loses from s to t. -/
structure HasLeft (p : Port) (s t : State) : Prop where
  claims : ∀ x ∈ t.talk.claims, x.port ≠ p
  own : ∀ pr, s.consent.proposal = some pr → pr.proposer = p →
    t.consent.proposal = none ∧ t.consent.lastOutcome = some
      { number := pr.number, action := pr.action, proposer := p, ending := .withdrawn }
  vote : ∀ pr, s.consent.proposal = some pr → pr.proposer ≠ p →
    t.consent.proposal = some { pr with voters := pr.voters.put p false }
  outputs : ∀ o, (s.output o).state = .normal → (s.output o).sourcedBy p = true →
    ∃ r, t.output o = { (s.output o).left with dimRamp := r }
  told : ∀ o, (s.output o).state = .normal → (s.output o).sourcedBy p = true →
    Posted ((s.output o).left.report o (s.output o).leftReason) t

/-- What a port that returns to ATTACHED finds from s to t. -/
structure HasReturned (p : Port) (s t : State) : Prop where
  outputs : ∀ o, (s.output o).state ≠ .normal → (s.output o).sourcedBy p = true → t.output o = (s.output o).returned
  told : ∀ o, (s.output o).state ≠ .normal → (s.output o).sourcedBy p = true →
    Posted ((s.output o).returned.report o .sourceReturned) t
  others : ∀ o, (s.output o).sourcedBy p = false → t.output o = s.output o

/-- The dim of an output has no part in what becomes of it when its source leaves. -/
theorem left_dimRamp (x : Output) (r : Option Ramp) :
    ({ x with dimRamp := r } : Output).left = { x.left with dimRamp := r } := by
  unfold Output.left
  split <;> rfl

theorem leaveAttached_hasLeft (p : Port) (s : State) : HasLeft p s (leaveAttached p s) := by
  have later : Agree [.ports, .outputs] (departConsent p (removeClaim p .departed s)) (leaveAttached p s) :=
    agree_outputsLeft p _
  have departs : Agree [.ports, .consent] (removeClaim p .departed s) (departConsent p (removeClaim p .departed s)) :=
    agree_departConsent p _
  have consent : (removeClaim p .departed s).consent = s.consent := agree_removeClaim p .departed s .consent (by decide)
  have dims (o : OutNo) : ∃ r, (departConsent p (removeClaim p .departed s)).output o = { s.output o with dimRamp := r } :=
    ((dimsFollow_removeClaim p .departed s).trans (.of_outputs (departs .outputs (by decide)))) o
  have hit (o : OutNo) (hn : (s.output o).state = .normal) (hs : (s.output o).sourcedBy p = true) :
      ∃ r, (leaveAttached p s).output o = { (s.output o).left with dimRamp := r } ∧
        Posted ((s.output o).left.report o (s.output o).leftReason) (leaveAttached p s) := by
    obtain ⟨r, e⟩ := dims o
    have left := outputsLeft_hit (p := p) (s := departConsent p (removeClaim p .departed s)) (o := o) (by rw [e]; exact ⟨hn, hs⟩)
    rw [e, left_dimRamp] at left
    exact ⟨r, left⟩
  refine ⟨?_, fun pr h hp => ?_, fun pr h hp => ?_, fun o hn hs => ?_, fun o hn hs => ?_⟩
  · rw [later .talk (by decide), departs .talk (by decide)]
    exact removeClaim_claims p .departed s
  · rw [later .consent (by decide), departConsent_own (by rw [consent]; exact h) hp, withdrawProposal_consent]
    subst hp
    exact ⟨rfl, rfl⟩
  · rw [later .consent (by decide), departConsent_other (by rw [consent]; exact h) hp]
    rfl
  · obtain ⟨r, e, -⟩ := hit o hn hs
    exact ⟨r, e⟩
  · obtain ⟨-, -, told⟩ := hit o hn hs
    exact told

theorem outputsReturned_hasReturned (p : Port) (s : State) : HasReturned p s (outputsReturned p s) :=
  ⟨fun _ hn hs => (outputsReturned_hit ⟨hn, hs⟩).1, fun _ hn hs => (outputsReturned_hit ⟨hn, hs⟩).2,
    fun _ hs => outputsReturned_other hs⟩

/-- From s to t talk, the consent unit and the outputs have stood. -/
def ShowStands (s t : State) : Prop := t.talk = s.talk ∧ t.consent = s.consent ∧ t.outputs = s.outputs

theorem Agree.showStands {ps : List Part} {s t : State} (h : Agree ps s t) (ht : ps.contains .talk = false)
    (hc : ps.contains .consent = false) (ho : ps.contains .outputs = false) : ShowStands s t :=
  ⟨h .talk (by simpa using ht), h .consent (by simpa using hc), h .outputs (by simpa using ho)⟩

theorem ShowStands.output {s t : State} (h : ShowStands s t) (o : OutNo) : t.output o = s.output o :=
  congrArg (Bank.get · o) h.2.2

/-- What comes before a departure and after it takes nothing from it, where it leaves OUTPUT STATE heard. -/
theorem HasLeft.within {p : Port} {s s' t t' : State} (h : HasLeft p s' t') (before : ShowStands s s') (after : ShowStands t' t)
    (heard : ∀ r : Report, r.key.1 = 11 → StillHeard r t' t) : HasLeft p s t := by
  obtain ⟨-, consent, -⟩ := id before
  obtain ⟨talk, consent', -⟩ := id after
  refine ⟨talk ▸ h.claims, ?_, ?_, fun o => ?_, fun o hn hs => ?_⟩
  · rw [← consent, consent']; exact h.own
  · rw [← consent, consent']; exact h.vote
  · rw [← before.output, after.output]; exact h.outputs o
  · rw [← before.output] at hn hs ⊢
    exact (h.told o hn hs).still (heard _ rfl)

theorem HasReturned.within {p : Port} {s s' t t' : State} (h : HasReturned p s' t') (before : ShowStands s s')
    (after : ShowStands t' t) (heard : ∀ r : Report, r.key.1 = 11 → StillHeard r t' t) : HasReturned p s t := by
  refine ⟨fun o => ?_, fun o hn hs => ?_, fun o => ?_⟩
  · rw [← before.output, after.output]; exact h.outputs o
  · rw [← before.output] at hn hs ⊢
    exact (h.told o hn hs).still (heard _ rfl)
  · rw [← before.output, after.output]; exact h.others o

end Sys2Proof.Machine
end

section
/-! PROOF. The port controller told of its lanes, the entry to VACANT, and the timers of a port: settles O26 and O28. -/

namespace Sys2Proof.Machine

/-! ### The entry to VACANT (R30) -/

/-- A port that has entered VACANT hears nothing of it (R50). -/
theorem enterVacant_port (p : Port) (why : PortReason) (s : State) : (enterVacant p why s).port p = (s.port p).vacated := by
  have gone : (vacate p s).port p = (s.port p).vacated := (congrArg (State.port · p) (modPort_modPort _ _ _ _)).trans
    (modPort_port_same _ _ _)
  have absent : ((vacate p s).portState p).present = false := by rw [State.portState, gone]; rfl
  rw [enterVacant, postPort, post_port, if_neg (by rw [absent]; decide), gone]

theorem posted_enterVacant (p : Port) (why : PortReason) (s : State) :
    Posted (portReport p why (enterVacant p why s)) (enterVacant p why s) := posted_postPort p why _

/-! ### The moves of the port controller (R26 to R28) -/

section
variable {p : Port} {s : State}

theorem lanesChanged_linked (now : (s.port p).lanes.anyUp = true) (hs : s.portState p = .vacant) :
    lanesChanged p false s = postPort p .laneUp (modRecord p (fun r => { r with state := .linked }) s) := by
  simp [lanesChanged, now, hs]

theorem lanesChanged_rejoin (now : (s.port p).lanes.anyUp = true) (hs : s.portState p = .isolated) :
    lanesChanged p false s = rejoin p s := by
  simp [lanesChanged, now, hs]

theorem lanesChanged_vacant (now : (s.port p).lanes.anyUp = false) (hs : s.portState p = .linked) :
    lanesChanged p true s = enterVacant p .linkLost s := by
  simp [lanesChanged, now, hs]

theorem lanesChanged_isolate (now : (s.port p).lanes.anyUp = false) (hs : s.portState p = .attached) :
    lanesChanged p true s = isolate p s := by
  simp [lanesChanged, now, hs]

end

theorem lanesChanged_lanes (p : Port) (was : Bool) (s : State) :
    ((lanesChanged p was s).port p).lanes = (s.port p).lanes := by
  rw [(offers_lanesChanged p was s).lanes, modPort_port_same]; rfl

theorem lanesChanged_record (p : Port) (was : Bool) (s : State) :
    ((lanesChanged p was s).port p).record = (s.port p).record.follow was (s.port p).lanes.anyUp := by
  rw [(offers_lanesChanged p was s).record, modPort_port_same]; rfl

@[simp] theorem PortRecord.follow_same (was : Bool) (r : PortRecord) : r.follow was was = r := if_pos rfl

/-- From s to t a lane of port p may have moved and reports been offered; the port controller has not been told. -/
structure LaneMoved (p : Port) (s t : State) : Prop where
  agree : Agree [.ports] s t
  record : (t.port p).record = (s.port p).record
  outbound : (t.port p).control.outbound = (s.port p).control.outbound

theorem LaneMoved.portState {p : Port} {s t : State} (h : LaneMoved p s t) : t.portState p = s.portState p :=
  congrArg PortRecord.state h.record

theorem LaneMoved.trans {p : Port} {s t u : State} (h : LaneMoved p s t) (g : LaneMoved p t u) : LaneMoved p s u :=
  ⟨h.agree.trans g.agree, g.record.trans h.record, g.outbound.trans h.outbound⟩

theorem LaneMoved.ite {p : Port} {s t u : State} {c : Prop} [Decidable c] (h : LaneMoved p s t) (g : LaneMoved p s u) :
    LaneMoved p s (if c then t else u) := by split <;> assumption

theorem laneMoved_postLane (p : Port) (n : LaneName) (why : LaneReason) (s : State) : LaneMoved p s (postLane p n why s) := by
  refine ⟨agree_postLane p n why s, (offers_postLane p n why s).record p, ?_⟩
  obtain ⟨rs, -, e⟩ := offers_postLane p n why s p
  rw [e]
  exact Control.foldl_offer_outbound _ _

theorem laneMoved_modPort {p : Port} {f : PortUnit → PortUnit} {s : State} (hr : (f (s.port p)).record = (s.port p).record)
    (hc : (f (s.port p)).control = (s.port p).control) : LaneMoved p s (modPort p f s) :=
  ⟨agree_modPort p f s, by rw [modPort_port_same, hr], by rw [modPort_port_same, hc]⟩

/-- A command of a lane of port p leaves the port as it was, or moves the lane and tells the port controller. -/
inductive LaneTold (p : Port) (s : State) : State → Prop where
  | stood {t : State} (record : (t.port p).record = (s.port p).record)
      (lanes : (t.port p).lanes.anyUp = (s.port p).lanes.anyUp) : LaneTold p s t
  | told {v : State} (moved : LaneMoved p s v) : LaneTold p s (lanesChanged p (s.port p).lanes.anyUp v)

/-- A port between whose lanes being UP or not nothing has changed stands (2.2). -/
theorem LaneTold.record {p : Port} {s t : State} (h : LaneTold p s t)
    (up : (t.port p).lanes.anyUp = (s.port p).lanes.anyUp) : (t.port p).record = (s.port p).record := by
  cases h with
  | stood record _ => exact record
  | told moved =>
    rw [lanesChanged_lanes] at up
    rw [lanesChanged_record, up, PortRecord.follow_same, moved.record]

theorem laneEvent_told (p : Port) (n : LaneName) (why : LaneReason) (f : Lane → Lane) (s : State) :
    LaneTold p s (laneEvent p n why f s) := by
  rw [laneEvent_eq]
  have lane : LaneMoved p s (postLane p n why (modPort p (PortUnit.laneMoved n f) s)) :=
    (laneMoved_modPort (f := PortUnit.laneMoved n f) rfl rfl).trans (laneMoved_postLane _ _ _ _)
  exact .told (.ite (lane.trans (laneMoved_postLane _ _ _ _)) lane)

theorem setLossPin_anyUp (p : Port) (n : LaneName) (loss : Bool) (s : State) :
    ((setLossPin p n loss s).port p).lanes.anyUp = (s.port p).lanes.anyUp := by
  rw [setLossPin, modLane_port, if_pos rfl]
  exact Lanes.anyUp_put rfl

/-- The pin of the lane is set before the event (R167). -/
theorem LaneTold.pinned {p : Port} {n : LaneName} {loss : Bool} {s t : State} (h : LaneTold p (setLossPin p n loss s) t) :
    LaneTold p s t := by
  have pin : LaneMoved p s (setLossPin p n loss s) := laneMoved_modPort rfl rfl
  cases h with
  | stood record lanes => exact .stood (record.trans pin.record) (lanes.trans (setLossPin_anyUp p n loss s))
  | told moved => rw [setLossPin_anyUp]; exact .told (pin.trans moved)

/-- A lane that is acquired rises no further than QUALIFYING, so that its port stands (R6). -/
theorem acquired_told (p : Port) (n : LaneName) (s : State) : LaneTold p s (acquired p n s) := by
  unfold acquired
  dsimp only
  split
  · exact .stood rfl rfl
  · next c _ =>
    split
    · next due =>
      have lanes (late : Bool) : ((laneEvent p n .acquired (Lane.acquire c.echo late) s).port p).lanes.anyUp =
          (s.port p).lanes.anyUp := by
        rw [laneEvent_lanes, anyUp_eq _ n, anyUp_eq _ n]
        congr 1
        · rw [Bool.eq_iff_iff, Lanes.isUp_iff, Lanes.isUp_iff, lanes_get_put_same]
          exact acquire_isUp due.1 _ _
        · exact Lanes.isUp_congr (by rw [lanes_get_put_other])
      have record (late : Bool) : ((laneEvent p n .acquired (Lane.acquire c.echo late) s).port p).record =
          (s.port p).record := (laneEvent_told p n .acquired _ s).record (lanes late)
      split
      · have offered := offers_postLane p n .overBudget (laneEvent p n .acquired
          (Lane.acquire c.echo (decide ((s.port p).merge.offset < (s.lane p n).lastLag.getD 0))) s)
        exact .stood ((offered.record p).trans (record _)) ((congrArg Lanes.anyUp (offered.lanes p)).trans (lanes _))
      · exact .stood ((modMerge_port_record _ _ _ _).trans (record _))
          ((congrArg Lanes.anyUp (modMerge_port_lanes _ _ _ _)).trans (lanes _))
    · exact .stood rfl rfl

/-- Each command of a lane tells the port controller of one event, or leaves the port standing. -/
theorem laneCommands_told {p : Port} {n : LaneName} {c : Instr} {s t : State} (hc : c ∈ laneCommands p n)
    (h : exec c s = .next t) : LaneTold p s t := by
  have run {f : State → State} {u : State} (hf : LaneTold p u (f u)) : LaneTold p u (whenRunning f u) := by
    unfold whenRunning
    split
    · exact hf
    · exact .stood rfl rfl
  have event {d : Prop} [Decidable d] (why : LaneReason) (f : Lane → Lane) (u : State) :
      LaneTold p u (if d then laneEvent p n why f u else u) := by
    split
    · exact laneEvent_told p n why f u
    · exact .stood rfl rfl
  simp only [laneCommands, List.mem_cons, List.not_mem_nil, or_false] at hc
  rcases hc with rfl | rfl | rfl | rfl | rfl | rfl <;> injection h with e <;> subst e
  · have lost : LaneTold p (setLossPin p n true s) (lightLost p n (setLossPin p n true s)) := by
      rw [lightLost, ← ite_not]
      exact event _ _ _
    exact (run lost).pinned
  · exact (run (event _ _ _)).pinned
  · exact run (acquired_told p n s)
  all_goals exact run (event _ _ _)

/-! ### The port and its lanes (O26) -/

/-- Settles O26, by the moves of the port controller where a lane command has told it. -/
theorem portFollowsItsLanes : Obligations.PortFollowsItsLanes := by
  intro p n c s t hc h
  have moves := laneCommands_told hc h
  refine ⟨moves.record, ?_⟩
  obtain ⟨record, lanes⟩ | @⟨v, moved⟩ := moves
  · exact ⟨fun was now => absurd (lanes.trans was) (by rw [now]; decide),
      fun was now => absurd (lanes.trans was) (by rw [now]; decide)⟩
  · have record := lanesChanged_record p (s.port p).lanes.anyUp v
    rw [moved.record] at record
    rw [lanesChanged_lanes]
    have follow {was now : Bool} {st : PortState} (hw : (s.port p).lanes.anyUp = was) (hn : (v.port p).lanes.anyUp = now)
        (hs : s.portState p = st) :
        ((lanesChanged p was v).port p).record = (s.port p).record.follow was now ∧ (s.port p).record.state = st ∧
          v.portState p = st :=
      ⟨by rw [← hw, record, hn], hs, moved.portState.trans hs⟩
    refine ⟨fun was now => ⟨fun hs => ?_, fun hs => ?_⟩, fun was now => ⟨fun hs => ?_, fun hs => ?_⟩⟩
    all_goals
      obtain ⟨record, hr, hv⟩ := follow was now hs
      rw [was]
    · refine ⟨by rw [record]; simp [PortRecord.follow, hr], ?_⟩
      rw [lanesChanged_linked now hv]
      exact posted_postPort p .laneUp _
    · refine ⟨by rw [record]; simp [PortRecord.follow, hr], ?_⟩
      rw [lanesChanged_rejoin now hv]
      exact posted_postPort p .rejoined _
    · refine ⟨by rw [record]; simp [PortRecord.follow, hr, PortRecord.vacated], ?_, ?_⟩
      · rw [lanesChanged_vacant now hv, enterVacant_port, PortUnit.vacated, Control.vacated, moved.outbound]
      · rw [lanesChanged_vacant now hv]
        exact posted_enterVacant p .linkLost v
    · refine ⟨by rw [record]; simp [PortRecord.follow, hr], ?_⟩
      rw [lanesChanged_isolate now hv]
      exact posted_postPort p .isolated _

/-! ### The timers of a port (O28) -/

/-- Settles O28, from what a discarded assembly and an entry to VACANT make of the port. -/
theorem portTimersExpire : Obligations.PortTimersExpire := by
  intro p s hr
  refine ⟨fun a ha idle => ?_, fun e hi he due => ?_⟩
  · have run : exec (.assemblyTimeout p) s = .next (dropAssembly p .timeout s) := by
      refine congrArg Host.Outcome.next ((whenRunning_eq hr _).trans ?_)
      simp only [assemblyTimedOut, ha]
      exact if_pos idle
    refine ⟨_, run, ?_⟩
    rw [dropAssembly_port, if_pos rfl]
    simp only [ha]
    split
    · next vacant => exact ⟨rfl, rfl, fun _ => rfl, fun h => absurd vacant h⟩
    · next present =>
      refine ⟨?_, ?_, fun h => absurd h present, fun _ empty => ?_⟩
      · rw [Control.offer_eq]
      · rw [Control.offer_eq]
      · simp [Control.offer, empty, Config.reportPlaces]
  · have expired : holdDue p s = true := by rw [holdDue_iff he hi]; exact decide_eq_true due
    have run : exec (.holdExpired p) s = .next (enterVacant p .holdExpired s) :=
      congrArg Host.Outcome.next ((whenRunning_eq hr _).trans (if_pos expired))
    refine ⟨_, run, ?_⟩
    rw [enterVacant_port]
    exact ⟨rfl, rfl, rfl, rfl, posted_enterVacant p .holdExpired s⟩

end Sys2Proof.Machine
end

section
/-! PROOF. Departures from ATTACHED and returns to it, by ATTACH, by DETACH and by a lane: settles O27. -/

namespace Sys2Proof.Machine

/-! ### Answered requests -/

@[simp] theorem answered_portState (p q : Port) (m : Message) (st : Status) (steps : Nat) (result : List Byte) (s : State) :
    (answered p m st steps result s).portState q = s.portState q :=
  congrArg PortRecord.state (modControl_port_record _ _ _ _)

/-- An answer touches no report (R47). -/
theorem stillHeard_answered {r : Report} (p : Port) (m : Message) (st : Status) (steps : Nat) (result : List Byte) (s : State) :
    StillHeard r s (answered p m st steps result s) := by
  intro q hq
  rw [answered_portState] at hq
  refine ⟨hq, fun hh => ?_⟩
  unfold Heard at hh ⊢
  rw [answered, modControl_port]
  split
  · next e => subst e; exact hh
  · exact hh

/-! ### What a command does to a port's attendance -/

/-- From s to t a port that has left ATTACHED has been felt to leave, and one that has returned to return (R34, R35). -/
structure Attendance (p : Port) (s t : State) : Prop where
  left : s.portState p = .attached → t.portState p ≠ .attached → HasLeft p s t
  returned : s.portState p ≠ .attached → t.portState p = .attached → HasReturned p s t

/-- A port that stays where it was neither leaves nor returns. -/
theorem Attendance.of_state {p : Port} {s t : State} (h : t.portState p = s.portState p) : Attendance p s t :=
  ⟨fun was now => absurd (h.trans was) now, fun was now => absurd (h.symm.trans now) was⟩

theorem Attendance.answered {p : Port} {s t : State} (h : Attendance p s t) (m : Message) (st : Status) (steps : Nat)
    (result : List Byte) : Attendance p s (Machine.answered p m st steps result t) := by
  have stands : ShowStands t (Machine.answered p m st steps result t) := ⟨rfl, rfl, rfl⟩
  refine ⟨fun was now => ?_, fun was now => ?_⟩ <;> rw [answered_portState] at now
  · exact (h.left was now).within ⟨rfl, rfl, rfl⟩ stands fun _ _ => stillHeard_answered p m st steps result t
  · exact (h.returned was now).within ⟨rfl, rfl, rfl⟩ stands fun _ _ => stillHeard_answered p m st steps result t

/-- A request moves its port as its owner does, or not at all (R44). -/
theorem Attendance.serve {p : Port} {kind : Byte} {owner : Message → State → Served} {s : State}
    (h : ∀ m, Attendance p s (owner m s).state) : Attendance p s (whenRunning (Machine.serve p kind owner) s) := by
  unfold whenRunning
  split
  · obtain e | ⟨m, rest, -, -, -, e⟩ := serve_cases p kind owner s <;> rw [e]
    · exact .of_state rfl
    · rw [popRequest_pushReply]
      refine Attendance.answered ?_ _ _ _ _
      unfold checkAndServe
      split
      · exact .of_state rfl
      · split
        · exact .of_state rfl
        · exact h m
  · exact .of_state rfl

/-! ### ATTACH and DETACH (R31 to R33) -/

@[simp] theorem modRecord_portState (p : Port) (f : PortRecord → PortRecord) (s : State) :
    (modRecord p f s).portState p = (f (s.port p).record).state := by
  rw [State.portState, modRecord_port, if_pos rfl]

/-- PORT STATE leaves OUTPUT STATE heard. -/
theorem stillHeard_postPort {r : Report} (hr : r.key.1 = 11) (p : Port) (why : PortReason) (s : State) :
    StillHeard r s (postPort p why s) := (offers_postPort p why s).stillHeard (by rw [hr]; decide)

theorem showStands_modRecord (p : Port) (f : PortRecord → PortRecord) (s : State) : ShowStands s (modRecord p f s) :=
  (agree_modRecord p f s).showStands rfl rfl rfl

theorem showStands_postPort (p : Port) (why : PortReason) (s : State) : ShowStands s (postPort p why s) :=
  (agree_postPort p why s).showStands rfl rfl rfl

/-- The departure as a whole: the port's record, what it loses, and PORT STATE (R34). -/
theorem HasLeft.moved {p : Port} {f : PortRecord → PortRecord} {why : PortReason} (s : State) :
    HasLeft p s (postPort p why (leaveAttached p (modRecord p f s))) :=
  (leaveAttached_hasLeft p (modRecord p f s)).within (showStands_modRecord p f s) (showStands_postPort p why _)
    fun _ hr => stillHeard_postPort hr p why _

theorem attachLinked_attendance {p : Port} {s : State} (serial : Nat) (name : List Byte) (hs : s.portState p = .linked) :
    Attendance p s (attachLinked p serial name s).state := by
  refine ⟨fun was => ?_, fun _ _ => ?_⟩
  · rw [hs] at was; cases was
  · refine (outputsReturned_hasReturned p _).within ?_ (showStands_postPort p .attached _)
      fun _ hr => stillHeard_postPort hr p .attached _
    split
    · exact ((agree_modRecord _ _ _).mono.andThen (agree_resetRecords p _)).showStands (ps := [.ports, .desks]) rfl rfl rfl
    · exact showStands_modRecord _ _ _

theorem attachSame_portState (p : Port) (name : List Byte) (s : State) :
    (attachSame p name s).state.portState p = s.portState p := by
  unfold attachSame taken
  dsimp only
  split
  · rfl
  · rw [(offers_postPort _ _ _).portState, modRecord_portState]; rfl

/-- What an identity change reaches before the port's record. -/
theorem offers_departed (p : Port) (s : State) :
    Offers [13, 15, 18] s (resetRecords p (departConsent p (removeClaim p .departed s))) :=
  (((offers_removeClaim _ _ _).mono rfl).andThen (offers_departConsent _ _) rfl).trans ((agree_resetRecords _ _).offers rfl)

theorem changeIdentity_portState (p : Port) (serial : Nat) (name : List Byte) (s : State) :
    (changeIdentity p serial name s).state.portState p = s.portState p := by
  unfold changeIdentity taken
  dsimp only
  rw [(offers_postPort _ _ _).portState, modRecord_portState]
  exact (offers_departed p s).portState p

theorem serveAttach_attendance (p : Port) (m : Message) (s : State) : Attendance p s (serveAttach p m s).state := by
  unfold serveAttach
  dsimp only
  split
  · exact .of_state rfl
  · split
    · next linked => exact attachLinked_attendance _ _ linked
    · split
      · exact .of_state (attachSame_portState _ _ _)
      · exact .of_state (changeIdentity_portState _ _ _ _)

theorem serveDetach_attendance (p : Port) (m : Message) (s : State) : Attendance p s (serveDetach p m s).state := by
  unfold serveDetach taken
  dsimp only
  split
  · next isolated =>
    have vacant : (enterVacant p .detached s).portState p = .vacant := by rw [State.portState, enterVacant_port]; rfl
    exact ⟨fun was => absurd (isolated.symm.trans was) (by decide), fun _ now => absurd (vacant.symm.trans now) (by decide)⟩
  · refine ⟨fun _ _ => .moved s, fun _ now => ?_⟩
    rw [(offers_postPort _ _ _).portState, (offers_leaveAttached _ _).portState, modRecord_portState] at now
    cases now

/-! ### Lanes (R26 to R28) -/

theorem PortRecord.follow_attached {was now : Bool} {r : PortRecord} (h : (r.follow was now).state = .attached) :
    r.state = .attached ∨ was = false ∧ now = true ∧ r.state = .isolated := by
  unfold PortRecord.follow at h
  split at h
  · exact .inl h
  · next differ =>
    split at h
    case h_2 isolated => exact .inr ⟨Bool.eq_false_iff.2 differ, rfl, isolated⟩
    case h_5 => exact .inl h
    all_goals cases h

theorem PortRecord.follow_from_attached {was now : Bool} {r : PortRecord} (hr : r.state = .attached)
    (h : (r.follow was now).state ≠ .attached) : was = true ∧ now = false := by
  by_cases same : was = now
  · rw [same, PortRecord.follow_same] at h
    exact absurd hr h
  · cases now with
    | false => exact ⟨by simpa using same, rfl⟩
    | true => simp [PortRecord.follow, same, hr] at h

/-- A port whose controller follows its lanes leaves ATTACHED only for ISOLATED, and returns only from there. -/
theorem lanesChanged_attendance (p : Port) (was : Bool) (s : State) : Attendance p s (lanesChanged p was s) := by
  have state : (lanesChanged p was s).portState p = ((s.port p).record.follow was (s.port p).lanes.anyUp).state :=
    congrArg PortRecord.state (lanesChanged_record p was s)
  refine ⟨fun attached gone => ?_, fun away back => ?_⟩
  · obtain ⟨rfl, down⟩ := PortRecord.follow_from_attached attached (state ▸ gone)
    rw [lanesChanged_isolate down attached]
    exact .moved s
  · obtain attached | ⟨rfl, up, isolated⟩ := PortRecord.follow_attached (state.symm.trans back)
    · exact absurd attached away
    · rw [lanesChanged_rejoin up isolated]
      exact (outputsReturned_hasReturned p _).within (showStands_modRecord _ _ _) (showStands_postPort p .rejoined _)
        fun _ hr => stillHeard_postPort hr p .rejoined _

theorem LaneTold.attendance {p : Port} {s t : State} (h : LaneTold p s t) : Attendance p s t := by
  cases h with
  | stood record _ => exact .of_state (congrArg PortRecord.state record)
  | @told v moved =>
    have before : ShowStands s v := moved.agree.showStands rfl rfl rfl
    obtain ⟨left, returned⟩ := lanesChanged_attendance p (s.port p).lanes.anyUp v
    rw [moved.portState] at left returned
    exact ⟨fun was now => (left was now).within before ⟨rfl, rfl, rfl⟩ fun _ _ => .refl _,
      fun was now => (returned was now).within before ⟨rfl, rfl, rfl⟩ fun _ _ => .refl _⟩

/-- Every command that can move a port to ATTACHED or from it (O27). -/
theorem exec_attendance {p : Port} {n : LaneName} {c : Instr} {s t : State} (hc : c ∈ .attach p :: .detach p :: laneCommands p n)
    (h : exec c s = .next t) : Attendance p s t := by
  obtain rfl | hc := List.mem_cons.1 hc
  · injection h with e
    exact e ▸ .serve fun m => serveAttach_attendance p m s
  · obtain rfl | hc := List.mem_cons.1 hc
    · injection h with e
      exact e ▸ .serve fun m => serveDetach_attendance p m s
    · exact (laneCommands_told hc h).attendance

/-- Settles O27, from what has left and what has returned, output by output. -/
theorem leavingAndReturningAreFelt : Obligations.LeavingAndReturningAreFelt := by
  intro p n c s t hc h
  obtain ⟨left, returned⟩ := exec_attendance hc h
  refine ⟨fun was now => ?_, fun was now o => ⟨fun src hsrc hp hn => ?_, fun other => ?_⟩⟩
  · have gone := left was now
    refine ⟨gone.claims, fun pr hpr => ⟨gone.own pr hpr, gone.vote pr hpr⟩, fun o src hn hsrc hp => ?_⟩
    have sourced := sourcedBy_iff.2 ⟨src, hsrc, hp⟩
    obtain ⟨r, e⟩ := gone.outputs o hn sourced
    have told := gone.told o hn sourced
    have stream : (s.output o).toWait.stream = .ret src := by simp [Output.stream, Output.toWait, hsrc]
    have delayed := toWait_remainingMs (s.output o)
    rw [e]
    by_cases h0 : (s.output o).fallbackDelay = 0
    · rw [Output.left, if_pos h0] at told ⊢
      rw [Output.leftReason, if_pos h0] at told
      exact ⟨hsrc, fun h => absurd h0 h, fun _ => ⟨rfl, rfl, by rw [← stream]; rfl, hsrc ▸ told⟩⟩
    · rw [Output.left, if_neg h0] at told ⊢
      rw [Output.leftReason, if_neg h0, Output.report, delayed] at told
      exact ⟨hsrc, fun _ => ⟨rfl, rfl, rfl, hsrc ▸ told⟩, fun h => absurd h h0⟩
  · have back := returned was now
    have sourced := sourcedBy_iff.2 ⟨src, hsrc, hp⟩
    have told := back.told o hn sourced
    have stream : ({ s.output o with state := .normal, timer := none } : Output).stream = .ret src := by
      simp [Output.stream, hsrc]
    rw [back.outputs o hn sourced]
    have fades : (s.output o).returned.crossfade = fadeTo (s.output o).crossfade (s.output o).stream (.ret src) := by
      rw [← stream]; rfl
    refine ⟨rfl, rfl, hsrc, fun waiting => ?_, fades, hsrc ▸ told⟩
    have carried : (s.output o).stream = .ret src := by simp [Output.stream, waiting, hsrc]
    rw [fades, carried]
    exact if_pos rfl
  · refine (returned was now).others o ?_
    rw [Bool.eq_false_iff]
    intro sourced
    obtain ⟨src, hsrc, hp⟩ := sourcedBy_iff.1 sourced
    exact other src hsrc hp

end Sys2Proof.Machine
end

section
/-! PROOF. ATTACH and DETACH: settles O30 and O29. -/

namespace Sys2Proof.Machine

/-! ### DETACH (R33) -/

/-- Settles O30, by the port state that DETACH finds. -/
theorem detachEndsTheAttachment : Obligations.DetachEndsTheAttachment := by
  intro p m s ha
  have served := exec_served ha (show exec (.detach p) s = .next (whenRunning (serve p kindDetach (serveDetach p)) s) from rfl)
  refine ⟨_, served, fun attached => ?_, fun isolated => ?_, ?_⟩
  · have leaves : (serveDetach p m s).state = postPort p .detached (leaveAttached p
        (modRecord p (fun r => { r with state := .linked, serial := none, name := [] }) s)) :=
      if_neg (by rw [attached]; decide)
    have offered : Offers [1, 11, 13, 15, 18]
        (modRecord p (fun r => { r with state := .linked, serial := none, name := [] }) s) (serveDetach p m s).state := by
      rw [leaves]
      exact ((offers_leaveAttached _ _).mono rfl).andThen (offers_postPort _ _ _) rfl
    refine ⟨by rw [offered.record, modRecord_port, if_pos rfl], ?_⟩
    obtain ⟨rs, -, e⟩ := offered p
    rw [e, Control.foldl_offer_requests, modRecord_port_control]
  · have leaves : (serveDetach p m s).state = enterVacant p .detached s := if_pos isolated
    rw [leaves, enterVacant_port]
    exact ⟨rfl, rfl⟩
  · unfold serveDetach taken
    dsimp only
    split
    · exact posted_enterVacant p .detached s
    · exact posted_postPort p .detached _

/-! ### Reset records (R93) -/

theorem resetRecords_desk (p : Port) (c : Chan) (s : State) :
    (resetRecords p s).desk p c = (s.desk p c).cleared (s.channel c).net := by
  simp only [State.desk, resetRecords, Bank.get_modify_same, Bank.get_eachIdx]

/-- The ramp of a record has no part in its other fields, and goes to its target (R88, R89). -/
theorem rampTo_eq (k : Nat) (r : DeskRecord) :
    r.rampTo k = { r with ramp := (r.rampTo k).ramp, stepNext := (r.rampTo k).stepNext } ∧ (r.rampTo k).goal = k := by
  unfold DeskRecord.rampTo
  split
  · next h => exact ⟨rfl, h⟩
  · exact ⟨rfl, rfl⟩

/-- A record that holds what a reset gives it (R79, R93). -/
def DeskRecord.IsReset (net : Option Int) (r : DeskRecord) : Prop :=
  r.trim = 0 ∧ r.mode = .track ∧ r.anchor = net ∧ r.comp = 0 ∧ r.limited = false ∧ r.limitArmed = true ∧
    r.clipArmed = true ∧ r.peak = 0 ∧ r.goal = 65536

theorem cleared_isReset (net : Option Int) (r : DeskRecord) : (r.cleared net).IsReset net := by
  obtain ⟨fields, goal⟩ := rampTo_eq Config.unity
    { r with trim := 0, mode := .track, anchor := net, wanted := 0, comp := 0, limited := false, limitArmed := true,
             clipArmed := true, peak := 0 }
  refine ⟨?_, ?_, ?_, ?_, ?_, ?_, ?_, ?_, goal⟩ <;> rw [DeskRecord.cleared, fields]

theorem resetRecords_isReset (p : Port) (c : Chan) (s : State) :
    ((resetRecords p s).desk p c).IsReset (s.channel c).net := resetRecords_desk p c s ▸ cleared_isReset _ _

/-! ### ATTACH (R31, R32) -/

/-- What ATTACH with a serial and a name does from s to u, for a desk that is new to the port or not (R31, R32, R157). -/
structure DeskRecorded (p : Port) (serial : Nat) (name : List Byte) (fresh : Bool) (s u : State) : Prop where
  record : (u.port p).record =
    { (s.port p).record with
      state := if s.portState p = .linked then .attached else s.portState p, serial := some serial, name := name,
      lastSerial := if s.portState p = .linked ∨ fresh = true then some serial else (s.port p).record.lastSerial }
  kept : fresh = false → ∀ c, u.desk p c = s.desk p c
  reset : fresh = true → ∀ c, (u.desk p c).IsReset (s.channel c).net
  claims : s.portState p ≠ .linked → fresh = true → ∀ x ∈ u.talk.claims, x.port ≠ p
  own : s.portState p ≠ .linked → fresh = true → ∀ pr, s.consent.proposal = some pr → pr.proposer = p →
    u.consent = { s.consent with
      proposal := none,
      lastOutcome := some { number := pr.number, action := pr.action, proposer := p, ending := .withdrawn } } ∧
    Posted (.consentEnded pr.number pr.action p .withdrawn none (some .departure)) u
  vote : s.portState p ≠ .linked → fresh = true → ∀ pr, s.consent.proposal = some pr → pr.proposer ≠ p →
    u.consent = { s.consent with proposal := some { pr with voters := pr.voters.put p false } }
  consent : s.portState p = .linked ∨ fresh = false ∨ s.consent.proposal = none → u.consent = s.consent
  attached : s.portState p = .linked → Posted (portReport p .attached u) u
  changed : s.portState p ≠ .linked → fresh = true → Posted (portReport p .identityChanged u) u

section
variable {p : Port} {s : State} (serial : Nat) (name : List Byte)

/-! #### In LINKED -/

/-- ATTACH in LINKED up to the desk records: the port's record, and the reset for a new serial (R31). -/
def attachedLinked (p : Port) (serial : Nat) (name : List Byte) (s : State) : State :=
  let t := modRecord p (fun r =>
    { r with state := .attached, serial := some serial, name := name, lastSerial := some serial }) s
  if (s.port p).record.lastSerial ≠ some serial then resetRecords p t else t

/-- ATTACH in LINKED ends with the return of the outputs and PORT STATE (R31, R35). -/
theorem attachLinked_state :
    (attachLinked p serial name s).state = postPort p .attached (outputsReturned p (attachedLinked p serial name s)) := by
  unfold attachLinked attachedLinked taken
  dsimp only

/-- The answer of ATTACH in LINKED says whether the serial is another than the last one (R31). -/
theorem attachLinked_answer : attachLinked p serial name s =
    taken .done (flagByte (decide ((s.port p).record.lastSerial ≠ some serial))) (attachLinked p serial name s).state := by
  unfold attachLinked taken
  dsimp only

theorem attachLinked_record : ((attachLinked p serial name s).state.port p).record =
    { (s.port p).record with state := .attached, serial := some serial, name := name, lastSerial := some serial } := by
  rw [attachLinked_state, (offers_postPort _ _ _).record, (offers_outputsReturned _ _).record, attachedLinked]
  dsimp only
  split
  · rw [((agree_resetRecords p _).offers (ks := []) rfl).record, modRecord_port, if_pos rfl]
  · rw [modRecord_port, if_pos rfl]

/-- What comes after the desk records leaves them and the consent unit. -/
theorem attachLinked_later :
    Agree [.ports, .outputs] (attachedLinked p serial name s) (attachLinked p serial name s).state := by
  rw [attachLinked_state]
  exact (agree_outputsReturned p _).andThen (agree_postPort p .attached _)

theorem attachLinked_desk (c : Chan) :
    (attachLinked p serial name s).state.desk p c = (attachedLinked p serial name s).desk p c :=
  congrArg (fun b : Bank 3 (Bank 64 DeskRecord) => (b.get p).get c) (attachLinked_later serial name .desks (by decide))

theorem attachedLinked_kept (h : (s.port p).record.lastSerial = some serial) (c : Chan) :
    (attachedLinked p serial name s).desk p c = s.desk p c := by
  rw [attachedLinked, if_neg (not_not.2 h)]; rfl

theorem attachedLinked_reset (h : (s.port p).record.lastSerial ≠ some serial) (c : Chan) :
    ((attachedLinked p serial name s).desk p c).IsReset (s.channel c).net := by
  rw [attachedLinked, if_pos h]
  exact resetRecords_isReset p c _

theorem attachLinked_consent : (attachLinked p serial name s).state.consent = s.consent := by
  refine (attachLinked_later serial name .consent (by decide)).trans ?_
  unfold attachedLinked
  dsimp only
  split <;> rfl

theorem attachLinked_recorded (linked : s.portState p = .linked) :
    DeskRecorded p serial name (decide ((s.port p).record.lastSerial ≠ some serial)) s (attachLinked p serial name s).state where
  record := by rw [attachLinked_record, if_pos linked, if_pos (.inl linked)]
  kept same c := by
    rw [attachLinked_desk, attachedLinked_kept serial name (by simpa using same)]
  reset new c := by
    rw [attachLinked_desk]
    exact attachedLinked_reset serial name (of_decide_eq_true new) c
  claims away := absurd linked away
  own away := absurd linked away
  vote away := absurd linked away
  consent _ := attachLinked_consent serial name
  attached _ := posted_postPort p .attached _
  changed away := absurd linked away

/-! #### With the serial recorded -/

theorem attachSame_record (hs : (s.port p).record.serial = some serial) :
    ((attachSame p name s).state.port p).record = { (s.port p).record with serial := some serial, name := name } := by
  unfold attachSame taken
  dsimp only
  rw [← hs]
  split
  · next same => rw [← same]
  · rw [(offers_postPort _ _ _).record, modRecord_port, if_pos rfl]

/-- The same desk again moves nothing but its port's record and the reports. -/
theorem agree_attachSame : Agree [.ports] s (attachSame p name s).state := by
  unfold attachSame taken
  exact Agree.ite (.refl s) ((agree_modRecord _ _ _).trans (agree_postPort _ _ _))

theorem attachSame_recorded (away : s.portState p ≠ .linked) (hs : (s.port p).record.serial = some serial) :
    DeskRecorded p serial name false s (attachSame p name s).state where
  record := by
    rw [attachSame_record serial name hs, if_neg away, if_neg (by simp [away])]
    rfl
  kept _ c := congrArg (fun b : Bank 3 (Bank 64 DeskRecord) => (b.get p).get c) (agree_attachSame name .desks (by decide))
  reset h := by cases h
  claims _ h := by cases h
  own _ h := by cases h
  vote _ h := by cases h
  consent _ := agree_attachSame name .consent (by decide)
  attached linked := absurd linked away
  changed _ h := by cases h

/-! #### With another serial -/

/-- An identity change ends with the record of the new desk and PORT STATE (R32). -/
theorem changeIdentity_state :
    (changeIdentity p serial name s).state = postPort p .identityChanged
      (modRecord p (fun r => { r with serial := some serial, name := name, lastSerial := some serial })
        (resetRecords p (departConsent p (removeClaim p .departed s)))) := rfl

theorem changeIdentity_record : ((changeIdentity p serial name s).state.port p).record =
    { (s.port p).record with serial := some serial, name := name, lastSerial := some serial } := by
  rw [changeIdentity_state, (offers_postPort _ _ _).record, modRecord_port, if_pos rfl]
  dsimp only
  rw [(offers_departed p s).record]

theorem changeIdentity_isReset (c : Chan) : ((changeIdentity p serial name s).state.desk p c).IsReset (s.channel c).net := by
  have before : Agree touchedByLanes s (departConsent p (removeClaim p .departed s)) :=
    (agree_removeClaim _ _ _).mono.andThen (agree_departConsent _ _)
  have net : (departConsent p (removeClaim p .departed s)).channel c = s.channel c :=
    congrArg (Bank.get · c) (before .channels (by decide))
  exact net ▸ resetRecords_isReset p c (departConsent p (removeClaim p .departed s))

/-- What comes after the departure of the old desk leaves talk and the consent unit. -/
theorem changeIdentity_later :
    Agree [.ports, .desks] (departConsent p (removeClaim p .departed s)) (changeIdentity p serial name s).state := by
  rw [changeIdentity_state]
  exact ((agree_resetRecords p _).mono.andThen (agree_modRecord _ _ _)).andThen (agree_postPort _ _ _)

theorem changeIdentity_claims : ∀ x ∈ (changeIdentity p serial name s).state.talk.claims, x.port ≠ p := by
  rw [changeIdentity_later serial name .talk (by decide), agree_departConsent p _ .talk (by decide)]
  exact removeClaim_claims p .departed s

/-- The consent unit after an identity change is that after the departure of the port alone (R157). -/
theorem changeIdentity_consent :
    (changeIdentity p serial name s).state.consent = (departConsent p (removeClaim p .departed s)).consent :=
  changeIdentity_later serial name .consent (by decide)

theorem removeClaim_consent (why : TalkReason) : (removeClaim p why s).consent = s.consent :=
  agree_removeClaim p why s .consent (by decide)

theorem changeIdentity_own {pr : Proposal} (h : s.consent.proposal = some pr) (hp : pr.proposer = p) :
    (changeIdentity p serial name s).state.consent = { s.consent with
      proposal := none,
      lastOutcome := some { number := pr.number, action := pr.action, proposer := p, ending := .withdrawn } } ∧
    Posted (.consentEnded pr.number pr.action p .withdrawn none (some .departure)) (changeIdentity p serial name s).state := by
  have pending : (removeClaim p .departed s).consent.proposal = some pr := by rw [removeClaim_consent]; exact h
  have withdrawn := posted_withdrawProposal pr .departure (removeClaim p .departed s)
  rw [← departConsent_own pending hp, hp] at withdrawn
  refine ⟨?_, ?_⟩
  · rw [changeIdentity_consent, departConsent_own pending hp, withdrawProposal_consent, removeClaim_consent, hp]
  · rw [changeIdentity_state]
    have reset := withdrawn.offers ((agree_resetRecords p _).offers (ks := []) rfl) List.not_mem_nil
    have record := reset.still (stillHeard_modPort p (f := fun u => { u with record := { u.record with
      serial := some serial, name := name, lastSerial := some serial } }) (fun present => present) rfl)
    exact record.offers (offers_postPort p .identityChanged _) (by simp [Report.key])

theorem changeIdentity_other {pr : Proposal} (h : s.consent.proposal = some pr) (hp : pr.proposer ≠ p) :
    (changeIdentity p serial name s).state.consent =
      { s.consent with proposal := some { pr with voters := pr.voters.put p false } } := by
  have pending : (removeClaim p .departed s).consent.proposal = some pr := by rw [removeClaim_consent]; exact h
  rw [changeIdentity_consent, departConsent_other pending hp, modConsent_consent, removeClaim_consent]

theorem changeIdentity_none (h : s.consent.proposal = none) : (changeIdentity p serial name s).state.consent = s.consent := by
  rw [changeIdentity_consent, departConsent_none (by rw [removeClaim_consent]; exact h), removeClaim_consent]

theorem changeIdentity_recorded (away : s.portState p ≠ .linked) :
    DeskRecorded p serial name true s (changeIdentity p serial name s).state where
  record := by rw [changeIdentity_record, if_neg away, if_pos (.inr rfl)]; rfl
  kept h := by cases h
  reset _ := changeIdentity_isReset serial name
  claims _ _ := changeIdentity_claims serial name
  own _ _ _ := changeIdentity_own serial name
  vote _ _ _ := changeIdentity_other serial name
  consent h := changeIdentity_none serial name ((h.resolve_left away).resolve_left (by decide))
  attached linked := absurd linked away
  changed _ _ := posted_postPort p .identityChanged _

end

/-- The answer of ATTACH says whether the desk is a new one (R31, R32). -/
theorem flagByte_ite (b : Bool) : flagByte b = [if b then 1 else 0] := by cases b <;> rfl

/-- ATTACH with a serial and a name in range is done, and its answer says whether the desk is new to the port (R31, R32). -/
theorem serveAttach_recorded {p : Port} {m : Message} {s : State} (serial : u32 m.body 0 ≠ 0) (short : u8 m.body 4 ≤ 16) :
    ∃ fresh u, serveAttach p m s = taken .done [if fresh then 1 else 0] u ∧
      (fresh = true ↔ if s.portState p = .linked then (s.port p).record.lastSerial ≠ some (u32 m.body 0)
        else (s.port p).record.serial ≠ some (u32 m.body 0)) ∧
      DeskRecorded p (u32 m.body 0) (m.body.drop 5) fresh s u := by
  have good : ¬ (u32 m.body 0 = 0 ∨ 16 < u8 m.body 4) := by omega
  simp only [serveAttach, if_neg good]
  split
  · next linked =>
    have answer := attachLinked_answer (p := p) (s := s) (u32 m.body 0) (m.body.drop 5)
    rw [flagByte_ite] at answer
    exact ⟨_, _, answer, decide_eq_true_iff, attachLinked_recorded _ _ linked⟩
  · next away =>
    split
    · next same => exact ⟨false, _, rfl, by simp [same], attachSame_recorded _ _ away same⟩
    · next other => exact ⟨true, _, rfl, by simp [other], changeIdentity_recorded _ _ away⟩

/-- Settles O29, by the port state and the serials that ATTACH finds. -/
theorem attachRecordsTheDesk : Obligations.AttachRecordsTheDesk := by
  intro p m s ha
  have run : exec (.attach p) s = .next (whenRunning (serve p kindAttach (serveAttach p)) s) := rfl
  refine ⟨fun bad => exec_refused ha run (if_pos bad), fun serial short => ?_⟩
  obtain ⟨fresh, u, owner, new, recorded⟩ := serveAttach_recorded (p := p) (s := s) serial short
  have served := exec_served ha run
  rw [owner] at served
  have state : u.portState p = if s.portState p = .linked then .attached else s.portState p :=
    congrArg PortRecord.state recorded.record
  refine ⟨u, fresh, served, new, ?_, ?_, ?_, state, fun h => ?_, recorded.kept, recorded.reset, recorded.claims,
    fun away h pr pending => ⟨recorded.own away h pr pending, recorded.vote away h pr pending⟩, recorded.consent,
    recorded.attached, recorded.changed⟩ <;> rw [recorded.record]
  exact if_pos h

end Sys2Proof.Machine
end

section
/-! PROOF. The report queue and the outbound arbiter: settles O33 and O34. -/

namespace Sys2Proof.Machine

/-! ### What an offer makes of the report queue (R52, R53) -/

/-- A report of a kind and subject that waits replaces in place. -/
theorem Control.offer_replacing {k : Control} {r : Report} (h : ∃ q ∈ k.reports, q.key = r.key) :
    k.offer r = { k with reports := k.reports.map fun q => if q.key = r.key then q.replacing r else q } := by
  obtain ⟨q, hq, hk⟩ := h
  exact if_pos (List.any_eq_true.2 ⟨q, hq, decide_eq_true hk⟩)

/-- A report of a kind and subject that does not wait joins the tail, or is lost. -/
theorem Control.offer_joining {k : Control} {r : Report} (h : ∀ x ∈ k.reports, x.key ≠ r.key) :
    k.offer r = if k.reports.length < 32 then { k with reports := k.reports ++ [r] } else { k with lost := true } := by
  refine if_neg fun ha => ?_
  obtain ⟨x, hx, hk⟩ := List.any_eq_true.1 ha
  exact h x hx (of_decide_eq_true hk)

/-- Where one report of the kind and subject waits, it alone is replaced. -/
theorem map_replacing_eq {l l' : List Report} {q r : Report} (hq : q.key = r.key) (h : ∀ x ∈ l ++ l', x.key ≠ r.key) :
    (l ++ q :: l').map (fun x => if x.key = r.key then x.replacing r else x) = l ++ q.replacing r :: l' := by
  have stands {m : List Report} (hm : ∀ x ∈ m, x.key ≠ r.key) :
      m.map (fun x => if x.key = r.key then x.replacing r else x) = m :=
    (List.map_congr_left fun x hx => if_neg (hm x hx)).trans (List.map_id m)
  rw [List.map_append, List.map_cons, if_pos hq, stands fun x hx => h x (List.mem_append_left _ hx),
    stands fun x hx => h x (List.mem_append_right _ hx)]

/-- Settles O33, by whether a report of the kind and subject waits. -/
theorem reportsCoalesce : Obligations.ReportsCoalesce := by
  intro k r
  refine ⟨fun l l' q hk hq h => ?_, fun h short => ?_, fun h full => ?_, fun _ _ _ _ _ => rfl, fun _ _ _ _ _ => rfl,
    fun hd hl q => ?_⟩
  · rw [Control.offer_replacing ⟨q, by simp [hk], hq⟩, hk, map_replacing_eq hq h]
    exact ⟨rfl, rfl⟩
  · rw [Control.offer_joining h, if_pos short]
  · rw [Control.offer_joining h, if_neg (by omega)]
  · unfold Report.replacing
    split
    · exact absurd rfl (hd _ _ _)
    · exact absurd rfl (hl _ _ _)
    · rfl

/-! ### The outbound arbiter (R49) -/

section
variable {k : Control} {deskHold : Bool}

theorem Control.nextByte_outbound {b : Byte} {rest : List Byte} (h : k.outbound = b :: rest) :
    k.nextByte deskHold = some ({ byte := b, start := false }, { k with outbound := rest }) := by
  simp only [Control.nextByte, h]

theorem Control.nextByte_held (h : k.outbound = []) : k.nextByte true = none := by
  simp only [Control.nextByte, h, if_true]

theorem Control.nextByte_reply {r : Reply} {rs : List Reply} (h : k.outbound = []) (hr : k.replies = r :: rs) :
    k.nextByte false = some ({ byte := r.bytes.headD 0, start := true }, { k with outbound := r.bytes.tail, replies := rs }) := by
  simp [Control.nextByte, h, hr]

theorem Control.nextByte_report {r : Report} {rs : List Report} (h : k.outbound = []) (hr : k.replies = [])
    (hs : k.reports = r :: rs) :
    k.nextByte false = some ({ byte := (r.bytes k.lost).headD 0, start := true },
      { k with outbound := (r.bytes k.lost).tail, reports := rs, lost := false }) := by
  simp [Control.nextByte, h, hr, hs]

theorem Control.nextByte_empty (h : k.outbound = []) (hr : k.replies = []) (hs : k.reports = []) :
    k.nextByte deskHold = none := by
  cases deskHold
  · simp [Control.nextByte, h, hr, hs]
  · exact Control.nextByte_held h

/-- What the arbiter can do for one place of a control field: nothing, one more byte of the message in progress, the first of
the oldest reply, or the first of the oldest report. -/
theorem Control.nextByte_cases (deskHold : Bool) (k : Control) :
    k.nextByte deskHold = none ∨ ∃ b k', k.nextByte deskHold = some (b, k') ∧
      ((∃ bytes, k' = { k with outbound := bytes }) ∨
        (∃ r rs bytes, k.replies = r :: rs ∧ k' = { k with outbound := bytes, replies := rs }) ∨
        ∃ r rs bytes, k.reports = r :: rs ∧ k' = { k with outbound := bytes, reports := rs, lost := false }) := by
  cases h : k.outbound with
  | cons b rest => exact .inr ⟨_, _, Control.nextByte_outbound h, .inl ⟨_, rfl⟩⟩
  | nil =>
    cases deskHold with
    | true => exact .inl (Control.nextByte_held h)
    | false =>
      cases hr : k.replies with
      | cons r rs => exact .inr ⟨_, _, Control.nextByte_reply h hr, .inr (.inl ⟨r, rs, _, rfl, rfl⟩)⟩
      | nil =>
        cases hs : k.reports with
        | cons r rs => exact .inr ⟨_, _, Control.nextByte_report h hr hs, .inr (.inr ⟨r, rs, (r.bytes k.lost).tail, rfl, by rw [hr]⟩)⟩
        | nil => exact .inl (Control.nextByte_empty h hr hs)

theorem Control.fill_none {n : Nat} (h : k.nextByte deskHold = none) : Control.fill deskHold (n + 1) k = ([], k) := by
  simp only [Control.fill, h]

theorem Control.fill_some {n : Nat} {b : ControlByte} {k' : Control} (h : k.nextByte deskHold = some (b, k')) :
    Control.fill deskHold (n + 1) k =
      (b :: (Control.fill deskHold n k').1, (Control.fill deskHold n k').2) := by
  simp only [Control.fill, h]

end

/-- Settles O34, by what waits at the control channel. -/
theorem arbiterSendsRepliesFirst : Obligations.ArbiterSendsRepliesFirst :=
  fun k deskHold n =>
    ⟨fun _ _ => Control.nextByte_outbound, Control.nextByte_held, fun _ _ => Control.nextByte_reply,
      fun _ _ => Control.nextByte_report, Control.nextByte_empty, rfl, Control.fill_none,
      fun _ => Control.fill_some, Control.fill_length deskHold n k⟩

end Sys2Proof.Machine
end

section
/-! PROOF. What the shared operations leave of each port's unit, part by part, and how they keep the law of the control channels:
the layer under O3 and O12. -/

namespace Sys2Proof.Machine

/-! ### The law of a control channel (R43, R48, R52, R53) -/

/-- A change of a control channel that keeps its law and brings no reply. -/
structure Control.Keeps (k k' : Control) : Prop where
  lawful : k.lawful → k'.lawful
  replies : k'.replies.length ≤ k.replies.length

theorem Control.Keeps.refl (k : Control) : k.Keeps k := ⟨id, le_rfl⟩

theorem Control.Keeps.trans {k k' l : Control} (h : k.Keeps k') (g : k'.Keeps l) : k.Keeps l :=
  ⟨g.lawful ∘ h.lawful, g.replies.trans h.replies⟩

/-- The law speaks of the request queue, HOLD, the replies and the reports alone. -/
theorem Control.keeps_of_queues {k k' : Control} (hr : k'.requests = k.requests) (hh : k'.hold = k.hold)
    (hp : k'.replies = k.replies) (hs : k'.reports = k.reports) : k.Keeps k' :=
  ⟨fun h => by simpa only [Control.lawful, hr, hh, hp, hs] using h, by rw [hp]⟩

/-- What replaces a report is of its kind and subject. -/
theorem Report.replacing_key (q r : Report) : (q.replacing r).key = r.key := by
  unfold Report.replacing
  split <;> rfl

theorem Control.offer_keys_nodup {k : Control} {r : Report} (hl : k.reports.length ≤ 32) (hn : (k.reports.map Report.key).Nodup) :
    (k.offer r).reports.length ≤ 32 ∧ ((k.offer r).reports.map Report.key).Nodup := by
  by_cases h : ∃ q ∈ k.reports, q.key = r.key
  · have keys : Report.key ∘ (fun q => if q.key = r.key then q.replacing r else q) = Report.key := by
      funext q
      dsimp only [Function.comp_apply]
      split
      · next e => rw [Report.replacing_key, e]
      · rfl
    rw [Control.offer_replacing h, List.map_map, keys, List.length_map]
    exact ⟨hl, hn⟩
  · rw [Control.offer_joining (by simpa using h)]
    split
    · next short =>
      refine ⟨by simpa using short, ?_⟩
      rw [List.map_append, List.map_singleton]
      exact List.nodup_append.2 ⟨hn, List.nodup_singleton _, by simpa using h⟩
    · exact ⟨hl, hn⟩

theorem Control.keeps_offer (k : Control) (r : Report) : k.Keeps (k.offer r) := by
  rw [Control.offer_eq]
  exact ⟨fun ⟨hq, h6, hh, hp, hl, hn⟩ => ⟨hq, h6, hh, hp, Control.offer_keys_nodup hl hn⟩, le_rfl⟩

theorem Control.keeps_foldl_offer (rs : List Report) (k : Control) : k.Keeps (rs.foldl Control.offer k) := by
  induction rs generalizing k with
  | nil => exact .refl k
  | cons r rs ih => exact (k.keeps_offer r).trans (ih _)

theorem Control.lawful_reset : Control.reset.lawful := by
  simp [Control.lawful, Control.reset]

theorem Control.keeps_vacated (k : Control) : k.Keeps k.vacated := ⟨fun _ => Control.lawful_reset, Nat.zero_le _⟩

theorem Control.keeps_emptyReports (k : Control) : k.Keeps k.emptyReports :=
  ⟨fun ⟨hq, h6, hh, hp, _⟩ => ⟨hq, h6, hh, hp, by simp [Control.emptyReports]⟩, le_rfl⟩

/-- A request that finds a place joins the queue, and HOLD is set with the sixth (R42, R43). -/
theorem Control.keeps_join {k : Control} (m : Message) (h : k.requests.length < 8) :
    k.Keeps { k with requests := k.requests ++ [m], hold := k.hold || decide (6 ≤ (k.requests ++ [m]).length) } := by
  refine ⟨fun ⟨_, _, _, hp, hl, hn⟩ => ⟨?_, fun h6 => ?_, fun _ => by simp, hp, hl, hn⟩, le_rfl⟩
  · simpa using h
  · show (k.hold || decide _) = true
    rw [decide_eq_true h6, Bool.or_true]

/-- The arbiter sends what has waited longest, and brings nothing (R49). -/
theorem Control.keeps_nextByte {deskHold : Bool} {k k' : Control} {b : ControlByte}
    (h : k.nextByte deskHold = some (b, k')) : k.Keeps k' := by
  obtain e | ⟨_, _, e, moved⟩ := Control.nextByte_cases deskHold k
  · rw [e] at h; cases h
  · obtain ⟨rfl, rfl⟩ := Prod.mk.inj (Option.some.inj (e.symm.trans h))
    obtain ⟨_, rfl⟩ | ⟨r, rs, _, hr, rfl⟩ | ⟨r, rs, _, hs, rfl⟩ := moved
    · exact Control.keeps_of_queues rfl rfl rfl rfl
    · refine ⟨fun ⟨hq, h6, hh, hp, hl, hn⟩ => ⟨hq, h6, hh, ?_, hl, hn⟩, ?_⟩
      all_goals rw [hr, List.length_cons] at *; dsimp only; omega
    · refine ⟨fun ⟨hq, h6, hh, hp, hl, hn⟩ => ⟨hq, h6, hh, hp, ?_, ?_⟩, le_rfl⟩
      · rw [hs, List.length_cons] at hl; dsimp only; omega
      · rw [hs, List.map_cons] at hn; exact (List.nodup_cons.1 hn).2

/-- A control field takes replies, reports and the message in progress; it leaves the assembly and the requests. -/
theorem Control.fill_eq (deskHold : Bool) (n : Nat) (k : Control) :
    (Control.fill deskHold n k).2 = { k with
      replies := (Control.fill deskHold n k).2.replies, reports := (Control.fill deskHold n k).2.reports,
      lost := (Control.fill deskHold n k).2.lost, outbound := (Control.fill deskHold n k).2.outbound } := by
  induction n generalizing k with
  | zero => rfl
  | succ n ih =>
    obtain e | ⟨b, k', e, moved⟩ := Control.nextByte_cases deskHold k
    · rw [Control.fill_none e]
    · rw [Control.fill_some e]
      dsimp only
      rw [ih k']
      obtain ⟨_, rfl⟩ | ⟨_, _, _, -, rfl⟩ | ⟨_, _, _, -, rfl⟩ := moved <;> rfl

theorem Control.keeps_fill (deskHold : Bool) (n : Nat) (k : Control) : k.Keeps (Control.fill deskHold n k).2 := by
  induction n generalizing k with
  | zero => exact .refl k
  | succ n ih =>
    cases h : k.nextByte deskHold with
    | none => rw [Control.fill_none h]; exact .refl k
    | some x => rw [Control.fill_some h]; exact (Control.keeps_nextByte h).trans (ih _)

/-- A request served leaves the queue with HOLD cleared by the last, and its reply takes a free place (R43, R47, R48). -/
theorem Control.lawful_answered {k : Control} (r : Reply) (h : k.lawful) (hr : k.replies.length < 8) :
    Control.lawful { k with
      requests := k.requests.drop 1, hold := if k.requests.drop 1 = [] then false else k.hold, replies := k.replies ++ [r] } := by
  obtain ⟨hq, h6, -, -, hl, hn⟩ := h
  refine ⟨?_, fun hs => ?_, fun hh => ?_, by simpa using hr, hl, hn⟩ <;> dsimp only at *
  · rw [List.length_drop]; omega
  · have some : ¬ k.requests.drop 1 = [] := fun e => by simp [e] at hs
    rw [List.length_drop] at hs
    rw [if_neg some]
    exact h6 (by omega)
  · intro e
    rw [if_pos e] at hh
    cases hh

theorem Control.lawful_answeredNow {k : Control} (r : Reply) (h : k.lawful) (hr : k.replies.length < 8) :
    Control.lawful { k with replies := k.replies ++ [r] } := by
  obtain ⟨hq, h6, hh, -, hl, hn⟩ := h
  exact ⟨hq, h6, hh, by simpa using hr, hl, hn⟩

/-! ### The parts of a port's unit -/

theorem PortPart.same_refl (x : PortPart) (u : PortUnit) : x.same u u := by
  cases x <;> first | exact rfl | exact ⟨rfl, rfl⟩

theorem PortPart.same_trans {x : PortPart} {u v w : PortUnit} (h : x.same u v) (g : x.same v w) : x.same u w := by
  cases x
  case requests => exact ⟨Eq.trans g.1 h.1, Eq.trans g.2 h.2⟩
  case reports => exact ⟨Eq.trans g.1 h.1, Eq.trans g.2 h.2⟩
  all_goals exact Eq.trans g h

/-- From s to t port p's unit has changed in no part but `own`, the others' in no part but `others`, and every control channel
has kept its law and got no reply. -/
structure Moves (p : Port) (own others : List PortPart) (s t : State) : Prop where
  stands : ∀ q x, x ∉ (if p = q then own else others) → x.same (s.port q) (t.port q)
  control : ∀ q, (s.port q).control.Keeps (t.port q).control

section
variable {p : Port} {own others : List PortPart} {s t u : State}

theorem Moves.of_ports (h : t.ports = s.ports) : Moves p own others s t := by
  have e (q : Port) : t.port q = s.port q := by simp only [State.port, h]
  exact ⟨fun q x _ => e q ▸ x.same_refl _, fun q => e q ▸ .refl _⟩

theorem Moves.refl (s : State) : Moves p own others s s := .of_ports rfl

/-- An operation outside whose reach the ports lie. -/
theorem Agree.moves {ps : List Part} (h : Agree ps s t) (hp : ps.contains .ports = false) : Moves p own others s t :=
  .of_ports (h .ports (by simpa using hp))

theorem Moves.mono {own' others' : List PortPart} (h : Moves p own others s t) (ho : own ⊆ own' := by decide)
    (hq : others ⊆ others' := by decide) : Moves p own' others' s t := by
  refine ⟨fun q x hx => h.stands q x fun hm => hx ?_, h.control⟩
  split at hm
  · next e => rw [if_pos e]; exact ho hm
  · next e => rw [if_neg e]; exact hq hm

theorem Moves.trans (h : Moves p own others s t) (g : Moves p own others t u) : Moves p own others s u :=
  ⟨fun q x hx => PortPart.same_trans (h.stands q x hx) (g.stands q x hx), fun q => (h.control q).trans (g.control q)⟩

/-- One more operation at the end of a chain. -/
theorem Moves.andThen {own' others' : List PortPart} (h : Moves p own others s t) (g : Moves p own' others' t u)
    (ho : own' ⊆ own := by decide) (hq : others' ⊆ others := by decide) : Moves p own others s u :=
  h.trans (g.mono ho hq)

theorem Moves.ite {c : Prop} [Decidable c] (h : Moves p own others s t) (g : Moves p own others s u) :
    Moves p own others s (if c then t else u) := by split <;> assumption

theorem Moves.forEach {α : Type} {f : α → State → State} (h : ∀ a s, Moves p own others s (f a s)) (l : List α)
    (s : State) : Moves p own others s (Machine.forEach f l s) :=
  forEach_keeps (P := Moves p own others s) (fun a t ht => ht.trans (h a t)) l s (.refl s)

/-- The parts that may change in any port, whichever port an operation was made for. -/
theorem Moves.spread {parts : List PortPart} (h : Moves p own others s t) (q : Port) (ho : own ⊆ parts := by decide)
    (hq : others ⊆ parts := by decide) : Moves q parts parts s t := by
  refine ⟨fun r x hx => h.stands r x fun hm => hx ?_, h.control⟩
  rw [ite_self]
  split at hm
  · exact ho hm
  · exact hq hm

/-- An operation that only offers reports. -/
theorem Offers.moves {ks : List Nat} (h : Offers ks s t) : Moves p [.reports] [.reports] s t := by
  refine ⟨fun q x hx => ?_, fun q => ?_⟩ <;> obtain ⟨rs, -, e⟩ := h q <;> rw [e]
  · rw [Control.foldl_offer_eq]
    rw [ite_self, List.mem_singleton] at hx
    cases x
    case reports => exact absurd rfl hx
    case requests => exact ⟨rfl, rfl⟩
    all_goals exact rfl
  · exact Control.keeps_foldl_offer _ _

/-- Reports offered at the end of a chain. -/
theorem Moves.offers {ks : List Nat} (h : Moves p own others s t) (g : Offers ks t u) :
    Moves p (.reports :: own) (.reports :: others) s u :=
  (h.mono (List.subset_cons_self _ _) (List.subset_cons_self _ _)).andThen (g.moves (p := p)) (by simp) (by simp)

/-- A change of one port's unit. -/
theorem moves_modPort {f : PortUnit → PortUnit} (hs : ∀ x, x ∉ own → x.same (s.port p) (f (s.port p)))
    (hc : (s.port p).control.Keeps (f (s.port p)).control) : Moves p own [] s (modPort p f s) := by
  refine ⟨fun q x hx => ?_, fun q => ?_⟩ <;> rw [modPort_port] <;> split
  · next e => subst e; rw [if_pos rfl] at hx; exact hs x hx
  · exact x.same_refl _
  · next e => subst e; exact hc
  · exact .refl _

/-- An operation that reaches one port alone. -/
theorem Moves.only (h : Moves p own others s t) (g : Elsewhere p s t) : Moves p own [] s t := by
  refine ⟨fun q x hx => ?_, h.control⟩
  by_cases e : p = q
  · exact h.stands q x (by simpa only [if_pos e] using hx)
  · rw [g q (Ne.symm e)]
    exact x.same_refl _

end

/-! ### Changes of one part -/

theorem moves_modRecord (p : Port) (f : PortRecord → PortRecord) (s : State) : Moves p [.record] [] s (modRecord p f s) := by
  refine moves_modPort (fun x hx => ?_) (.refl _)
  cases x
  case record => exact absurd (List.mem_singleton.2 rfl) hx
  all_goals first | exact rfl | exact ⟨rfl, rfl⟩

theorem moves_modMerge (p : Port) (f : Merge → Merge) (s : State) : Moves p [.merge] [] s (modMerge p f s) := by
  refine moves_modPort (fun x hx => ?_) (.refl _)
  cases x
  case merge => exact absurd (List.mem_singleton.2 rfl) hx
  all_goals first | exact rfl | exact ⟨rfl, rfl⟩

theorem moves_modLane (p : Port) (n : LaneName) (f : Lane → Lane) (s : State) :
    Moves p [lanePart n] [] s (modLane p n f s) := by
  refine moves_modPort (fun x hx => ?_) (.refl _)
  cases n <;> cases x
  case A.laneA | B.laneB => exact absurd (List.mem_singleton.2 rfl) hx
  all_goals first | exact rfl | exact ⟨rfl, rfl⟩

theorem moves_modPlan (p : Port) (plan : Plan) (s : State) :
    Moves p [.plan] [] s (modPort p (fun u => { u with plan := plan }) s) := by
  refine moves_modPort (fun x hx => ?_) (.refl _)
  cases x
  case plan => exact absurd (List.mem_singleton.2 rfl) hx
  all_goals first | exact rfl | exact ⟨rfl, rfl⟩

theorem moves_modAssembly (p : Port) (f : Control → Option Assembly) (s : State) :
    Moves p [.assembly] [] s (modControl p (fun k => { k with assembly := f k }) s) := by
  refine moves_modPort (fun x hx => ?_) (Control.keeps_of_queues rfl rfl rfl rfl)
  cases x
  case assembly => exact absurd (List.mem_singleton.2 rfl) hx
  all_goals first | exact rfl | exact ⟨rfl, rfl⟩

theorem moves_modArrived (p : Port) (f : Control → List Message) (s : State) :
    Moves p [.arrived] [] s (modControl p (fun k => { k with arrived := f k }) s) := by
  refine moves_modPort (fun x hx => ?_) (Control.keeps_of_queues rfl rfl rfl rfl)
  cases x
  case arrived => exact absurd (List.mem_singleton.2 rfl) hx
  all_goals first | exact rfl | exact ⟨rfl, rfl⟩

/-- A personal report reaches its own port alone. -/
theorem moves_postTo (p : Port) (r : Report) (s : State) : Moves p [.reports] [] s (postTo p r s) :=
  (offers_postTo (ks := [r.key.1]) p r s (by simp)).moves.only (elsewhere_postTo p r s)

/-! ### Assembling (R39 to R43) -/

theorem moves_dropAssembly (p : Port) (why : DropReason) (s : State) :
    Moves p [.assembly, .reports] [] s (dropAssembly p why s) := by
  unfold dropAssembly
  split
  · exact .refl s
  · exact ((moves_modAssembly p (fun _ => none) s).mono).andThen (moves_postTo p _ _)

theorem moves_queueRequest (p : Port) (m : Message) (s : State) :
    Moves p [.requests, .reports] [] s (queueRequest p m s) := by
  unfold queueRequest
  split
  · next h =>
    refine moves_modPort (fun x hx => ?_) (Control.keeps_join m h)
    cases x
    case requests | reports => exact absurd (by decide) hx
    all_goals exact rfl
  · exact (moves_postTo p (.requestLost m.kind m.tag 1) s).mono

theorem moves_classify (p : Port) (m : Message) (s : State) :
    Moves p [.requests, .arrived, .reports] [] s (classify p m s) :=
  .ite ((moves_modArrived p (fun k => k.arrived ++ [m]) s).mono) ((moves_queueRequest p m s).mono)

/-- What the control bytes of a played-out frame may reach in their port. -/
def assembling : List PortPart := [.assembly, .requests, .arrived, .reports]

theorem moves_extend (p : Port) (bytes : List Byte) (s : State) : Moves p assembling [] s (extend p bytes s) := by
  have begun : Moves p assembling [] s (modControl p (fun k => { k with assembly := some { bytes := bytes, idle := 0 } }) s) :=
    (moves_modAssembly p (fun _ => some { bytes := bytes, idle := 0 }) s).mono
  unfold extend
  exact .ite begun (.ite (begun.andThen (moves_dropAssembly p _ _))
    (.ite ((begun.andThen (moves_modAssembly p (fun _ => none) _)).andThen (moves_classify p _ _)) begun))

theorem moves_takeByte (p : Port) (b : ControlByte) (s : State) : Moves p assembling [] s (takeByte p b s) := by
  unfold takeByte
  split
  · exact ((moves_dropAssembly p _ s).mono).trans (moves_extend p _ _)
  · split
    · exact .refl s
    · exact moves_extend p _ s

theorem moves_idleAssembly (p : Port) (s : State) : Moves p [.assembly] [] s (idleAssembly p s) :=
  moves_modAssembly p (fun k => k.assembly.map fun a : Assembly => { a with idle := a.idle + 1 }) s

theorem moves_takeControl (p : Port) (bytes : List ControlByte) (s : State) :
    Moves p assembling [] s (takeControl p bytes s) :=
  .ite ((moves_idleAssembly p s).mono) (.forEach (moves_takeByte p) _ _)

theorem moves_assemblyTimedOut (p : Port) (s : State) : Moves p [.assembly, .reports] [] s (assemblyTimedOut p s) := by
  unfold assemblyTimedOut
  split
  · exact .ite (moves_dropAssembly p _ s) (.refl s)
  · exact .refl s

/-! ### Lanes and port states -/

/-- What an event of a lane may reach in its port. -/
theorem moves_laneEvent (p : Port) (n : LaneName) (why : LaneReason) (f : Lane → Lane) (s : State) :
    Moves p (.reports :: lanePart n :: .merge :: vacating) [.reports] s (laneEvent p n why f s) := by
  refine Moves.offers (moves_modPort (fun x hx => ?_) ?_) (offers_laneEvent p n why f s)
  · have control (x : PortPart) (hx : x ∉ vacating) : x.same (s.port p)
        { s.port p with control := ((s.port p).laneEvent n f).control } := by
      simp only [PortUnit.laneEvent, PortUnit.told]
      split
      · cases x
        case assembly | requests | arrived | replies | reports => exact absurd (by decide) hx
        all_goals exact rfl
      · exact x.same_refl _
    simp only [List.mem_cons, not_or] at hx
    obtain ⟨hn, hm, hv⟩ := hx
    have stood := control x hv
    cases x
    case record => exact absurd (by decide) hv
    case merge => exact absurd rfl hm
    case laneA => cases n <;> first | exact absurd rfl hn | exact rfl
    case laneB => cases n <;> first | exact absurd rfl hn | exact rfl
    case plan | sent => exact rfl
    all_goals exact stood
  · simp only [PortUnit.laneEvent, PortUnit.told]
    split
    · exact Control.keeps_vacated _
    · exact .refl _

theorem moves_enterVacant (p : Port) (why : PortReason) (s : State) :
    Moves p (.reports :: vacating) [.reports] s (enterVacant p why s) := by
  refine Moves.offers (moves_modPort (fun x hx => ?_) (Control.keeps_vacated _)) (offers_enterVacant p why s)
  cases x
  case record | assembly | requests | arrived | replies | reports => exact absurd (by decide) hx
  all_goals exact rfl

theorem moves_storeCopy (p : Port) (n : LaneName) (c : Copy) (s : State) : Moves p [.merge] [] s (storeCopy p n c s) :=
  moves_modMerge p _ s

end Sys2Proof.Machine
end

section
/-! PROOF. What the commands leave of each port's unit, part by part, and that they keep the law of the control channels. -/

namespace Sys2Proof.Machine

/-! ### Lane commands -/

/-- What the commands of a lane may reach in its port. -/
def laneReach (n : LaneName) : List PortPart := .reports :: lanePart n :: .merge :: vacating

theorem moves_setLossPin (p : Port) (n : LaneName) (loss : Bool) (s : State) :
    Moves p [lanePart n] [] s (setLossPin p n loss s) := moves_modLane p n _ s

theorem moves_badSync (p : Port) (n : LaneName) (s : State) : Moves p [lanePart n] [] s (badSync p n s) :=
  moves_modLane p n _ s

theorem moves_goodFrame (p : Port) (n : LaneName) (c : Copy) (s : State) :
    Moves p [.reports, lanePart n, .merge] [.reports] s (goodFrame p n c s) := by
  have lane (f : Lane → Lane) : Moves p [.reports, lanePart n, .merge] [.reports] s (modLane p n f s) :=
    (moves_modLane p n f s).mono (by simp)
  have stored (t : State) : Moves p [.reports, lanePart n, .merge] [.reports] t (storeCopy p n c t) :=
    (moves_storeCopy p n c t).mono (by simp)
  unfold goodFrame
  dsimp only
  split
  · exact .refl s
  · exact lane _
  · exact .ite ((lane _).trans (stored _)) (.ite (lane _) ((lane _).andThen (offers_postLane _ _ _ _).moves (by simp)))
  · exact .ite ((lane _).trans (stored _)) (lane _)

theorem moves_upstreamFrame (p : Port) (n : LaneName) (b : UpBytes) (s : State) :
    Moves p [.reports, lanePart n, .merge] [.reports] s (upstreamFrame p n b s) :=
  .ite (.refl s) (.ite ((moves_badSync p n s).mono (by simp)) (.ite (moves_goodFrame p n _ s)
    ((moves_modLane p n _ s).mono (by simp))))

theorem moves_acquired (p : Port) (n : LaneName) (s : State) : Moves p (laneReach n) [.reports] s (acquired p n s) := by
  unfold acquired
  dsimp only
  split
  · exact .refl s
  · refine .ite (.ite ?_ ?_) (.refl s)
    · exact (moves_laneEvent p n _ _ s).andThen (offers_postLane _ _ _ _).moves (by simp)
    · exact (moves_laneEvent p n _ _ s).andThen (moves_storeCopy p n _ _) (by simp)

theorem moves_qualify (p : Port) (n : LaneName) (s : State) : Moves p (laneReach n) [.reports] s (qualify p n s) :=
  .ite (moves_laneEvent p n _ _ s) (.refl s)

/-- An event of light made while the hub runs, after the pin that is followed in any case (R5, R167). -/
theorem moves_light {p : Port} {n : LaneName} {f : State → State} (loss : Bool) (s : State)
    (h : ∀ t, Moves p (laneReach n) [.reports] t (f t)) :
    Moves p (laneReach n) [.reports] s (whenRunning f (setLossPin p n loss s)) :=
  ((moves_setLossPin p n loss s).mono (by simp [laneReach])).trans (.ite (h _) (.refl _))

/-! ### SET PORT (R20, R21) -/

/-- What a changed offset or a lane raised by a changed setting may reach in any port. -/
def lanesReach : List PortPart := .laneA :: .laneB :: .merge :: vacating

theorem moves_setPreferred (q : Port) (pref : Option LaneName) (s : State) :
    Moves q [.merge, .reports] [.reports] s (setPreferred q pref s) := by
  have preferred : Moves q [.merge, .reports] [.reports] s (modMerge q (fun m => { m with preferred := pref }) s) :=
    (moves_modMerge q _ s).mono
  unfold setPreferred
  split
  · exact preferred
  · exact .ite ((preferred.andThen (moves_modMerge q _ _)).andThen (offers_postLane _ _ _ _).moves) preferred

theorem moves_requalifyLanes (q : Port) (offset : Nat) (s : State) :
    Moves q (.reports :: lanesReach) [.reports] s (requalifyLanes q offset s) := by
  refine Moves.offers (moves_modPort (fun x hx => ?_) ?_) (offers_requalifyLanes q offset s)
  · simp only [PortUnit.told]
    cases x
    case record | laneA | laneB | merge | assembly | requests | arrived | replies | reports => exact absurd (by decide) hx
    case outbound =>
      show Control.outbound (ite _ _ _) = _
      split <;> rfl
    all_goals exact rfl
  · simp only [PortUnit.told]
    split
    · exact Control.keeps_vacated _
    · exact .refl _

theorem moves_serveSetPort (p : Port) (m : Message) (s : State) :
    Moves p lanesReach lanesReach s (serveSetPort m s).state := by
  unfold serveSetPort
  dsimp only
  split
  · next q pref _ _ =>
    have preferred (c : Prop) [Decidable c] : Moves p lanesReach lanesReach s (if c then setPreferred q pref s else s) :=
      .ite ((moves_setPreferred q pref s).spread p) (.refl s)
    have offset (c : Prop) [Decidable c] (x : Nat) (t : State) :
        Moves p lanesReach lanesReach t (if c then setOffset q x t else t) :=
      .ite (((moves_modMerge q _ t).spread p).trans ((moves_requalifyLanes q x _).spread p)) (.refl t)
    have told (c : Prop) [Decidable c] (t : State) : Moves p lanesReach lanesReach t (if c then t else postPort q .setting t) :=
      .ite (.refl t) ((offers_postPort _ _ _).moves.mono)
    exact ((preferred _).trans (offset _ _ _)).trans (told _ _)
  · exact .refl s

/-! ### Ports (R29 to R33) -/

theorem moves_expireHold (p : Port) (s : State) : Moves p (.reports :: vacating) [.reports] s (expireHold p s) :=
  .ite (moves_enterVacant p _ s) (.refl s)

theorem moves_serveAttach (p : Port) (m : Message) (s : State) :
    Moves p [.reports, .record] [.reports] s (serveAttach p m s).state := by
  have record (f : PortRecord → PortRecord) (t : State) : Moves p [.reports, .record] [.reports] t (modRecord p f t) :=
    (moves_modRecord p f t).mono
  have reset (t : State) : Moves p [.reports, .record] [.reports] t (resetRecords p t) := (agree_resetRecords p t).moves rfl
  unfold serveAttach
  dsimp only
  split
  · exact .refl s
  · split
    · exact (((record _ s).trans (.ite (reset _) (.refl _))).andThen (offers_outputsReturned p _).moves).andThen
        (offers_postPort p _ _).moves
    · split
      · exact .ite (.refl s) ((record _ s).andThen (offers_postPort p _ _).moves)
      · refine .andThen (.trans (.trans ?_ (reset _)) (record _ _)) (offers_postPort p _ _).moves
        exact ((offers_removeClaim p _ s).moves.mono).andThen (offers_departConsent p _).moves

theorem moves_serveDetach (p : Port) (m : Message) (s : State) :
    Moves p (.reports :: vacating) [.reports] s (serveDetach p m s).state :=
  .ite (moves_enterVacant p _ s) ((((moves_modRecord p _ s).mono).andThen (offers_leaveAttached p _).moves).andThen
    (offers_postPort p _ _).moves)

theorem moves_serveClearCounters (p : Port) (m : Message) (s : State) :
    Moves p [.laneA, .laneB] [.laneA, .laneB] s (serveClearCounters m s).state := by
  unfold serveClearCounters
  split
  · refine .forEach (fun n t => ?_) _ _
    cases n <;> exact (moves_modLane _ _ _ t).spread p
  · exact .refl s

/-! ### Settings, rates and carried proposals -/

theorem moves_changeSettings (p : Port) (h : Settings) (s : State) :
    Moves p lanesReach lanesReach s (changeSettings h s) := by
  have set : Moves p lanesReach lanesReach s { s with settings := h } := .of_ports rfl
  have changed {α : Type} [DecidableEq α] {field : Settings → α} {old : Settings} {f : State → State} {t : State}
      (hf : Moves p lanesReach lanesReach t (f t)) : Moves p lanesReach lanesReach t (whenChanged field old f t) :=
    .ite (.refl t) hf
  have raised (q : Port) (n : LaneName) (t : State) : Moves p lanesReach lanesReach t (qualify q n t) := by
    cases n <;> exact (moves_qualify q _ t).spread p
  unfold changeSettings settingEffects
  refine set.trans (.ite (.refl _) ?_)
  refine .trans ?_ (changed (offers_recomputeStage _).moves.mono)
  refine .trans ?_ (changed (offers_resortTalk _).moves.mono)
  refine .trans ?_ (changed (offers_testHead _).moves.mono)
  refine .trans ?_ (changed (offers_endTransitions _).moves.mono)
  refine .trans ?_ (changed (offers_sourceChanged _).moves.mono)
  refine .trans ?_ (changed (.forEach (fun q t => (moves_expireHold q t).spread p) _ _))
  refine .trans ?_ (changed (.forEach (fun q t => (raised q .A t).trans (raised q .B _)) _ _))
  exact (offers_post (ks := [20]) (.hubSetting h) _ rfl).moves.mono

theorem moves_servePlan (p : Port) (m : Message) (s : State) : Moves p [.plan] [] s (servePlan p m s).state := by
  unfold servePlan
  dsimp only
  split
  · split
    · exact moves_modPlan p _ s
    · exact .refl s
  · exact .refl s

theorem moves_truncatePlan (q : Port) (s : State) : Moves q [.plan, .reports] [] s (truncatePlan q s) :=
  .ite (.refl s) (((moves_modPlan q _ s).mono).andThen (moves_postTo q _ _))

theorem moves_carryRate (p : Port) (r : Rate) (pr : Proposal) (s : State) :
    Moves p [.plan, .reports] [.plan, .reports] s (carryRate r pr s) := by
  have rated : Moves p [.plan, .reports] [.plan, .reports] s { s with rate := r, rateMute := some Config.rateMute } :=
    .of_ports rfl
  exact ((rated.trans (.forEach (fun q t => (moves_truncatePlan q t).spread p) _ _)).trans
    ((agree_postSetRate r _).moves rfl)).andThen
    (offers_post (ks := [19]) (.rate r s.rate pr.number pr.proposer) _ rfl).moves

/-- The plans take their defaults and the report queues are emptied (R160, steps 1 and 2). -/
theorem moves_resetPorts (p : Port) (plan : Plan) (s : State) :
    Moves p carrying carrying s
      { s with ports := s.ports.each fun u => { u with control := u.control.emptyReports, plan := plan } } := by
  refine ⟨fun q x hx => ?_, fun q => ?_⟩ <;> simp only [State.port, Bank.get_each]
  · rw [ite_self] at hx
    cases x
    case plan | reports | requests => exact absurd (by decide) hx
    all_goals exact rfl
  · exact Control.keeps_emptyReports _

theorem moves_carryReset (p : Port) (pr : Proposal) (s : State) : Moves p carrying carrying s (carryReset pr s) := by
  unfold carryReset
  refine .andThen (.andThen (.trans (.trans (.trans (moves_resetPorts p (defaultPlan s.rate) s) ?_) ((agree_resetOutputs _).moves rfl))
    ((agree_emptyTalk _).moves rfl)) (moves_changeSettings p _ _))
    (offers_post (ks := [21]) (.hubResetDone pr.number pr.proposer) _ rfl).moves
  exact (Agree.forEach agree_resetRecords _ _).moves rfl

theorem moves_carry (p : Port) (pr : Proposal) (s : State) : Moves p carrying carrying s (carry pr s) := by
  have ended : Moves p carrying carrying s (endProposal pr .carried s) := (agree_endProposal _ _ _).moves rfl
  have told : Moves p carrying carrying s (post (.consentEnded pr.number pr.action pr.proposer .carried none none)
      (endProposal pr .carried s)) := ended.andThen (offers_post (ks := [18]) (.consentEnded _ _ _ _ _ _) _ rfl).moves
  unfold carry
  dsimp only
  split
  · exact told.andThen (moves_carryRate p _ _ _)
  · exact told.andThen (offers_carryGrant _ _ _ _).moves
  · exact ended.trans (moves_carryReset p _ _)

theorem moves_testWindow (p : Port) (s : State) : Moves p carrying carrying s (testWindow s) := by
  unfold testWindow
  split
  · exact .ite (moves_carry p _ _) (.refl s)
  · exact .refl s

theorem moves_serveSetHub (p : Port) (m : Message) (s : State) : Moves p carrying carrying s (serveSetHub m s).state := by
  unfold serveSetHub
  split
  · exact .refl s
  · exact ((moves_changeSettings p _ s).mono).trans (.ite (.refl _) (moves_testWindow p _))

theorem moves_servePropose (p : Port) (m : Message) (s : State) :
    Moves p carrying carrying s (servePropose p m s).state := by
  have opened (f : Consent → Consent) : Moves p carrying carrying s (modConsent f s) := (agree_modConsent f s).moves rfl
  unfold servePropose
  dsimp only
  split
  · exact .refl s
  · split
    · exact .refl s
    · split
      · exact .refl s
      · split
        · exact (opened _).trans (moves_carry p _ _)
        · exact (opened _).andThen (offers_askVoters _ _).moves

/-! ### Frame periods -/

/-- What the start of a frame period may reach in any port. -/
def sending : List PortPart := [.record, .replies, .reports, .outbound, .sent]

theorem moves_sendFrame (n : Nat) (p : Port) (s : State) : Moves p sending [] s (sendFrame n p s) := by
  have judged : Moves p sending [] s (judgeWindow p s) :=
    ((offers_judgeWindow p s).moves (p := p).only (elsewhere_judgeWindow p s)).mono
  unfold sendFrame
  refine judged.trans (moves_modPort (fun x hx => ?_) (Control.keeps_fill _ _ _))
  cases x
  case replies | reports | outbound | sent => exact absurd (by decide) hx
  case assembly | arrived => dsimp only [PortPart.same]; rw [Control.fill_eq]
  case requests => dsimp only [PortPart.same]; rw [Control.fill_eq]; exact ⟨rfl, rfl⟩
  all_goals exact rfl

theorem moves_sendFrames (n : Nat) (p : Port) (s : State) : Moves p sending sending s (sendFrames n s) :=
  .forEach (fun q t => (moves_sendFrame n q t).spread p) _ _

theorem moves_tickFrame (p : Port) (s : State) : Moves p [.record] [.record] s (tickFrame s) := by
  refine ⟨fun q x hx => ?_, fun q => ?_⟩ <;> rw [tickFrame_port]
  · rw [ite_self] at hx
    cases x
    case record => exact absurd (by decide) hx
    all_goals first | exact rfl | exact ⟨rfl, rfl⟩
  · exact .refl _

theorem moves_startFrame (p : Port) (s : State) : Moves p sending sending s (startFrame s) := by
  refine .ite (.refl s) (.trans (t := if s.begun then tickFrame (sendFrames _ s) else sendFrames _ s) ?_ (.of_ports rfl))
  exact .ite ((moves_sendFrames _ p s).andThen (moves_tickFrame p _)) (moves_sendFrames _ p s)

/-- What the end of a frame period may reach in any port. -/
def playing : List PortPart := .laneA :: .laneB :: .merge :: assembling

theorem moves_skipPort (p : Port) (s : State) : Moves p playing [] s (skipPort p s) := by
  have skips (k : Nat) : Moves p playing [] s (modMerge p (Merge.skip k) s) := (moves_modMerge p _ s).mono
  exact .ite (skips _) ((skips _).andThen (moves_dropAssembly p _ _))

theorem moves_holdPort (p : Port) (s : State) : Moves p playing [] s (holdPort p s) :=
  .trans (t := { s with freeReads := s.freeReads + 1 }) (.of_ports rfl)
    (((moves_modMerge p _ _).mono).andThen (moves_idleAssembly p _))

theorem moves_playPort (p : Port) (s : State) : Moves p playing [] s (playPort p s) := by
  have played (e : Entry) (c : Option Copy) : Moves p playing [] s (modPort p (fun u =>
      { u with lanes := u.lanes.judge u.merge.next e, merge := u.merge.play c }) s) := by
    refine moves_modPort (fun x hx => ?_) (.refl _)
    cases x
    case laneA | laneB | merge => exact absurd (by decide) hx
    all_goals first | exact rfl | exact ⟨rfl, rfl⟩
  unfold playPort
  dsimp only
  split
  · exact (played _ _).andThen (moves_takeControl p _ _)
  · exact (played _ _).andThen (moves_dropAssembly p _ _)

theorem moves_endPort (p : Port) (s : State) : Moves p playing [] s (endPort p s) := by
  have counted : Moves p playing [] s (modMerge p (Merge.countWithout (s.port p).lanes.anyUp) s) :=
    (moves_modMerge p _ s).mono
  exact .ite (counted.trans (moves_holdPort p _)) ((counted.trans (moves_skipPort p _)).trans (moves_playPort p _))

theorem moves_endFrame (p : Port) (inp : FrameInputs) (s : State) : Moves p playing playing s (endFrame inp s) := by
  refine .ite (.trans (t := forEach endPort (indexes 3) s) ?_ (.of_ports rfl)) (.refl s)
  exact .forEach (fun q t => (moves_endPort q t).spread p) _ _

/-! ### Owners of requests that only offer reports -/

theorem offers_takeRange {ks : List Nat} {act : Chan → State → State} (h : ∀ c s, Offers ks s (act c s)) (p : Port)
    (sat : Chan → State → Bool) (cs : List Chan) (s : State) :
    Offers ks s (takeChannels p act sat cs (Taken.start s)).state := offers_takeChannels h p sat cs (Taken.start s)

theorem offers_serveGain (p : Port) (m : Message) (s : State) : Offers [4] s (serveGain p m s).state := by
  unfold serveGain
  split
  · exact .refl s
  · exact offers_takeRange (offers_takeDesired p _) p _ _ s

theorem offers_serveStep (p : Port) (m : Message) (s : State) : Offers [4] s (serveStep p m s).state := by
  unfold serveStep
  split
  · exact .refl s
  · exact offers_takeRange (offers_takeDesired p _) p _ _ s

theorem offers_servePad (p : Port) (m : Message) (s : State) : Offers [4] s (servePad p m s).state := by
  unfold servePad
  split
  · exact .refl s
  · split
    · exact .refl s
    · exact offers_takeRange (offers_takeDesired p _) p _ _ s

theorem offers_serveAuthority (p : Port) (m : Message) (s : State) : Offers [4] s (serveAuthority p m s).state := by
  unfold serveAuthority
  split
  · split
    · exact .refl s
    · exact offers_takeRange (fun c t => offers_changeSetting c _ t) p _ _ s
  · exact .refl s

theorem offers_servePhantom (p : Port) (m : Message) (s : State) : Offers [4, 6] s (servePhantom p m s).state := by
  unfold servePhantom
  split
  · exact .refl s
  · split
    · exact .refl s
    · exact offers_takeRange (offers_takePhantom _) p _ _ s

theorem offers_servePatch (p : Port) (m : Message) (s : State) : Offers [11, 12] s (servePatch p m s).state := by
  unfold servePatch
  dsimp only
  split
  · exact .refl s
  · split
    · exact .refl s
    · exact Offers.forEach (fun (x : OutNo × Option Source) t => offers_patchOne p x.2 x.1 t) _ _

theorem offers_serveSetOutput (p : Port) (m : Message) (s : State) : Offers [11, 12] s (serveSetOutput p m s).state := by
  unfold serveSetOutput
  split
  · exact .refl s
  · split
    · exact .refl s
    · exact offers_setOutputs _ _ _ _

theorem offers_serveObject (p : Port) (m : Message) (s : State) : Offers [18] s (serveObject p m s).state := by
  unfold serveObject
  split
  · exact .refl s
  · split
    · exact .refl s
    · split
      · exact .refl s
      · exact ((agree_endProposal _ _ _).offers rfl).trans (offers_post _ _ rfl)

theorem offers_serveWithdraw (p : Port) (m : Message) (s : State) : Offers [18] s (serveWithdraw p m s).state := by
  unfold serveWithdraw
  split
  · exact .refl s
  · split
    · exact offers_withdrawProposal _ _ _
    · exact .refl s

/-! ### TRACK LIMITED goes to the port of its record alone (R50, R82) -/

theorem elsewhere_of_ports {q : Port} {s t : State} (h : t.ports = s.ports) : Elsewhere q s t := fun p _ => by
  simp only [State.port, h]

theorem elsewhere_modDesk (q p : Port) (c : Chan) (f : DeskRecord → DeskRecord) (s : State) :
    Elsewhere q s (modDesk p c f s) := elsewhere_of_ports rfl

theorem elsewhere_computeRecord (how : Nat → DeskRecord → DeskRecord) (p : Port) (c : Chan) (s : State) :
    Elsewhere p s (computeRecord how p c s) :=
  (elsewhere_modDesk p p c _ s).trans (.ite ((elsewhere_postTo p _ _).trans (elsewhere_modDesk p p c _ _)) (.refl p _))

theorem moves_serveTrim (p : Port) (m : Message) (s : State) : Moves p [.reports] [] s (serveTrim p m s).state := by
  have trimmed (x : Int) (c : Chan) (t : State) : Elsewhere p t (trimRecord p x c t) :=
    .ite (.refl p t) ((elsewhere_modDesk p p c _ t).trans (elsewhere_computeRecord _ p c _))
  unfold serveTrim
  split
  · exact .refl s
  · exact .forEach (fun c t => (offers_trimRecord p _ c t).moves.only (trimmed _ c t)) _ _

theorem moves_serveTracking (p : Port) (m : Message) (s : State) : Moves p [.reports] [] s (serveTracking p m s).state := by
  have tracked (x : Mode) (c : Chan) (t : State) : Elsewhere p t (trackRecord p x c t) := by
    unfold trackRecord
    split
    · exact (elsewhere_modDesk p p c _ t).trans (elsewhere_computeRecord _ p c _)
    · exact (elsewhere_modDesk p p c _ t).trans (elsewhere_computeRecord _ p c _)
    · exact .refl p t
  unfold serveTracking
  split
  · exact .forEach (fun c t => (offers_trackRecord p _ c t).moves.only (tracked _ c t)) _ _
  · exact .refl s

end Sys2Proof.Machine
end

section
/-! PROOF. The law of the control channels and the parts of the ports' units, command by command: settles O12. -/

namespace Sys2Proof.Machine

/-! ### Commands -/

/-- From s to t a command has kept every part of the ports' units but those named, and the law of the control channels. -/
structure Ran (reach : Port → List PortPart) (s t : State) : Prop where
  stands : ∀ q x, x ∉ reach q → x.same (s.port q) (t.port q)
  law : ControlLaw s → ControlLaw t

section
variable {p : Port} {own others : List PortPart} {s t : State}

theorem Moves.ran (h : Moves p own others s t) : Ran (fun q => if p = q then own else others) s t :=
  ⟨h.stands, fun hl q => (h.control q).lawful (hl q)⟩

theorem Ran.refl {reach : Port → List PortPart} (s : State) : Ran reach s s := ⟨fun _ x _ => x.same_refl _, id⟩

theorem Ran.whenRunning {reach : Port → List PortPart} {f : State → State} (h : Ran reach s (f s)) :
    Ran reach s (Machine.whenRunning f s) := by
  unfold Machine.whenRunning
  split
  · exact h
  · exact .refl s

/-- What every port may be reached in alike. -/
theorem Moves.ranEverywhere {parts : List PortPart} (h : Moves p parts parts s t) : Ran (fun _ => parts) s t :=
  ⟨fun q x hx => h.stands q x (by rwa [ite_self]), h.ran.law⟩

/-- A change of one control channel that keeps its law, in parts of the port that an operation before it may reach too. -/
theorem Moves.ranModControl {f : Control → Control} (h : Moves p own others s t) (hs : ∀ x, x ∉ own →
    x.same (t.port p) { t.port p with control := f (t.port p).control })
    (hl : (s.port p).control.lawful → (t.port p).control.lawful → (f (t.port p).control).lawful) :
    Ran (fun q => if p = q then own else others) s (modControl p f t) := by
  refine ⟨fun q x hx => PortPart.same_trans (h.stands q x hx) ?_, fun law q => ?_⟩ <;> rw [modControl_port] <;> split
  · next e => subst e; rw [if_pos rfl] at hx; exact hs x hx
  · exact x.same_refl _
  · exact hl (law p) (h.ran.law law p)
  · exact h.ran.law law q

/-- A served request leaves its queue and puts its reply in a free place, whatever its owner does that brings no reply. -/
theorem Moves.ranAnswered {m : Message} {st : Status} {steps : Nat} {result : List Byte} (h : Moves p own others s t)
    (hr : (s.port p).control.replies.length < 8) (ho : PortPart.requests ∈ own ∧ PortPart.replies ∈ own) :
    Ran (fun q => if p = q then own else others) s (answered p m st steps result t) := by
  refine h.ranModControl (fun x hx => ?_) fun _ hl => Control.lawful_answered _ hl ((h.control p).replies.trans_lt hr)
  cases x
  case requests => exact absurd ho.1 hx
  case replies => exact absurd ho.2 hx
  all_goals first | exact rfl | exact ⟨rfl, rfl⟩

theorem Moves.ranAnsweredNow {m : Message} {st : Status} {steps : Nat} {result : List Byte} (h : Moves p own others s t)
    (hr : (s.port p).control.replies.length < 8) (ho : PortPart.replies ∈ own) :
    Ran (fun q => if p = q then own else others) s (answeredNow p m st steps result t) := by
  refine h.ranModControl (fun x hx => ?_) fun _ hl => Control.lawful_answeredNow _ hl ((h.control p).replies.trans_lt hr)
  cases x
  case replies => exact absurd ho hx
  all_goals first | exact rfl | exact ⟨rfl, rfl⟩

/-- A request served by an owner whose reach in the port is within `own`. -/
theorem ran_serve {kind : Byte} {owner : Message → State → Served} (h : ∀ m t, Moves p own others t (owner m t).state)
    (ho : PortPart.requests ∈ own ∧ PortPart.replies ∈ own) (s : State) :
    Ran (fun q => if p = q then own else others) s (serve p kind owner s) := by
  obtain e | ⟨m, rest, -, -, hr, e⟩ := serve_cases p kind owner s <;> rw [e]
  · exact .refl s
  · rw [popRequest_pushReply]
    refine Moves.ranAnswered ?_ hr ho
    unfold checkAndServe
    split
    · exact .refl s
    · split
      · exact .refl s
      · exact h m s

/-- A request whose owner may reach the same parts of every port. -/
theorem ran_everywhere {parts : List PortPart} {kind : Byte} {owner : Message → State → Served}
    (h : ∀ m t, Moves p parts parts t (owner m t).state) (ho : PortPart.requests ∈ parts ∧ PortPart.replies ∈ parts) (s : State) :
    Ran (fun _ => parts) s (serve p kind owner s) := by
  simpa only [ite_self] using ran_serve h ho s

/-- A request whose owner changes no port. -/
theorem ran_serve_agree {ps : List Part} {kind : Byte} {owner : Message → State → Served}
    (h : ∀ m t, Agree ps t (owner m t).state) (hp : ps.contains .ports = false) (s : State) :
    Ran (fun q => if p = q then [.requests, .replies] else []) s (serve p kind owner s) :=
  ran_serve (fun m t => (h m t).moves hp) (by decide) s

/-- A request whose owner changes nothing. -/
theorem ran_serve_read {kind : Byte} {owner : Message → State → Served} (h : ∀ m t, (owner m t).state = t) (s : State) :
    Ran (fun q => if p = q then [.requests, .replies] else []) s (serve p kind owner s) :=
  ran_serve_agree (ps := []) (fun m t => agree_of_state_eq (h m t)) rfl s

/-- A request whose owner only offers reports. -/
theorem ran_serve_offers {ks : List Nat} {kind : Byte} {owner : Message → State → Served}
    (h : ∀ m t, Offers ks t (owner m t).state) (s : State) :
    Ran (fun q => if p = q then [.reports, .requests, .replies] else [.reports]) s (serve p kind owner s) :=
  ran_serve (fun m t => ((h m t).moves (p := p)).mono) (by decide) s

theorem ran_serveUnknown (s : State) :
    Ran (fun q => if p = q then [.requests, .replies] else []) s (serveUnknown p s) := by
  unfold serveUnknown
  split
  · exact .refl s
  · split
    · next m _ _ free =>
      rw [popRequest_pushReply]
      exact (Moves.refl s).ranAnswered (by simpa [Config.replyPlaces] using free.2) (by decide)
    · exact .refl s

theorem ran_takeImmediate {ks : List Nat} {kind : Byte} {owner : Message → State → Served}
    (h : ∀ m t, Offers ks t (owner m t).state) (s : State) :
    Ran (fun q => if p = q then [.reports, .arrived, .replies] else [.reports]) s (takeImmediate p kind owner s) := by
  have taken (rest : List Message) : Moves p [.reports, .arrived, .replies] [.reports] s (taking p rest s) :=
    (moves_modArrived p (fun _ => rest) s).mono
  unfold takeImmediate
  split
  · exact .refl s
  · next m rest _ =>
    split
    · dsimp only
      split
      · exact ((taken rest).andThen (moves_postTo p (.requestLost m.kind m.tag 1) _)).ran
      · next free =>
        have free : (s.port p).control.replies.length < 8 := by simpa [Config.replyPlaces] using free
        split
        · exact (taken rest).ranAnsweredNow free (by decide)
        · split
          · exact (taken rest).ranAnsweredNow free (by decide)
          · exact ((taken rest).andThen (h m _).moves).ranAnsweredNow free (by decide)
    · exact .refl s

end

/-! ### Power-on (R166) -/

theorem powerOn_port (s : State) (q : Port) :
    (powerOn s).port q = if s.resetInput then (s.port q).poweredOn else (s.port q).poweredOn.lit := by
  cases h : s.resetInput
  · rw [powerOn_released h]; exact Bank.get_each _ _ _
  · rw [show powerOn s = holdReset (powerOnState { s with retained := s.retained.cut }) from if_pos h]
    exact Bank.get_each _ _ _

theorem controlLaw_powerOn (s : State) : ControlLaw (powerOn s) := fun q => by
  rw [powerOn_port]
  split <;> exact Control.lawful_reset

theorem ran_powerOnReset (cause : ResetCause) (s : State) :
    Ran (portFootprint (.powerOnReset cause)) s (powerOnReset cause s) := by
  refine ⟨fun q x hx => absurd (by cases x <;> simp [portFootprint]) hx, fun law => ?_⟩
  cases cause with
  | supplies => exact controlLaw_powerOn s
  | release =>
    show ControlLaw (releaseReset s)
    unfold releaseReset
    split
    · dsimp only
      split
      · exact law
      · exact controlLaw_powerOn _
    · exact law

/-! ### What each command does to the ports -/

theorem offers_pollReplied (k : Card) (d : PollData) (s : State) : Offers [3, 4, 5, 6, 7, 9] s (pollReplied k d s) := by
  unfold pollReplied
  split
  · exact Offers.ite (offers_takePollReply k d s) (.refl s)
  · exact .refl s

theorem offers_transactionTimedOut (s : State) : Offers [3, 6] s (transactionTimedOut s) := by
  unfold transactionTimedOut
  split
  · exact Offers.ite (offers_timeOut _ _ s) (.refl s)
  · exact Offers.ite (offers_timeOut _ _ s) (.refl s)
  · exact .refl s

/-- A command runs to one state. -/
theorem exec_unique {c : Instr} {s t u : State} (h : exec c s = .next t) (g : exec c s = .next u) : t = u := by
  rw [h] at g
  injection g

theorem exec_outside {c : Instr} {s t : State} (h : exec c s = .next t) : Agree (footprint c) s t := by
  obtain ⟨u, run, agree⟩ := exec_agree c s
  exact exec_unique h run ▸ agree

/-- A step stands still or runs a command that waited. -/
theorem step_cases {s t : State} (h : step s = .next t) : t = s ∨ ∃ c rest, exec c { s with pending := rest } = .next t := by
  unfold step at h
  split at h
  · injection h with e
    exact .inl e.symm
  · exact .inr ⟨_, _, h⟩

theorem exec_ran {c : Instr} {s t : State} (h : exec c s = .next t) : Ran (portFootprint c) s t := by
  have agree := exec_outside h
  by_cases ports : (footprint c).contains .ports = false
  · exact ⟨fun q x _ => (agree.moves (p := q) (own := []) (others := []) ports).stands q x (by simp),
      (agree.moves (p := 0) (own := []) (others := []) ports).ran.law⟩
  have ran {u : State} (e : exec c s = .next u) (hu : Ran (portFootprint c) s u) : Ran (portFootprint c) s t :=
    exec_unique e h ▸ hu
  have reports {f : State → State} {ks : List Nat} (h : Offers ks s (f s)) : Ran (fun _ => [.reports]) s (whenRunning f s) :=
    (h.moves (p := 0)).ranEverywhere.whenRunning
  cases c with
  | powerOnReset cause => exact ran rfl (ran_powerOnReset cause s)
  | downstreamFrame => exact ran rfl (moves_startFrame 0 s).ranEverywhere.whenRunning
  | lightLost p n => exact ran rfl (moves_light true s fun t => .ite (.refl t) (moves_laneEvent p n _ _ t)).ran
  | lightReturned p n => exact ran rfl (moves_light false s fun t => .ite (moves_laneEvent p n _ _ t) (.refl t)).ran
  | upstreamFrame p n b => exact ran rfl (moves_upstreamFrame p n b s).ran.whenRunning
  | badSync p n => exact ran rfl (moves_badSync p n s).ran.whenRunning
  | acquired p n => exact ran rfl (moves_acquired p n s).ran.whenRunning
  | syncLost p n => exact ran rfl (Moves.ite (moves_laneEvent p n _ _ s) (.refl s)).ran.whenRunning
  | qualified p n => exact ran rfl (moves_qualify p n s).ran.whenRunning
  | laneDrop p n => exact ran rfl (Moves.ite (moves_laneEvent p n _ _ s) (.refl s)).ran.whenRunning
  | playout inp => exact ran rfl (moves_endFrame 0 inp s).ranEverywhere.whenRunning
  | playoutMuteEnd p => exact ran rfl (moves_modMerge p _ s).ran.whenRunning
  | assemblyTimeout p => exact ran rfl (moves_assemblyTimedOut p s).ran.whenRunning
  | clockLocked => exact ran rfl (reports (offers_lockClock s))
  | clockHoldover => exact ran rfl (reports (offers_holdoverClock s))
  | holdExpired p => exact ran rfl (moves_expireHold p s).ran.whenRunning
  | attach p =>
    exact ran rfl (ran_serve (own := [.reports, .record, .requests, .replies])
      (fun m t => (moves_serveAttach p m t).mono) (by decide) s).whenRunning
  | detach p => exact ran rfl (ran_serve (moves_serveDetach p) (by decide) s).whenRunning
  | readPort p => exact ran rfl (ran_serve_read serveReadPort_state s).whenRunning
  | readLanes p => exact ran rfl (ran_serve_read serveReadLanes_state s).whenRunning
  | clearLaneCounters p =>
    exact ran rfl (ran_serve (own := [.laneA, .laneB, .requests, .replies])
      (fun m t => (moves_serveClearCounters p m t).mono) (by decide) s).whenRunning
  | setPort p => exact ran rfl (ran_everywhere (moves_serveSetPort p) (by decide) s).whenRunning
  | readHub p => exact ran rfl (ran_serve_read (fun _ _ => rfl) s).whenRunning
  | setHub p => exact ran rfl (ran_everywhere (moves_serveSetHub p) (by decide) s).whenRunning
  | unknownRequest p => exact ran rfl (ran_serveUnknown s).whenRunning
  | readChannels p => exact ran rfl (ran_serve_read serveReadChannels_state s).whenRunning
  | readCards p => exact ran rfl (ran_serve_read (fun _ _ => rfl) s).whenRunning
  | setGain p => exact ran rfl (ran_serve_offers (offers_serveGain p) s).whenRunning
  | stepGain p => exact ran rfl (ran_serve_offers (offers_serveStep p) s).whenRunning
  | setPad p => exact ran rfl (ran_serve_offers (offers_servePad p) s).whenRunning
  | setAuthority p => exact ran rfl (ran_serve_offers (offers_serveAuthority p) s).whenRunning
  | setPhantom p => exact ran rfl (ran_serve_offers (offers_servePhantom p) s).whenRunning
  | setTrim p =>
    exact ran rfl (ran_serve (own := [.reports, .requests, .replies])
      (fun m t => (moves_serveTrim p m t).mono) (by decide) s).whenRunning
  | setTracking p =>
    exact ran rfl (ran_serve (own := [.reports, .requests, .replies])
      (fun m t => (moves_serveTracking p m t).mono) (by decide) s).whenRunning
  | armNotices p =>
    exact ran rfl (ran_serve (own := [.reports, .requests, .replies])
      (fun m t => (agree_serveArm p m t).moves rfl) (by decide) s).whenRunning
  | readMeters p => exact ran rfl (ran_serve_agree (agree_serveMeters p) rfl s).whenRunning
  | setPlan p =>
    exact ran rfl (ran_serve (own := [.plan, .requests, .replies])
      (fun m t => (moves_servePlan p m t).mono) (by decide) s).whenRunning
  | readPlan p => exact ran rfl (ran_serve_read serveReadPlan_state s).whenRunning
  | patchOutput p => exact ran rfl (ran_serve_offers (offers_servePatch p) s).whenRunning
  | setOutput p => exact ran rfl (ran_serve_offers (offers_serveSetOutput p) s).whenRunning
  | readOutputs p => exact ran rfl (ran_serve_read serveReadOutputs_state s).whenRunning
  | talkOn p => exact ran rfl (ran_serve_offers (fun m t => Offers.ite (.refl t) (offers_insertTalk p t)) s).whenRunning
  | talkOff p => exact ran rfl (ran_takeImmediate (fun m t => offers_removeClaim p .released t) s).whenRunning
  | readTalk p => exact ran rfl (ran_serve_read (fun _ _ => rfl) s).whenRunning
  | propose p => exact ran rfl (ran_everywhere (moves_servePropose p) (by decide) s).whenRunning
  | object p => exact ran rfl (ran_takeImmediate (offers_serveObject p) s).whenRunning
  | withdraw p => exact ran rfl (ran_serve_offers (offers_serveWithdraw p) s).whenRunning
  | readConsent p => exact ran rfl (ran_serve_read (fun _ _ => rfl) s).whenRunning
  | pollReply k d => exact ran rfl (reports (offers_pollReplied k d s))
  | transactionTimeout => exact ran rfl (reports (offers_transactionTimedOut s))
  | applicationDue c => exact ran rfl (reports (offers_applicationDue c s))
  | ramped c => exact ran rfl (reports (offers_endFrom _ c s))
  | settled c => exact ran rfl (reports (offers_endFrom _ c s))
  | discharged c => exact ran rfl (reports (offers_endFrom _ c s))
  | delayExpired o => exact ran rfl (reports (offers_expireDelay o s))
  | talkTimedOut => exact ran rfl (reports (offers_testHead s))
  | stageTalkTaken => exact ran rfl (reports (offers_stageTaken s))
  | consentWindowExpired => exact ran rfl (moves_testWindow 0 s).ranEverywhere.whenRunning
  | resetInputAssert | powerLoss | wordclockEdge | wordclockMissing | poll | write | phantomOffAll | setRate | broadcastEnd
  | writeAck | coefficientRampEnd | rateMuteEnd | crossfadeEnd | dimRampEnd | quietTimerExpired | retainedWriteEnd =>
    exact absurd rfl ports

/-- Settles O12, from the law of the control channels that every command keeps. -/
theorem stepKeepsControlLaw : Obligations.StepKeepsControlLaw := fun s t law h => by
  obtain rfl | ⟨c, rest, run⟩ := step_cases h
  · exact law
  · exact (exec_ran run).law law

end Sys2Proof.Machine
end

section
/-! PROOF. The channel records, the desk records and the outputs, command by command: settles O3. -/

namespace Sys2Proof.Machine

/-! ### Channel and desk records -/

/-- The bounds of one desk record: the trim, the compensation and the limited flag (R80, R82). -/
def DeskRecord.lawful (r : DeskRecord) : Prop :=
  (-240 ≤ r.trim ∧ r.trim ≤ 240) ∧ (-400 ≤ r.comp ∧ r.comp ≤ 400) ∧ (r.limited = true ↔ r.comp ≠ r.wanted)

theorem compensationLaw_iff (s : State) : CompensationLaw s ↔ ∀ p c, (s.desk p c).lawful := Iff.rfl

/-- From s to t no channel record has changed outside `cs`, no desk record outside `ds`, and the desk records have kept their
bounds. -/
structure Records (cs : Chan → Bool) (ds : Port → Chan → Bool) (s t : State) : Prop where
  channel : ∀ d, cs d = false → t.channel d = s.channel d
  desk : ∀ p d, ds p d = false → t.desk p d = s.desk p d
  law : CompensationLaw s → CompensationLaw t

section
variable {cs : Chan → Bool} {ds : Port → Chan → Bool} {s t u : State}

theorem Records.refl (s : State) : Records cs ds s s := ⟨fun _ _ => rfl, fun _ _ _ => rfl, id⟩

theorem Records.trans (h : Records cs ds s t) (g : Records cs ds t u) : Records cs ds s u :=
  ⟨fun d hd => (g.channel d hd).trans (h.channel d hd), fun p d hd => (g.desk p d hd).trans (h.desk p d hd), g.law ∘ h.law⟩

theorem Records.ite {c : Prop} [Decidable c] (h : Records cs ds s t) (g : Records cs ds s u) :
    Records cs ds s (if c then t else u) := by split <;> assumption

theorem Records.forEach {α : Type} {f : α → State → State} (h : ∀ a s, Records cs ds s (f a s)) (l : List α) (s : State) :
    Records cs ds s (Machine.forEach f l s) :=
  forEach_keeps (P := Records cs ds s) (fun a t ht => ht.trans (h a t)) l s (.refl s)

/-- What is made for the members of a list alone. -/
theorem Records.forEach_mem {α : Type} {f : α → State → State} {l : List α} (h : ∀ a ∈ l, ∀ s, Records cs ds s (f a s))
    (s : State) : Records cs ds s (Machine.forEach f l s) := by
  induction l generalizing s with
  | nil => exact .refl s
  | cons a l ih => exact (h a (by simp) s).trans (ih (fun b hb => h b (by simp [hb])) _)

theorem Records.whenRunning {f : State → State} (h : Records cs ds s (f s)) : Records cs ds s (Machine.whenRunning f s) := by
  unfold Machine.whenRunning
  exact .ite h (.refl s)

theorem desk_of_desks (h : t.desks = s.desks) (p : Port) (d : Chan) : t.desk p d = s.desk p d := by
  simp only [State.desk, h]

theorem compensationLaw_of_desks (h : t.desks = s.desks) (law : CompensationLaw s) : CompensationLaw t := fun p d => by
  rw [desk_of_desks h]; exact law p d

/-- An operation that reaches neither table. -/
theorem Agree.records {ps : List Part} (h : Agree ps s t) (hc : ps.contains .channels = false)
    (hd : ps.contains .desks = false) : Records cs ds s t := by
  have desks : t.desks = s.desks := h .desks (by simpa using hd)
  have channels : t.channels = s.channels := h .channels (by simpa using hc)
  exact ⟨fun d _ => by simp only [State.channel, channels], fun p d _ => desk_of_desks desks p d,
    compensationLaw_of_desks desks⟩

theorem records_modChannel {c : Chan} (hc : cs c = true) (f : Channel → Channel) (s : State) :
    Records cs ds s (modChannel c f s) := by
  refine ⟨fun d hd => modChannel_channel_ne (fun e => ?_) f s, fun _ _ _ => rfl, id⟩
  rw [← e, hc] at hd
  exact absurd hd (by decide)

theorem records_modDesk {p : Port} {c : Chan} (hd : ds p c = true) {f : DeskRecord → DeskRecord}
    (s : State)
    (hf : ∀ r, r.lawful → (f r).lawful := by exact fun _ h => h) : Records cs ds s (modDesk p c f s) := by
  refine ⟨fun _ _ => rfl, fun q d h => ?_, fun law => (compensationLaw_iff _).2 fun q d => ?_⟩
  · rw [modDesk_desk, if_neg]
    rintro ⟨rfl, rfl⟩
    rw [hd] at h
    exact absurd h (by decide)
  · rw [modDesk_desk]
    split
    · exact hf _ (law p c)
    · exact law q d

end

/-! ### Changes of one desk record -/

theorem lawful_rampTo (k : Nat) {r : DeskRecord} (h : r.lawful) : (r.rampTo k).lawful := (rampTo_eq k r).1 ▸ h

/-- The compensation computed lies in its range, and the limited flag says whether it is the one wanted (R80, R82). -/
theorem lawful_compute (net : Option Int) {r : DeskRecord} (h : r.lawful) : (r.compute net).lawful := by
  refine ⟨h.1, ?_, decide_eq_true_iff⟩
  simp only [DeskRecord.compute, clampInt, Config.maxComp]
  omega

theorem lawful_cleared (net : Option Int) (r : DeskRecord) : (r.cleared net).lawful :=
  by
  refine lawful_rampTo _ ⟨?_, ?_, ?_⟩ <;> simp

theorem lawful_stepTo (k : Nat) {r : DeskRecord} (h : r.lawful) : (r.stepTo k).lawful := h

theorem lawful_stepLater (k : Nat) {r : DeskRecord} (h : r.lawful) : (r.stepLater k).lawful := h

theorem lawful_endRamp {r : DeskRecord} (h : r.lawful) : r.endRamp.lawful := by
  unfold DeskRecord.endRamp
  split
  · split <;> exact h
  · exact h

theorem lawful_nextFrame {r : DeskRecord} (h : r.lawful) : r.nextFrame.lawful := by
  unfold DeskRecord.nextFrame
  split
  · exact h
  · split
    · split <;> exact h
    · exact h

section
variable {cs : Chan → Bool} {ds : Port → Chan → Bool} {p : Port} {c : Chan}

theorem records_limitNotice (hd : ds p c = true) (s : State) : Records cs ds s (limitNotice p c s) :=
  .ite (((agree_postTo p _ s).records rfl rfl).trans (records_modDesk hd _)) (.refl s)

theorem records_computeRecord (hd : ds p c = true) {how : Nat → DeskRecord → DeskRecord}
    (hh : ∀ k r, r.lawful → (how k r).lawful) (s : State) : Records cs ds s (computeRecord how p c s) :=
  (records_modDesk hd s fun _ h => hh _ _ (lawful_compute _ h)).trans (records_limitNotice hd _)

theorem records_applyToRecords (hd : ∀ p, ds p c = true) (s : State) : Records cs ds s (applyToRecords c s) :=
  .forEach (fun p t => records_computeRecord (hd p) (fun k _ => lawful_stepTo k) t) _ _

theorem records_firstNetGain (hd : ∀ p, ds p c = true) (s : State) : Records cs ds s (firstNetGain c s) :=
  .forEach (fun p t => (records_modDesk (hd p) t).trans
    (records_computeRecord (hd p) (fun k _ => lawful_stepLater k) _)) _ _

theorem resetRecords_desk_ne {q : Port} (h : p ≠ q) (d : Chan) (s : State) : (resetRecords p s).desk q d = s.desk q d := by
  simp [State.desk, resetRecords, Bank.get_modify, h]

theorem records_resetRecords (hd : ∀ c, ds p c = true) (s : State) : Records cs ds s (resetRecords p s) := by
  refine ⟨fun _ _ => rfl, fun q d h => resetRecords_desk_ne (fun e => ?_) d s, fun law => (compensationLaw_iff _).2 fun q d => ?_⟩
  · rw [← e, hd] at h
    exact absurd h (by decide)
  · by_cases h : p = q
    · rw [← h, resetRecords_desk]; exact lawful_cleared _ _
    · rw [resetRecords_desk_ne h]; exact law q d

/-! ### Desk requests -/

theorem records_serve {kind : Byte} {owner : Message → State → Served} (h : ∀ m t, Records cs ds t (owner m t).state)
    (s : State) : Records cs ds s (serve p kind owner s) := by
  obtain e | ⟨m, rest, -, -, -, e⟩ := serve_cases p kind owner s <;> rw [e]
  · exact .refl s
  · have served : Records cs ds s (checkAndServe p owner m s).state := by
      unfold checkAndServe
      split
      · exact .refl s
      · split
        · exact .refl s
        · exact h m s
    exact served.trans ((agree_modControl p _ _).trans (agree_modControl p _ _) |>.records rfl rfl)

theorem records_serveTrim (hd : ∀ c, ds p c = true) (m : Message) (s : State) : Records cs ds s (serveTrim p m s).state := by
  have trimmed {x : Int} (hx : -240 ≤ x ∧ x ≤ 240) (c : Chan) (t : State) : Records cs ds t (trimRecord p x c t) :=
    .ite (.refl t) ((records_modDesk (f := fun r => { r with trim := x }) (hd c) t fun _ h => ⟨hx, h.2⟩).trans
      (records_computeRecord (hd c) (fun k _ => lawful_rampTo k) _))
  unfold serveTrim
  split
  · exact .refl s
  · refine .forEach (trimmed ?_) _ _
    simp only [clampInt, Config.maxTrim]
    omega

theorem records_serveTracking (hd : ∀ c, ds p c = true) (m : Message) (s : State) :
    Records cs ds s (serveTracking p m s).state := by
  have tracked (x : Mode) (c : Chan) (t : State) : Records cs ds t (trackRecord p x c t) := by
    have computed (u : State) : Records cs ds u (computeRecord DeskRecord.rampTo p c u) :=
      records_computeRecord (hd c) (fun k _ => lawful_rampTo k) u
    unfold trackRecord
    split
    · exact (records_modDesk (hd c) t).trans (computed _)
    · exact (records_modDesk (hd c) t).trans (computed _)
    · exact .refl t
  unfold serveTracking
  split
  · exact .forEach (tracked _) _ _
  · exact .refl s

theorem records_serveArm (hd : ∀ c, ds p c = true) (m : Message) (s : State) : Records cs ds s (serveArm p m s).state := by
  unfold serveArm
  dsimp only
  split
  · exact .refl s
  · split
    · exact .forEach (fun c t => records_modDesk (hd c) t) _ _
    · exact .refl s

theorem records_serveMeters (hd : ∀ c, ds p c = true) (m : Message) (s : State) :
    Records cs ds s (serveMeters p m s).state := by
  unfold serveMeters
  split
  · exact .refl s
  · split
    · exact .refl s
    · exact .forEach (fun c t => records_modDesk (hd c) t) _ _

theorem records_serveAttach (hd : ∀ c, ds p c = true) (m : Message) (s : State) :
    Records cs ds s (serveAttach p m s).state := by
  have record (f : PortRecord → PortRecord) (t : State) : Records cs ds t (modRecord p f t) :=
    (agree_modRecord p f t).records rfl rfl
  have told (why : PortReason) (t : State) : Records cs ds t (postPort p why t) := (agree_postPort p why t).records rfl rfl
  unfold serveAttach
  dsimp only
  split
  · exact .refl s
  · split
    · have linked (f : PortRecord → PortRecord) (x : Prop) [Decidable x] :
          Records cs ds s (if x then resetRecords p (modRecord p f s) else modRecord p f s) :=
        .ite ((record f s).trans (records_resetRecords hd _)) (record f s)
      exact ((linked _ _).trans ((agree_outputsReturned p _).records rfl rfl)).trans (told _ _)
    · split
      · exact Records.ite (.refl s) ((record _ s).trans (told _ _))
      · have departed : Records cs ds s (departConsent p (removeClaim p .departed s)) :=
          ((agree_removeClaim p _ s).records rfl rfl).trans ((agree_departConsent p _).records rfl rfl)
        exact ((departed.trans (records_resetRecords hd _)).trans (record _ _)).trans (told _ _)

/-! ### Applications and the card bus -/

theorem records_applicationDue (hc : cs c = true) (hd : ∀ p, ds p c = true) (s : State) :
    Records cs ds s (applicationDue c s) := by
  have applied (e : Application) (t : State) : Records cs ds t (applyEntry c e t) := by
    have value := records_modChannel (ds := ds) hc (fun h => { h with applied := some e.value }) t
    have computed (u : State) : Records cs ds u (postApplied c e.author e.due (applyToRecords c u)) :=
      (records_applyToRecords hd u).trans ((agree_postApplied c _ _ _).records rfl rfl)
    unfold applyEntry
    dsimp only
    split
    · next p _ => exact (value.trans (records_modDesk (hd p) _)).trans (computed _)
    · exact value.trans (computed _)
  unfold applicationDue
  split
  · exact .refl s
  · exact Records.ite ((records_modChannel hc _ s).trans (applied _ _)) (.refl s)

theorem records_setCardPhantom (hc : cs c = true) (on : Bool) (s : State) : Records cs ds s (setCardPhantom c on s) :=
  (records_modChannel hc _ s).trans ((agree_modPhantom c _ _).records rfl rfl)

theorem records_changeSetting (hc : cs c = true) (f : Channel → Channel) (s : State) :
    Records cs ds s (changeSetting c f s) := by
  have changed := records_modChannel (ds := ds) hc f s
  have quiet (x : Prop) [Decidable x] : Records cs ds s (if x then modChannel c f s else restartQuiet (modChannel c f s)) :=
    .ite changed (changed.trans ((agree_restartQuiet _).records rfl rfl))
  exact Records.ite (quiet _) ((quiet _).trans ((agree_postSetting c _).records rfl rfl))

theorem records_phantomFaulted (hc : cs c = true) (k : Card) (status : Byte) (s : State) :
    Records cs ds s (phantomFaulted k status c s) := by
  have entered : Records cs ds s (if (s.phantomOf c).state = .off then s else enterPhantom c .off s) :=
    .ite (.refl s) ((agree_enterPhantom c .off s).records rfl rfl)
  have queued {t : State} (h : Records cs ds s t) (x : Prop) [Decidable x] :
      Records cs ds s (if x then queueWrite c t else t) := .ite (h.trans ((agree_queueWrite c t).records rfl rfl)) h
  have set {t : State} (h : Records cs ds s t) (f : Channel → Channel) : Records cs ds s (changeSetting c f t) :=
    h.trans (records_changeSetting hc f t)
  have faulted {t : State} (h : Records cs ds s t) (x : Prop) [Decidable x] (f : PhantomRecord → PhantomRecord) (r : Report) :
      Records cs ds s (if x then t else post r (modPhantom c f t)) :=
    .ite h ((h.trans ((agree_modPhantom c f t).records rfl rfl)).trans ((agree_post r _).records rfl rfl))
  have told {t : State} (h : Records cs ds s t) (x : Prop) [Decidable x] :
      Records cs ds s (if x then t else postPhantom c .fault t) := .ite h (h.trans ((agree_postPhantom c _ t).records rfl rfl))
  exact told (faulted (set (queued entered _) _) _ _ _) _

theorem records_appendApplication (hc : cs c = true) (v : GainPad) (who : Option Port) (s : State) :
    Records cs ds s (appendApplication c v who s) := records_modChannel hc _ s

theorem records_laterReply (hc : cs c = true) (v : GainPad) (s : State) : Records cs ds s (laterReply c v s) :=
  Records.ite (.refl s) ((records_modChannel hc _ s).trans (records_appendApplication hc _ _ _))

theorem records_firstReply (hc : cs c = true) (hd : ∀ p, ds p c = true) (v : GainPad) (s : State) :
    Records cs ds s (firstReply c v s) := by
  have read : Records cs ds s { s with freeReads := s.freeReads + 1 } := ⟨fun _ _ => rfl, fun _ _ _ => rfl, id⟩
  unfold firstReply
  exact ((read.trans (records_modChannel hc _ _)).trans ((agree_postApplied c _ _ _).records rfl rfl)).trans
    (records_firstNetGain hd _)

theorem records_channelReplied (hc : cs c = true) (hd : ∀ p, ds p c = true) (k : Card) (known : Bool) (status : Byte)
    (d : CardChannel) (s : State) : Records cs ds s (channelReplied k known status c d s) := by
  have value : Records cs ds s ((if known then laterReply c (reportedValue d) else firstReply c (reportedValue d)) s) := by
    cases known
    · exact records_firstReply hc hd _ s
    · exact records_laterReply hc _ s
  have phantom := value.trans (records_setCardPhantom hc d.phantomOn _)
  have tested (t : State) : Records cs ds t (writeTest c t) := (agree_writeTest c t).records rfl rfl
  unfold channelReplied
  by_cases h : d.phantomFault = true
  · simp only [h, if_true]
    exact (phantom.trans (records_phantomFaulted hc _ _ _)).trans (tested _)
  · simp only [h]
    exact (phantom.trans ((agree_phantomReported _ c _).records rfl rfl)).trans (tested _)

theorem cardOf_of_mem_channelsOf {k : Card} (h : c ∈ channelsOf k) : cardOf c = k := by
  revert k; revert c; decide +kernel

theorem records_pollReplied {k : Card} (hc : ∀ c, cardOf c = k → cs c = true) (hd : ∀ p c, cardOf c = k → ds p c = true)
    (d : PollData) (s : State) : Records cs ds s (pollReplied k d s) := by
  have freed : Records cs ds s (modCard k (CardRecord.replied s.hubFrame d.status) (freeBus s)) :=
    ((agree_freeBus s).records rfl rfl).trans ((agree_modCard k _ _).records rfl rfl)
  have told (x : Prop) [Decidable x] : Records cs ds s
      (if x then postCard k .replied (modCard k (CardRecord.replied s.hubFrame d.status) (freeBus s))
        else modCard k (CardRecord.replied s.hubFrame d.status) (freeBus s)) :=
    .ite (freed.trans ((agree_postCard k _ _).records rfl rfl)) freed
  have channels (known : Bool) (t : State) : Records cs ds t (forEach
      (fun c => channelReplied k known d.status c (d.channels.get (placeOnCard c))) (channelsOf k) t) :=
    .forEach_mem (fun c hm u => records_channelReplied (hc c (cardOf_of_mem_channelsOf hm))
      (fun p => hd p c (cardOf_of_mem_channelsOf hm)) _ _ _ _ u) t
  unfold pollReplied
  split
  · exact Records.ite ((((told _).trans (channels _ _)).trans ((agree_modCard k _ _).records rfl rfl)).trans
      ((agree_startQueued _).records rfl rfl)) (.refl s)
  · exact .refl s

theorem records_writeAcked (hc : cs c = true) (k : Card) (s : State) : Records cs ds s (writeAcked k c s) := by
  have taken (v : GainPad) (phantom : Bool) (author : Option Port) : Records cs ds s (takeWriteAck c v phantom author s) := by
    have freed : Records cs ds s (modCard (cardOf c) (fun r => { r with timeouts := 0 }) (freeBus s)) :=
      ((agree_freeBus s).records rfl rfl).trans ((agree_modCard (cardOf c) _ _).records rfl rfl)
    have appended (x : Prop) [Decidable x] : Records cs ds s
        (if x then modCard (cardOf c) (fun r => { r with timeouts := 0 }) (freeBus s)
          else appendApplication c v author (modCard (cardOf c) (fun r => { r with timeouts := 0 }) (freeBus s))) :=
      .ite freed (freed.trans (records_appendApplication hc v author _))
    exact (((appended _).trans (records_modChannel hc _ _)).trans (records_setCardPhantom hc phantom _)).trans
      ((agree_settleEntry c _).records rfl rfl)
  unfold writeAcked
  split
  · exact Records.ite (taken _ _ _) (.refl s)
  · exact .refl s

end

end Sys2Proof.Machine
end

section
/-! PROOF. The record tables, command by command: settles O3. -/

namespace Sys2Proof.Machine

/-! ### Changed settings and carried proposals -/

/-- What the effects of changed settings may reach; the settings themselves are not among it (R55). -/
def touchedBySettings : List Part :=
  [.clock, .ports, .talk, .consent, .outputs, .phantom, .startQueue, .supplyGuard, .bus]

theorem agree_settingEffects_narrow (old : Settings) (s : State) : Agree touchedBySettings s (settingEffects old s) := by
  unfold settingEffects
  refine Agree.ite (Agree.refl s) ?_
  refine Agree.trans ?_ (agree_whenChanged (agree_recomputeStage _).mono)
  refine Agree.trans ?_ (agree_whenChanged (agree_resortTalk _).mono)
  refine Agree.trans ?_ (agree_whenChanged (agree_testHead _).mono)
  refine Agree.trans ?_ (agree_whenChanged (agree_endTransitions _).mono)
  refine Agree.trans ?_ (agree_whenChanged (agree_sourceChanged _).mono)
  refine Agree.trans ?_ (agree_whenChanged (agree_expireHolds _).mono)
  refine Agree.trans ?_ (agree_whenChanged (agree_qualifyAll _).mono)
  exact (agree_post _ _).mono

theorem changeSettings_settings (h : Settings) (s : State) : (changeSettings h s).settings = h :=
  agree_settingEffects_narrow s.settings { s with settings := h } .settings (by decide)

theorem changeSettings_rate (h : Settings) (s : State) : (changeSettings h s).rate = s.rate :=
  agree_settingEffects_narrow s.settings { s with settings := h } .rate (by decide)

section
variable {cs : Chan → Bool} {ds : Port → Chan → Bool}

theorem records_changeSettings (h : Settings) (s : State) : Records cs ds s (changeSettings h s) :=
  .trans (t := { s with settings := h }) ⟨fun _ _ => rfl, fun _ _ _ => rfl, id⟩
    ((agree_settingEffects_narrow _ _).records rfl rfl)

theorem records_carryReset (hd : ∀ p c, ds p c = true) (pr : Proposal) (s : State) :
    Records cs ds s (carryReset pr s) := by
  have plans : Records cs ds s { s with ports := s.ports.each fun u =>
      { u with control := u.control.emptyReports, plan := defaultPlan s.rate } } := ⟨fun _ _ => rfl, fun _ _ _ => rfl, id⟩
  unfold carryReset
  exact ((((plans.trans (.forEach (fun p t => records_resetRecords (hd p) t) _ _)).trans
    ((agree_resetOutputs _).records rfl rfl)).trans ((agree_emptyTalk _).records rfl rfl)).trans
    (records_changeSettings _ _)).trans ((agree_post _ _).records rfl rfl)

theorem records_carry (hc : ∀ c, cs c = true) (hd : ∀ p c, ds p c = true) (pr : Proposal) (s : State) :
    Records cs ds s (carry pr s) := by
  have ended : Records cs ds s (endProposal pr .carried s) := (agree_endProposal pr _ s).records rfl rfl
  have told (r : Report) : Records cs ds s (post r (endProposal pr .carried s)) :=
    ended.trans ((agree_post r _).records rfl rfl)
  unfold carry
  dsimp only
  split
  · exact (told _).trans ((agree_carryRate _ pr _).records rfl rfl)
  · exact (told _).trans (.forEach (fun c t => records_changeSetting (hc c) _ t) _ _)
  · exact ended.trans (records_carryReset hd pr _)

theorem records_testWindow (hc : ∀ c, cs c = true) (hd : ∀ p c, ds p c = true) (s : State) :
    Records cs ds s (testWindow s) := by
  unfold testWindow
  split
  · exact Records.ite (records_carry hc hd _ s) (.refl s)
  · exact .refl s

theorem records_serveSetHub (hc : ∀ c, cs c = true) (hd : ∀ p c, ds p c = true) (m : Message) (s : State) :
    Records cs ds s (serveSetHub m s).state := by
  unfold serveSetHub
  split
  · exact .refl s
  · exact (records_changeSettings _ s).trans (Records.ite (.refl _) (records_testWindow hc hd _))

theorem records_servePropose (hc : ∀ c, cs c = true) (hd : ∀ p c, ds p c = true) (p : Port) (m : Message) (s : State) :
    Records cs ds s (servePropose p m s).state := by
  have opened (f : Consent → Consent) : Records cs ds s (modConsent f s) := (agree_modConsent f s).records rfl rfl
  unfold servePropose
  dsimp only
  split
  · exact .refl s
  · split
    · exact .refl s
    · split
      · exact .refl s
      · split
        · exact (opened _).trans (records_carry hc hd _ _)
        · exact (opened _).trans
            ((Agree.forEach (fun _ t => Agree.ite (agree_postTo _ _ _) (.refl t)) _ _).records (ps := [.ports]) rfl rfl)

/-! ### Frame periods and power-on -/

theorem records_judgeChannel (hd : ∀ p c, ds p c = true) (p : Port) (c : Chan) (s : State) :
    Records cs ds s (judgeChannel p c s) := by
  have noticed (slots : List Slot) (t : State) : Records cs ds t (clipNotice p c slots t) := by
    unfold clipNotice
    split
    · exact .refl t
    · exact Records.ite (((agree_postTo p _ t).records rfl rfl).trans (records_modDesk (hd p c) _)) (.refl t)
  exact (records_modDesk (hd p c) s).trans (noticed _ _)

theorem records_sendFrame (hd : ∀ p c, ds p c = true) (n : Nat) (p : Port) (s : State) :
    Records cs ds s (sendFrame n p s) :=
  (Records.forEach (fun i t => records_judgeChannel hd p (chanNumbered i) t) _ s).trans
    ((agree_modPort p _ _).records rfl rfl)

theorem records_startFrame (hd : ∀ p c, ds p c = true) (s : State) : Records cs ds s (startFrame s) := by
  have ticked (t : State) : Records cs ds t (tickFrame t) := by
    refine ⟨fun _ _ => rfl, fun p d h => absurd (hd p d) (by simp [h]), fun law => (compensationLaw_iff _).2 fun p d => ?_⟩
    have moved : (tickFrame t).desk p d = (t.desk p d).nextFrame := by simp [State.desk, tickFrame]
    rw [moved]
    exact lawful_nextFrame (law p d)
  have sent (n : Nat) : Records cs ds s (sendFrames n s) := .forEach (records_sendFrame hd n) _ s
  refine .ite (.refl s) (.trans (t := if s.begun then tickFrame (sendFrames _ s) else sendFrames _ s) ?_
    ⟨fun _ _ => rfl, fun _ _ _ => rfl, id⟩)
  exact .ite ((sent _).trans (ticked _)) (sent _)

theorem compensationLaw_powerOn (s : State) : CompensationLaw (powerOn s) := by
  have desks : (powerOn s).desks = Bank.const 3 (Bank.const 64 DeskRecord.reset) := by
    cases h : s.resetInput
    · rw [powerOn_released h]; rfl
    · rw [show powerOn s = holdReset (powerOnState { s with retained := s.retained.cut }) from if_pos h]; rfl
  intro p c
  have reset : (powerOn s).desk p c = DeskRecord.reset := by simp [State.desk, desks]
  rw [reset]
  decide

theorem records_powerOnReset (hc : ∀ c, cs c = true) (hd : ∀ p c, ds p c = true) (cause : ResetCause) (s : State) :
    Records cs ds s (powerOnReset cause s) := by
  refine ⟨fun d h => absurd (hc d) (by simp [h]), fun p d h => absurd (hd p d) (by simp [h]), fun law => ?_⟩
  cases cause with
  | supplies => exact compensationLaw_powerOn s
  | release =>
    show CompensationLaw (releaseReset s)
    unfold releaseReset
    split
    · dsimp only
      split
      · exact law
      · exact compensationLaw_powerOn _
    · exact law

end

/-! ### What each command does to the record tables -/

theorem exec_records {c : Instr} {s t : State} (h : exec c s = .next t) :
    Records (touchesChannel c) (touchesDesk c) s t := by
  have agree := exec_outside h
  have ran {u : State} (e : exec c s = .next u) (r : Records (touchesChannel c) (touchesDesk c) s u) :
      Records (touchesChannel c) (touchesDesk c) s t := exec_unique e h ▸ r
  have outside (hc : ∀ d, touchesChannel c d = (footprint c).contains .channels)
      (hd : (footprint c).contains .desks = false) : Records (touchesChannel c) (touchesDesk c) s t := by
    have desks : t.desks = s.desks := agree .desks (by simpa using hd)
    refine ⟨fun d h => ?_, fun p d _ => desk_of_desks desks p d, compensationLaw_of_desks desks⟩
    have channels : t.channels = s.channels := agree .channels (by simpa [hc] using h)
    simp only [State.channel, channels]
  cases c with
  | powerOnReset cause => exact ran rfl (records_powerOnReset (fun _ => rfl) (fun _ _ => rfl) cause s)
  | downstreamFrame => exact ran rfl (records_startFrame (fun _ _ => rfl) s).whenRunning
  | attach p => exact ran rfl (records_serve (fun m t => records_serveAttach (fun _ => decide_eq_true rfl) m t) s).whenRunning
  | setHub p => exact ran rfl (records_serve (records_serveSetHub (fun _ => rfl) (fun _ _ => rfl)) s).whenRunning
  | propose p => exact ran rfl (records_serve (records_servePropose (fun _ => rfl) (fun _ _ => rfl) p) s).whenRunning
  | consentWindowExpired => exact ran rfl (records_testWindow (fun _ => rfl) (fun _ _ => rfl) s).whenRunning
  | setTrim p => exact ran rfl (records_serve (records_serveTrim fun _ => decide_eq_true rfl) s).whenRunning
  | setTracking p => exact ran rfl (records_serve (records_serveTracking fun _ => decide_eq_true rfl) s).whenRunning
  | armNotices p => exact ran rfl (records_serve (records_serveArm fun _ => decide_eq_true rfl) s).whenRunning
  | readMeters p => exact ran rfl (records_serve (records_serveMeters fun _ => decide_eq_true rfl) s).whenRunning
  | pollReply k d =>
    exact ran rfl (records_pollReplied (fun _ => decide_eq_true) (fun _ _ => decide_eq_true) d s).whenRunning
  | writeAck k d => exact ran rfl (records_writeAcked (decide_eq_true rfl) k s).whenRunning
  | applicationDue d => exact ran rfl (records_applicationDue (decide_eq_true rfl) (fun _ => decide_eq_true rfl) s).whenRunning
  | coefficientRampEnd p d =>
    refine ran rfl (records_modDesk ?_ s fun _ => lawful_endRamp).whenRunning
    simp [touchesDesk]
  | _ => exact outside (fun _ => rfl) rfl

/-! ### Outputs -/

/-- A command leaves the outputs it is not made for as they are. -/
theorem exec_output {c : Instr} {s t : State} (h : exec c s = .next t) {o : OutNo} (ho : touchesOutput c o = false) :
    t.output o = s.output o := by
  have agree := exec_outside h
  have outside (out : (footprint c).contains .outputs = false) : t.output o = s.output o := by
    have outputs : t.outputs = s.outputs := agree .outputs (by simpa using out)
    simp only [State.output, outputs]
  have on {n : OutNo} {f : State → State} (e : exec c s = .next (whenRunning f s)) (hn : n ≠ o) (hf : OnOutput n s (f s)) :
      t.output o = s.output o := by
    rw [exec_unique h e]
    unfold whenRunning
    split
    · exact hf.others o hn
    · rfl
  cases c with
  | delayExpired n => exact on rfl (Ne.symm (of_decide_eq_false ho)) (onOutput_expireDelay n s)
  | crossfadeEnd n => exact on rfl (Ne.symm (of_decide_eq_false ho)) (onOutput_modOutput n _ s)
  | dimRampEnd n => exact on rfl (Ne.symm (of_decide_eq_false ho)) (onOutput_modOutput n _ s)
  | _ => exact outside ho

/-- Settles O3, from what each command does to the units of the ports, to the record tables and to the outputs. -/
theorem commandsLeaveOtherRecordsAlone : Obligations.CommandsLeaveOtherRecordsAlone := fun _ _ _ h =>
  ⟨(exec_ran h).stands, (exec_records h).channel, (exec_records h).desk, fun _ => exec_output h⟩

end Sys2Proof.Machine
end

section
/-! PROOF. The ranges of settings, trims, compensations and slot plans: settles O13. -/

namespace Sys2Proof.Machine

/-! ### The settings that a SET HUB asks for (R54, R55) -/

/-- The ranges of the hub settings (R54). -/
def Settings.lawful (h : Settings) : Prop :=
  h.converterDelay ≤ 63 ∧ (1 ≤ h.rampTime ∧ h.rampTime ≤ 20) ∧ (2 ≤ h.settleTime ∧ h.settleTime ≤ 30) ∧
    (1 ≤ h.consentWindow ∧ h.consentWindow ≤ 30) ∧ (5 ≤ h.liveLimit ∧ h.liveLimit ≤ 120) ∧ h.priority.Perm [0, 1, 2] ∧
    (1 ≤ h.lossHold ∧ h.lossHold ≤ 20) ∧ (1 ≤ h.qualifyTime ∧ h.qualifyTime ≤ 1000)

theorem settingsLaw_iff (s : State) : SettingsLaw s ↔ s.settings.lawful := Iff.rfl

theorem Settings.lawful_reset : Settings.reset.lawful := by unfold Settings.lawful; decide

/-- A field of SET HUB stays in its range: it is clamped into it, or the setting in force. -/
theorem hubField_between {lo hi now : Nat} (hr : lo ≤ hi) (hn : lo ≤ now ∧ now ≤ hi) (b : List Byte) (bit n : Nat) :
    lo ≤ (hubField b bit lo hi n now).1 ∧ (hubField b bit lo hi n now).1 ≤ hi := by
  rw [hubField_fst]
  split <;> omega

theorem orderGiven_perm {b : List Byte} {order : List Port} (h : orderGiven b = some order) : order.Perm [0, 1, 2] := by
  have distinct : ∀ x y z : Port, x ≠ y ∧ y ≠ z ∧ x ≠ z → [x, y, z].Perm [0, 1, 2] := by decide
  unfold orderGiven at h
  split at h
  · next x y z _ _ _ =>
    split at h
    · next hne =>
      injection h with e
      exact e ▸ distinct x y z hne
    · cases h
  · cases h

theorem settingsGiven_lawful {b : List Byte} {h k : Settings} {clamped : Bool} (hl : h.lawful)
    (hk : settingsGiven b h = some (k, clamped)) : k.lawful := by
  obtain ⟨delay, ramp, settle, window, limit, priority, hold, qual⟩ := hl
  unfold settingsGiven at hk
  split at hk
  · next order source ho _ =>
    injection hk with e
    injection e with e _
    subst e
    have named : order.Perm [0, 1, 2] := by
      unfold whenSet at ho
      split at ho
      · exact orderGiven_perm ho
      · injection ho with e
        exact e ▸ priority
    exact ⟨(hubField_between (Nat.zero_le _) ⟨Nat.zero_le _, delay⟩ _ _ _).2, hubField_between (by decide) ramp _ _ _,
      hubField_between (by decide) settle _ _ _, hubField_between (by decide) window _ _ _,
      hubField_between (by decide) limit _ _ _, named, hubField_between (by decide) hold _ _ _,
      hubField_between (by decide) qual _ _ _⟩
  · cases hk

/-! ### Truncated plans (R114, R121) -/

/-- The windows of a plan lie in their ranges (R112). -/
def Plan.inRanges (p : Plan) : Prop := (∀ w, p.mic = some w → w.within 64) ∧ ∀ w, p.ret = some w → w.within 96

theorem planLaw_iff (s : State) : PlanLaw s ↔
    ∀ p, (s.port p).plan.inRanges ∧ (s.port p).plan.total ≤ Config.capacity s.rate := by
  constructor
  · intro h p
    obtain ⟨mic, ret, total⟩ := h p
    exact ⟨⟨mic, ret⟩, total⟩
  · intro h p
    obtain ⟨⟨mic, ret⟩, total⟩ := h p
    exact ⟨mic, ret, total⟩

/-- A window cut to its first n members has n members and stays in its range (R113, R121). -/
theorem Window.cutTo_within {top n : Nat} {w : Window} (hw : w.within top) (h1 : 1 ≤ n) (hn : n ≤ w.length top) :
    (w.cutTo top n).within top ∧ (w.cutTo top n).length top = n := by
  obtain ⟨hs, hs', he, he'⟩ := hw
  have wraps : (w.start + n - 2) % top = if w.start + n - 2 < top then w.start + n - 2 else w.start + n - 2 - top := by
    have short : n ≤ top := by unfold Window.length at hn; split at hn <;> omega
    split
    · next h => exact Nat.mod_eq_of_lt h
    · next h => rw [Nat.mod_eq_sub_mod (by omega), Nat.mod_eq_of_lt (by omega)]
  have hn' : n ≤ if w.start ≤ w.stop then w.stop - w.start + 1 else (top - w.start + 1) + w.stop := hn
  simp only [Window.within, Window.length, Window.cutTo, wraps]
  split at hn' <;> split <;> split <;> omega

/-- A window that may be none, cut by e from its end. -/
theorem cutWindow_within {top : Nat} (e : Nat) {x : Option Window} (hx : ∀ w, x = some w → w.within top) :
    (∀ w, cutWindow top e x = some w → w.within top) ∧ windowLength top (cutWindow top e x) = windowLength top x - e := by
  cases x with
  | none => exact ⟨fun w h => (by cases h), (Nat.zero_sub e).symm⟩
  | some w =>
    by_cases he : e < w.length top
    · rw [show cutWindow top e (some w) = some (w.cutTo top (w.length top - e)) from if_pos he]
      obtain ⟨hw, hl⟩ := Window.cutTo_within (hx w rfl) (n := w.length top - e) (by omega) (by omega)
      exact ⟨fun v hv => by injection hv with hv; exact hv ▸ hw, hl⟩
    · rw [show cutWindow top e (some w) = none from if_neg he]
      exact ⟨fun v hv => (by cases hv), (Nat.sub_eq_zero_of_le (Nat.le_of_not_lt he)).symm⟩

theorem Plan.truncate_lawful {p : Plan} (h : p.inRanges) (cap : Nat) :
    (p.truncate cap).inRanges ∧ (p.truncate cap).total ≤ cap := by
  unfold Plan.truncate
  dsimp only
  split
  · next he => exact ⟨h, by omega⟩
  · obtain ⟨retIn, retLength⟩ := cutWindow_within (p.total - cap) h.2
    obtain ⟨micIn, micLength⟩ := cutWindow_within (p.total - cap - p.retLength) h.1
    unfold Plan.total Plan.micLength Plan.retLength at *
    split
    · exact ⟨⟨micIn, retIn⟩, by dsimp only; omega⟩
    · exact ⟨⟨h.1, retIn⟩, by dsimp only; omega⟩

theorem defaultPlan_lawful (r : Rate) : (defaultPlan r).inRanges ∧ (defaultPlan r).total ≤ Config.capacity r := by
  refine ⟨⟨fun w h => ?_, fun w h => by cases h⟩, by cases r <;> decide⟩
  cases h
  cases r <;> unfold Window.within <;> decide

theorem windowGiven_within {top presence start stop : Nat} {x : Option Window}
    (h : windowGiven top presence start stop = some x) : ∀ w, x = some w → w.within top := by
  unfold windowGiven at h
  split at h
  · injection h with e
    subst e
    intro w hw
    cases hw
  · split at h
    · next hw =>
      injection h with e
      subst e
      intro w e
      injection e with e
      subst e
      exact hw.2
    · cases h

/-! ### A RATE change (R120, R121) -/

theorem elsewhere_truncatePlan (q : Port) (s : State) : Elsewhere q s (truncatePlan q s) :=
  .ite (.refl q s) ((elsewhere_modPort q _ s).trans (elsewhere_postTo q _ _))

@[simp] theorem postTo_plan (p q : Port) (r : Report) (s : State) : ((postTo p r s).port q).plan = (s.port q).plan := by
  unfold postTo
  split
  · rfl
  · rw [modControl_port]
    split
    · next e => subst e; rfl
    · rfl

theorem truncatePlan_plan (q : Port) (s : State) :
    ((truncatePlan q s).port q).plan = (s.port q).plan.truncate (Config.capacity s.rate) := by
  unfold truncatePlan
  dsimp only
  split
  · next e => exact e.symm
  · simp

theorem truncatePlan_rate (q : Port) (s : State) : (truncatePlan q s).rate = s.rate :=
  agree_truncatePlan q s .rate (by decide)

/-- At a new rate every plan is truncated to the capacity of that rate. -/
theorem changeRate_plan (r : Rate) (s : State) (q : Port) :
    ((changeRate r s).port q).plan = (s.port q).plan.truncate (Config.capacity r) := by
  obtain ⟨t, rate, port, e⟩ := forEach_port (P := fun t => t.rate = r) elsewhere_truncatePlan
    (fun q t _ ht => (truncatePlan_rate q t).trans ht) (nodup_indexes 3) (mem_indexes q)
    (s := { s with rate := r, rateMute := some Config.rateMute }) rfl
  have plan : ((changeRate r s).port q).plan = ((truncatePlan q t).port q).plan := congrArg PortUnit.plan e
  rw [plan, truncatePlan_plan, rate, port]
  rfl

theorem changeRate_rate (r : Rate) (s : State) : (changeRate r s).rate = r :=
  forEach_keeps (P := fun t => t.rate = r) (fun q t ht => (truncatePlan_rate q t).trans ht) _ _ rfl

/-! ### What keeps the law of the plans -/

section
variable {p : Port} {own others : List PortPart} {s t u : State}

theorem planLaw_of_plans (hr : t.rate = s.rate) (hp : ∀ q, (t.port q).plan = (s.port q).plan) (law : PlanLaw s) :
    PlanLaw t := by
  rw [planLaw_iff] at law ⊢
  intro q
  rw [hr, hp]
  exact law q

theorem Moves.planLaw (h : Moves p own others s t) (hr : t.rate = s.rate) (ho : PortPart.plan ∉ own)
    (hq : PortPart.plan ∉ others) (law : PlanLaw s) : PlanLaw t :=
  planLaw_of_plans hr (fun q => h.stands q .plan (by split <;> assumption)) law

/-- What only offers reports keeps the plans. -/
theorem Offers.planLaw {ks : List Nat} (h : Offers ks s t) (hr : t.rate = s.rate) (law : PlanLaw s) : PlanLaw t :=
  (h.moves (p := 0)).planLaw hr (by decide) (by decide) law

theorem planLaw_carryRate (r : Rate) (pr : Proposal) (s : State) (law : PlanLaw s) : PlanLaw (carryRate r pr s) := by
  have changed : PlanLaw (changeRate r s) := by
    rw [planLaw_iff] at law ⊢
    intro q
    rw [changeRate_plan, changeRate_rate]
    exact Plan.truncate_lawful (law q).1 _
  have told (x : Rate) (t : State) : Offers [19] t (post (.rate r x pr.number pr.proposer) (postSetRate r t)) :=
    ((agree_postSetRate r t).offers rfl).trans (offers_post _ _ rfl)
  have rate (x : Rate) (t : State) : (post (.rate r x pr.number pr.proposer) (postSetRate r t)).rate = t.rate := rfl
  exact (told _ _).planLaw (rate _ _) changed

/-- The unit of a port whose report queue a RESET has emptied and whose plan has its default (R160, steps 1 and 2). -/
def PortUnit.clearedAt (r : Rate) (u : PortUnit) : PortUnit :=
  { u with control := u.control.emptyReports, plan := defaultPlan r }

/-- The state of a RESET whose plans have their defaults. -/
def plansReset (s : State) : State := { s with ports := s.ports.each (PortUnit.clearedAt s.rate) }

/-- The state of a RESET whose records have been reset too (R160, step 3). -/
def recordsReset (s : State) : State := forEach resetRecords (indexes 3) (plansReset s)

/-- The state of a RESET before its settings change: plans, records, outputs and talk have their defaults (R160). -/
def clearedByReset (s : State) : State := emptyTalk (resetOutputs (recordsReset s))

theorem carryReset_eq (pr : Proposal) (s : State) : carryReset pr s =
    post (.hubResetDone pr.number pr.proposer)
      (changeSettings { Settings.reset with source := s.settings.source } (clearedByReset s)) := rfl

theorem agree_recordsReset (s : State) : Agree [.desks] (plansReset s) (recordsReset s) :=
  Agree.forEach agree_resetRecords (indexes 3) _

theorem agree_clearedByReset (s : State) : Agree [.desks, .outputs, .talk] (plansReset s) (clearedByReset s) :=
  ((agree_recordsReset s).mono.andThen (agree_resetOutputs _)).andThen (agree_emptyTalk _)

theorem plansReset_port (s : State) (q : Port) : (plansReset s).port q = (s.port q).clearedAt s.rate := Bank.get_each _ _ q

theorem clearedByReset_port (s : State) (q : Port) : (clearedByReset s).port q = (s.port q).clearedAt s.rate := by
  have ports : (clearedByReset s).ports = (plansReset s).ports := agree_clearedByReset s .ports (by decide)
  rw [State.port, ports]
  exact plansReset_port s q

theorem planLaw_carryReset (pr : Proposal) (s : State) : PlanLaw (carryReset pr s) := by
  have cleared : PlanLaw (clearedByReset s) := by
    rw [planLaw_iff]
    intro q
    rw [clearedByReset_port, show (clearedByReset s).rate = s.rate from agree_clearedByReset s .rate (by decide)]
    exact defaultPlan_lawful s.rate
  rw [carryReset_eq]
  exact (offers_post (ks := [21]) (.hubResetDone pr.number pr.proposer) _ rfl).planLaw rfl
    ((moves_changeSettings 0 _ _).planLaw (changeSettings_rate _ _) (by decide) (by decide) cleared)

/-! ### Carried proposals and SET HUB keep both laws -/

theorem planLaw_carry (pr : Proposal) (s : State) (law : PlanLaw s) : PlanLaw (carry pr s) := by
  have told : PlanLaw (post (.consentEnded pr.number pr.action pr.proposer .carried none none) (endProposal pr .carried s)) :=
    (offers_post (ks := [18]) (.consentEnded _ _ _ _ _ _) _ rfl).planLaw rfl (planLaw_of_plans rfl (fun _ => rfl) law)
  unfold carry
  dsimp only
  split
  · exact planLaw_carryRate _ pr _ told
  · exact (offers_carryGrant _ _ pr _).planLaw (agree_carryGrant _ _ pr _ .rate (by decide)) told
  · exact planLaw_carryReset pr _

theorem settingsLaw_carry (pr : Proposal) (s : State) (law : SettingsLaw s) : SettingsLaw (carry pr s) := by
  have same {t : State} (h : t.settings = s.settings) : SettingsLaw t := by
    rw [settingsLaw_iff, h]
    exact law
  unfold carry
  dsimp only
  split
  · exact same (agree_carryRate _ pr _ .settings (by decide))
  · exact same (agree_carryGrant _ _ pr _ .settings (by decide))
  · rw [settingsLaw_iff, carryReset_eq]
    show (changeSettings _ _).settings.lawful
    rw [changeSettings_settings]
    exact Settings.lawful_reset

/-- From s to t the law of the settings is kept, and the law of the plans. -/
structure KeepsRanges (s t : State) : Prop where
  settings : SettingsLaw s → SettingsLaw t
  plans : PlanLaw s → PlanLaw t

theorem KeepsRanges.refl (s : State) : KeepsRanges s s := ⟨id, id⟩

theorem KeepsRanges.trans (h : KeepsRanges s t) (g : KeepsRanges t u) : KeepsRanges s u :=
  ⟨g.settings ∘ h.settings, g.plans ∘ h.plans⟩

theorem KeepsRanges.ite {c : Prop} [Decidable c] (h : KeepsRanges s t) (g : KeepsRanges s u) :
    KeepsRanges s (if c then t else u) := by split <;> assumption

/-- What leaves the settings, the rate and the plans as they are. -/
theorem keepsRanges_of_same (hs : t.settings = s.settings) (hr : t.rate = s.rate)
    (hp : ∀ q, (t.port q).plan = (s.port q).plan) : KeepsRanges s t :=
  ⟨fun law => by rw [settingsLaw_iff, hs]; exact law, planLaw_of_plans hr hp⟩

theorem keepsRanges_carry (pr : Proposal) (s : State) : KeepsRanges s (carry pr s) :=
  ⟨settingsLaw_carry pr s, planLaw_carry pr s⟩

theorem keepsRanges_testWindow (s : State) : KeepsRanges s (testWindow s) := by
  unfold testWindow
  split
  · exact .ite (keepsRanges_carry _ s) (.refl s)
  · exact .refl s

theorem keepsRanges_serveSetHub (m : Message) (s : State) : KeepsRanges s (serveSetHub m s).state := by
  unfold serveSetHub
  split
  · exact .refl s
  · next h clamped given =>
    have changed : KeepsRanges s (changeSettings h s) := by
      refine ⟨fun law => ?_, (moves_changeSettings 0 h s).planLaw (changeSettings_rate h s) (by decide) (by decide)⟩
      rw [settingsLaw_iff, changeSettings_settings]
      exact settingsGiven_lawful law given
    exact changed.trans (.ite (.refl _) (keepsRanges_testWindow _))

theorem keepsRanges_servePropose (p : Port) (m : Message) (s : State) : KeepsRanges s (servePropose p m s).state := by
  have opened (f : Consent → Consent) : KeepsRanges s (modConsent f s) := keepsRanges_of_same rfl rfl fun _ => rfl
  have asked (pr : Proposal) (t : State) : KeepsRanges t (askVoters pr t) := by
    have agree : Agree [.ports] t (askVoters pr t) :=
      Agree.forEach (fun _ u => Agree.ite (agree_postTo _ _ _) (.refl u)) _ _
    exact keepsRanges_of_same (agree .settings (by decide)) (agree .rate (by decide))
      fun q => ((offers_askVoters pr t).moves (p := 0)).stands q .plan (by split <;> decide)
  unfold servePropose
  dsimp only
  split
  · exact .refl s
  · split
    · exact .refl s
    · split
      · exact .refl s
      · split
        · exact (opened _).trans (keepsRanges_carry _ _)
        · exact (opened _).trans (asked _ _)

theorem keepsRanges_servePlan (p : Port) (m : Message) (s : State) : KeepsRanges s (servePlan p m s).state := by
  unfold servePlan
  split
  · next mic ret hm hr =>
    dsimp only
    split
    · next fits =>
      refine ⟨id, fun law => (planLaw_iff _).2 fun q => ?_⟩
      simp only [taken, modPort_port, modPort_rate]
      split
      · exact ⟨⟨windowGiven_within hm, windowGiven_within hr⟩, of_decide_eq_true fits⟩
      · exact (planLaw_iff s).1 law q
    · exact .refl s
  · exact .refl s

/-- A request is served with the laws kept where its owner keeps them. -/
theorem keepsRanges_serve {kind : Byte} {owner : Message → State → Served}
    (h : ∀ m t, KeepsRanges t (owner m t).state) (s : State) : KeepsRanges s (serve p kind owner s) := by
  have queued (f : Control → Control) (t : State) : KeepsRanges t (modControl p f t) := by
    refine keepsRanges_of_same rfl rfl fun q => ?_
    rw [modControl_port]
    split
    · next e => rw [← e]
    · rfl
  obtain e | ⟨m, rest, -, -, -, e⟩ := serve_cases p kind owner s <;> rw [e]
  · exact .refl s
  · have served : KeepsRanges s (checkAndServe p owner m s).state := by
      unfold checkAndServe
      split
      · exact .refl s
      · split
        · exact .refl s
        · exact h m s
    exact (served.trans (queued _ _)).trans (queued _ _)

theorem keepsRanges_powerOn (r s : State) : KeepsRanges r (powerOn s) := by
  have reset : (powerOn s).settings = Settings.reset ∧ (powerOn s).rate = .single := by
    cases h : s.resetInput
    · rw [powerOn_released h]; exact ⟨rfl, rfl⟩
    · rw [show powerOn s = holdReset (powerOnState { s with retained := s.retained.cut }) from if_pos h]; exact ⟨rfl, rfl⟩
  refine ⟨fun _ => ?_, fun _ => (planLaw_iff _).2 fun q => ?_⟩
  · rw [settingsLaw_iff, reset.1]
    exact Settings.lawful_reset
  · have plan : ((powerOn s).port q).plan = defaultPlan .single := by
      rw [powerOn_port]
      split <;> rfl
    rw [reset.2, plan]
    exact defaultPlan_lawful .single

theorem keepsRanges_powerOnReset (cause : ResetCause) (s : State) : KeepsRanges s (powerOnReset cause s) := by
  cases cause with
  | supplies => exact keepsRanges_powerOn s s
  | release => exact .ite (.ite (keepsRanges_of_same rfl rfl fun _ => rfl) (keepsRanges_powerOn s _)) (.refl s)

end

/-! ### Every command -/

/-- SET PLAN and the commands that may change the settings or the rate. -/
def reachesRanges : Instr → Bool
  | .powerOnReset _ | .setHub _ | .propose _ | .consentWindowExpired | .setPlan _ => true
  | _ => false

theorem plan_notMem_portFootprint {c : Instr} (h : reachesRanges c = false) (q : Port) :
    PortPart.plan ∉ portFootprint c q := by
  have lane (n : LaneName) : PortPart.plan ≠ lanePart n := by cases n <;> decide
  have own {p : Port} {parts : List PortPart} (h : PortPart.plan ∉ parts) : PortPart.plan ∉ if p = q then parts else [] := by
    split
    · exact h
    · exact List.not_mem_nil
  have reports {p : Port} {parts : List PortPart} (h : PortPart.plan ∉ parts) : PortPart.plan ∉ atPort p q parts := by
    unfold atPort
    split
    · exact List.not_mem_cons_of_ne_of_not_mem (by decide) h
    · decide
  cases c
  case powerOnReset | setHub | propose | consentWindowExpired | setPlan => exact absurd h (by simp [reachesRanges])
  case clearLaneCounters p => dsimp only [portFootprint]; split <;> decide
  case upstreamFrame => exact reports (by simp [lane])
  case badSync => exact own (by simp [lane])
  case lightLost | lightReturned | acquired | syncLost | qualified | laneDrop => exact reports (by simp [lane, vacating])
  case holdExpired | detach | attach | setGain | stepGain | setPad | setAuthority | setPhantom | patchOutput | setOutput | talkOn
      | withdraw | talkOff | object => exact reports (by decide)
  case playoutMuteEnd | assemblyTimeout | readPort | readLanes | readHub | readChannels | readCards | readMeters | readPlan
      | readOutputs | readTalk | readConsent | unknownRequest | setTrim | setTracking | armNotices => exact own (by decide)
  all_goals simp [portFootprint, vacating]

theorem exec_keepsRanges {c : Instr} {s t : State} (h : exec c s = .next t) : KeepsRanges s t := by
  have ran {u : State} (e : exec c s = .next u) (hu : KeepsRanges s u) : KeepsRanges s t :=
    exec_unique e h ▸ hu
  have running {f : State → State} (hf : KeepsRanges s (f s)) : KeepsRanges s (whenRunning f s) := by
    unfold whenRunning
    exact .ite hf (.refl s)
  have outside (hs : (footprint c).contains .settings = false) (hr : (footprint c).contains .rate = false)
      (hp : reachesRanges c = false) : KeepsRanges s t := by
    have agree := exec_outside h
    exact keepsRanges_of_same (agree .settings (by simpa using hs)) (agree .rate (by simpa using hr))
      fun q => (exec_ran h).stands q .plan (plan_notMem_portFootprint hp q)
  cases c with
  | powerOnReset cause => exact ran rfl (keepsRanges_powerOnReset cause s)
  | setHub p => exact ran rfl (running (keepsRanges_serve keepsRanges_serveSetHub s))
  | propose p => exact ran rfl (running (keepsRanges_serve (keepsRanges_servePropose p) s))
  | consentWindowExpired => exact ran rfl (running (keepsRanges_testWindow s))
  | setPlan p => exact ran rfl (running (keepsRanges_serve (keepsRanges_servePlan p) s))
  | _ => exact outside rfl rfl rfl

/-- Settles O13, from what each command does to the desk records, the settings, the rate and the plans. -/
theorem stepKeepsRangeLaws : Obligations.StepKeepsRangeLaws := fun s t h => by
  obtain rfl | ⟨c, rest, run⟩ := step_cases h
  · exact ⟨id, id, id⟩
  · exact ⟨(exec_keepsRanges run).settings, (exec_records run).law, (exec_keepsRanges run).plans⟩

end Sys2Proof.Machine
end

section
/-! PROOF. Messages assembled from control bytes, and assemblies discarded: settles O31. -/

namespace Sys2Proof.Machine

/-! ### Changes of one control channel, one after the other -/

theorem modControl_modControl (p : Port) (f g : Control → Control) (s : State) :
    modControl p g (modControl p f s) = modControl p (fun k => g (f k)) s := modPort_modPort p _ _ s

theorem modControl_eq_self {p : Port} {f : Control → Control} {s : State}
    (h : f (s.port p).control = (s.port p).control) : modControl p f s = s := modPort_eq_self (by rw [h])

theorem modControl_control (p : Port) (f : Control → Control) (s : State) :
    ((modControl p f s).port p).control = f (s.port p).control := by rw [modControl_port, if_pos rfl]

/-! ### An assembly in progress (R39) -/

/-- The state with some bytes gathered and no frame period counted since. -/
def gathering (p : Port) (bytes : List Byte) (s : State) : State :=
  modControl p (fun k => { k with assembly := some { bytes := bytes, idle := 0 } }) s

/-- The state with no assembly in progress. -/
def idling (p : Port) (s : State) : State := modControl p (fun k => { k with assembly := none }) s

@[simp] theorem gathering_assembly (p : Port) (bytes : List Byte) (s : State) :
    ((gathering p bytes s).port p).control.assembly = some { bytes := bytes, idle := 0 } := by
  rw [gathering, modControl_control]

theorem gathering_gathering (p : Port) (bytes more : List Byte) (s : State) :
    gathering p more (gathering p bytes s) = gathering p more s := modControl_modControl p _ _ s

theorem idling_gathering (p : Port) (bytes : List Byte) (s : State) : idling p (gathering p bytes s) = idling p s :=
  modControl_modControl p _ _ s

theorem idling_eq_self {p : Port} {s : State} (h : (s.port p).control.assembly = none) : idling p s = s :=
  modControl_eq_self (by rw [← h])

/-! ### Discarding it (R40) -/

theorem dropAssembly_none {p : Port} {s : State} (h : (s.port p).control.assembly = none) (why : DropReason) :
    dropAssembly p why s = s := by
  unfold dropAssembly
  rw [h]

theorem dropAssembly_some {p : Port} {s : State} {a : Assembly} (h : (s.port p).control.assembly = some a)
    (why : DropReason) : dropAssembly p why s = postTo p (.messageDropped why (a.bytes[1]?) 1) (idling p s) := by
  unfold dropAssembly
  rw [h]
  rfl

theorem postTo_assembly (p : Port) (r : Report) (s : State) :
    ((postTo p r s).port p).control.assembly = (s.port p).control.assembly := by
  unfold postTo
  split
  · rfl
  · rw [modControl_control]
    unfold Control.offer
    split
    · rfl
    · split <;> rfl

theorem dropAssembly_assembly (p : Port) (why : DropReason) (s : State) :
    ((dropAssembly p why s).port p).control.assembly = none := by
  cases h : (s.port p).control.assembly with
  | none => rw [dropAssembly_none h, h]
  | some a => rw [dropAssembly_some h, postTo_assembly, idling, modControl_control]

/-! ### One byte more (the table of R39) -/

/-- Gathered bytes that are not yet a message: the length is not there, or is not exceeded nor reached. -/
theorem extend_incomplete {p : Port} {bytes : List Byte}
    (h : bytes.length < 3 ∨ u8 bytes 2 ≤ 61 ∧ bytes.length < 3 + u8 bytes 2) (s : State) :
    extend p bytes s = gathering p bytes s := by
  unfold extend
  dsimp only
  split
  · rfl
  · next long =>
    obtain ⟨short, more⟩ := h.resolve_left long
    rw [if_neg (by omega), if_neg (by omega)]
    rfl

theorem extend_complete {p : Port} {bytes : List Byte} (hl : u8 bytes 2 ≤ 61) (h : bytes.length = 3 + u8 bytes 2)
    (s : State) : extend p bytes s = classify p (messageOf bytes) (idling p s) := by
  have done : extend p bytes s = classify p (messageOf bytes) (idling p (gathering p bytes s)) := by
    unfold extend
    dsimp only
    rw [if_neg (by omega), if_neg (by omega), if_pos h]
    rfl
  rw [done, idling_gathering]

/-- A body length above 61 discards the assembly. -/
theorem extend_tooLong {p : Port} {bytes : List Byte} (h : 3 ≤ bytes.length) (hl : 61 < u8 bytes 2) (s : State) :
    extend p bytes s = postTo p (.messageDropped .length (bytes[1]?) 1) (idling p s) := by
  have dropped : extend p bytes s = dropAssembly p .length (gathering p bytes s) := by
    unfold extend
    dsimp only
    rw [if_neg (by omega), if_pos hl]
    rfl
  rw [dropped, dropAssembly_some (gathering_assembly p bytes s), idling_gathering]

theorem extend_gathering (p : Port) (bytes more : List Byte) (s : State) :
    extend p more (gathering p bytes s) = extend p more s := by
  unfold extend
  rw [show modControl p (fun k => { k with assembly := some { bytes := more, idle := 0 } }) (gathering p bytes s) =
    modControl p (fun k => { k with assembly := some { bytes := more, idle := 0 } }) s from gathering_gathering p bytes more s]

/-- A control byte that is not marked START. -/
def ControlByte.plain (b : Byte) : ControlByte := { byte := b, start := false }

theorem takeByte_start (p : Port) (b : Byte) (s : State) :
    takeByte p { byte := b, start := true } s = gathering p [b] (dropAssembly p .newStart s) :=
  (if_pos rfl).trans (extend_incomplete (.inl (by simp)) _)

theorem takeByte_none {p : Port} {s : State} (h : (s.port p).control.assembly = none) (b : Byte) :
    takeByte p (.plain b) s = s := by
  unfold takeByte
  rw [h]
  rfl

theorem takeByte_some {p : Port} {s : State} {a : Assembly} (h : (s.port p).control.assembly = some a) (b : Byte) :
    takeByte p (.plain b) s = extend p (a.bytes ++ [b]) s := by
  unfold takeByte
  rw [h]
  rfl

theorem takeByte_gathering (p : Port) (bytes : List Byte) (b : Byte) (s : State) :
    takeByte p (.plain b) (gathering p bytes s) = extend p (bytes ++ [b]) s := by
  rw [takeByte_some (gathering_assembly p bytes s), extend_gathering]

/-! ### A whole message -/

/-- The bytes of a message (R39). -/
def Message.bytes (m : Message) : List Byte := [m.kind, m.tag, byte m.body.length] ++ m.body

theorem messageOf_bytes (m : Message) : messageOf m.bytes = m := rfl

/-- Where the length byte is among the bytes gathered, it is the message's. -/
theorem u8_bytes {m : Message} (hm : m.body.length ≤ 61) {pre rest : List Byte} (h : pre ++ rest = m.bytes)
    (hl : 3 ≤ pre.length) : u8 pre 2 = m.body.length := by
  have place : pre.getD 2 0 = m.bytes.getD 2 0 := by
    rw [← h, List.getD_append _ _ _ _ (by omega)]
  have length : m.bytes.getD 2 0 = byte m.body.length := rfl
  rw [u8, place, length, byte, BitVec.toNat_ofNat]
  omega

/-- The bytes that remain of a message, taken one by one, make it. -/
theorem forEach_takeByte_rest {p : Port} {m : Message} (hm : m.body.length ≤ 61) (s : State) :
    ∀ (b : Byte) (rest pre : List Byte), pre ++ b :: rest = m.bytes →
      forEach (takeByte p) ((b :: rest).map .plain) (gathering p pre s) = classify p m (idling p s)
  | b, [], pre, h => by
    have whole : m.bytes.length = 3 + m.body.length := by simp [Message.bytes]; omega
    have length : u8 m.bytes 2 = m.body.length := u8_bytes hm (List.append_nil _) (by omega)
    rw [List.map_cons, forEach_cons, takeByte_gathering, h]
    rw [extend_complete (by omega) (by omega), messageOf_bytes, List.map_nil, forEach_nil]
  | b, c :: rest, pre, h => by
    have whole : m.bytes.length = 3 + m.body.length := by simp [Message.bytes]; omega
    have h' : (pre ++ [b]) ++ c :: rest = m.bytes := by rw [List.append_assoc]; exact h
    have parts : (pre ++ [b]).length + (rest.length + 1) = m.bytes.length := by
      rw [← h', List.length_append (bs := c :: rest), List.length_cons]
    have incomplete : (pre ++ [b]).length < 3 ∨ u8 (pre ++ [b]) 2 ≤ 61 ∧ (pre ++ [b]).length < 3 + u8 (pre ++ [b]) 2 := by
      by_cases short : (pre ++ [b]).length < 3
      · exact .inl short
      · have length := u8_bytes hm h' (by omega)
        exact .inr ⟨by omega, by omega⟩
    rw [List.map_cons, forEach_cons, takeByte_gathering, extend_incomplete incomplete]
    exact forEach_takeByte_rest hm s c rest (pre ++ [b]) h'

theorem takeControl_message {p : Port} {m : Message} {s : State} (idle : (s.port p).control.assembly = none)
    (hm : m.body.length ≤ 61) :
    takeControl p ({ byte := m.kind, start := true } :: ([m.tag, byte m.body.length] ++ m.body).map .plain) s =
      classify p m s := by
  have begun : takeByte p { byte := m.kind, start := true } s = gathering p [m.kind] s := by
    rw [takeByte_start, dropAssembly_none idle]
  have rest := forEach_takeByte_rest (p := p) hm s m.tag (byte m.body.length :: m.body) [m.kind] rfl
  rw [takeControl, if_neg (by simp), forEach_cons, begun]
  exact rest.trans (by rw [idling_eq_self idle])

/-! ### Messages classified (R41 to R43) -/

theorem isImmediate_iff (k : Byte) : isImmediate k = true ↔ k = kindTalkOff ∨ k = kindObject := by
  simp [isImmediate]

theorem classify_immediate {p : Port} {m : Message} (h : isImmediate m.kind = true) (s : State) :
    classify p m s = modControl p (fun k => { k with arrived := k.arrived ++ [m] }) s := if_pos h

theorem classify_queued {p : Port} {m : Message} (h : isImmediate m.kind = false) {s : State}
    (room : (s.port p).control.requests.length < 8) : classify p m s = modControl p (fun k =>
      { k with requests := k.requests ++ [m], hold := k.hold || decide (6 ≤ k.requests.length + 1) }) s := by
  have queued : classify p m s = queueRequest p m s := if_neg (by rw [h]; decide)
  rw [queued, show queueRequest p m s = _ from if_pos room]
  simp only [Config.holdLevel, List.length_append, List.length_singleton]

theorem classify_lost {p : Port} {m : Message} (h : isImmediate m.kind = false) {s : State}
    (full : 8 ≤ (s.port p).control.requests.length) : classify p m s = postTo p (.requestLost m.kind m.tag 1) s := by
  have queued : classify p m s = queueRequest p m s := if_neg (by rw [h]; decide)
  exact queued.trans (if_neg (Nat.not_lt.2 full))

/-! ### Control fields -/

theorem takeControl_append {p : Port} {l l' : List ControlByte} (h : l ≠ []) (h' : l' ≠ []) (s : State) :
    takeControl p (l ++ l') s = takeControl p l' (takeControl p l s) := by
  have field {k : List ControlByte} (hk : k ≠ []) (t : State) : takeControl p k t = forEach (takeByte p) k t := if_neg hk
  rw [field h, field h', field (by simp [h])]
  exact List.foldl_append

theorem takeControl_singleton (p : Port) (b : ControlByte) (s : State) : takeControl p [b] s = takeByte p b s := rfl

theorem upCopy_control_length (b : UpBytes) : (upCopy b).control.length ≤ 4 := by
  simp only [upCopy, upControl, List.length_map, List.length_range]
  exact Nat.min_le_left _ _

/-! ### A missing frame (R40) -/

/-- After the discard of an assembly the report queue of a VACANT port is as it was, and an empty one of another port holds
MESSAGE DROPPED. -/
theorem dropAssembly_reports {p : Port} {s : State} {a : Assembly} (h : (s.port p).control.assembly = some a)
    (why : DropReason) :
    (s.portState p = .vacant → ((dropAssembly p why s).port p).control.reports = (s.port p).control.reports) ∧
      (s.portState p ≠ .vacant → (s.port p).control.reports = [] →
        ((dropAssembly p why s).port p).control.reports = [.messageDropped why (a.bytes[1]?) 1]) := by
  rw [dropAssembly_port, if_pos rfl, h]
  refine ⟨fun vacant => ?_, fun occupied empty => ?_⟩
  · simp only [vacant, if_true]
  · simp only [occupied, if_false]
    rw [Control.offer_joining (by simp [empty])]
    simp [empty]

/-- A missing frame discards the assembly once, whether or not frames were skipped before it. -/
theorem dropAssembly_afterSkips (p : Port) (why : DropReason) (s : State) (k : Nat) :
    dropAssembly p why (if k = 0 then s else dropAssembly p why s) = dropAssembly p why s := by
  split
  · rfl
  · exact dropAssembly_none (dropAssembly_assembly p why s) why

/-- Settles O31, from the messages that bytes make and the discards of assemblies. -/
theorem messageAssembles : Obligations.MessageAssembles := fun p s => by
  refine ⟨fun m idle hm t ht => ?_, fun b idle => takeByte_none idle b, fun l l' h h' => takeControl_append h h' s, rfl,
    upCopy_control_length, fun idle why => dropAssembly_none idle why, fun a ha => ⟨dropAssembly_some ha, fun b => ?_,
      fun b h2 hb => ?_, fun inp k hr hb hp hk seq u hu none => ?_⟩⟩
  · rw [show t = classify p m s from ht.trans (takeControl_message idle hm)]
    exact ⟨isImmediate_iff _, fun h => classify_immediate h s, fun h => classify_queued h,
      fun h => classify_lost h⟩
  · rw [takeControl_singleton, takeByte_start, dropAssembly_some ha]
    rfl
  · have length : u8 (a.bytes ++ [b]) 2 = b.toNat := by simp [u8, h2]
    have tag : (a.bytes ++ [b])[1]? = a.bytes[1]? := List.getElem?_append_left (by omega)
    rw [takeControl_singleton, show takeByte p { byte := b, start := false } s = _ from takeByte_some ha b,
      extend_tooLong (by simp; omega) (by omega), tag]
    rfl
  · obtain ⟨t, run, -, -, -, -, missing, -⟩ := (playoutTakesTheCopy.2 inp p s k hr hb hp).2 hk seq u hu _ rfl _ rfl
    obtain ⟨-, -, control, -⟩ := missing none
    rw [dropAssembly_afterSkips] at control
    refine ⟨t, run, ?_⟩
    rw [control]
    exact ⟨dropAssembly_assembly p _ s, dropAssembly_reports ha _⟩

end Sys2Proof.Machine
end

section
/-! PROOF. Requests checked before their block serves them: settles O32. -/

namespace Sys2Proof.Machine

/-! ### The command of each request kind -/

/-- Every queued kind is served by its command with an owner of its own (R44). -/
theorem exec_queued : ∀ x ∈ queuedKinds, ∃ owner : Port → Message → State → Served, ∀ p s,
    exec (x.2 p) s = .next (whenRunning (serve p x.1 (owner p)) s) := by
  simp only [queuedKinds, List.forall_mem_cons]
  repeat' apply And.intro
  all_goals first | exact ⟨_, fun _ _ => rfl⟩ | exact fun _ h => absurd h List.not_mem_nil

/-- Every immediate kind is taken by its command with an owner of its own (R46). -/
theorem exec_immediate : ∀ x ∈ immediateKinds, ∃ owner : Port → Message → State → Served, ∀ p s,
    exec (x.2 p) s = .next (whenRunning (takeImmediate p x.1 (owner p)) s) := by
  simp only [immediateKinds, List.forall_mem_cons]
  exact ⟨⟨_, fun _ _ => rfl⟩, ⟨_, fun _ _ => rfl⟩, fun _ h => absurd h List.not_mem_nil⟩

/-! ### The request at the head (R44, R47) -/

section
variable {p : Port} {kind : Byte} {m : Message} {owner : Message → State → Served} {s : State}

/-- A request that stands at the head, with a free place for its reply. -/
theorem serve_waiting (h : Waiting p kind m s) :
    serve p kind owner s = popRequest p (pushReply p m (checkAndServe p owner m s)) := by
  obtain ⟨-, head, named, room⟩ := h
  unfold serve
  split
  · next none => rw [none] at head; cases head
  · next x rest some =>
    rw [some] at head
    injection head with e
    rw [e, if_pos ⟨named, room⟩]

theorem serve_malformed (h : Waiting p kind m s) (hb : bodyLengthRight kind m.body = false) :
    serve p kind owner s = answered p m .malformed 0 [] s := by
  have refused : checkAndServe p owner m s = refuse .malformed s := if_pos (by rw [h.2.2.1, hb]; decide)
  rw [serve_waiting h, refused, popRequest_pushReply]
  rfl

theorem serve_notAttached (h : Waiting p kind m s) (hb : bodyLengthRight kind m.body = true)
    (ha : available kind (s.portState p) = false) : serve p kind owner s = answered p m .notAttached 0 [] s := by
  have refused : checkAndServe p owner m s = refuse .notAttached s :=
    (if_neg (by rw [h.2.2.1, hb]; decide)).trans (if_pos (by rw [h.2.2.1, ha]; decide))
  rw [serve_waiting h, refused, popRequest_pushReply]
  rfl

/-- A command finds no request, no free place for its reply, or a request of another kind. -/
theorem serve_idle (h : (s.port p).control.requests = [] ∨ 8 ≤ (s.port p).control.replies.length ∨
    (s.port p).control.requests.head?.any (fun r => decide (r.kind ≠ kind)) = true) : serve p kind owner s = s := by
  unfold serve
  split
  · rfl
  · next x rest some =>
    refine if_neg fun ⟨named, room⟩ => ?_
    rw [some] at h
    obtain none | full | other := h
    · cases none
    · exact absurd room (Nat.not_lt.2 full)
    · exact absurd named (of_decide_eq_true other)

theorem serveUnknown_waiting (hk : isRequestKind m.kind = false) (h : Waiting p m.kind m s) :
    serveUnknown p s = answered p m .unknown 0 [] s := by
  obtain ⟨-, head, -, room⟩ := h
  unfold serveUnknown
  split
  · next none => rw [none] at head; cases head
  · next x rest some =>
    rw [some] at head
    injection head with e
    rw [e, if_pos ⟨by rw [hk]; decide, room⟩, popRequest_pushReply]
    rfl

/-! ### An immediate request (R46) -/

variable {rest : List Message}

/-- What an immediate request that has completed comes to. -/
theorem takeImmediate_arrived (h : Arrived p kind m rest s) : takeImmediate p kind owner s =
    if 8 ≤ (s.port p).control.replies.length then loseRequest p m (taking p rest s)
    else if ¬ bodyLengthRight kind m.body then pushReply p m (refuse .malformed (taking p rest s))
    else if s.portState p ≠ .attached then pushReply p m (refuse .notAttached (taking p rest s))
    else pushReply p m (owner m (taking p rest s)) := by
  obtain ⟨-, queue, named⟩ := h
  have state : (taking p rest s).portState p = s.portState p := by
    simp only [State.portState, taking, modControl_port_record]
  unfold takeImmediate
  split
  · next none => rw [none] at queue; cases queue
  · next x rest' some =>
    rw [some] at queue
    injection queue with e e'
    subst e e'
    rw [if_pos named, named, ← state]
    rfl

theorem takeImmediate_lost (h : Arrived p kind m rest s) (full : 8 ≤ (s.port p).control.replies.length) :
    takeImmediate p kind owner s = postTo p (.requestLost m.kind m.tag 1) (taking p rest s) :=
  (takeImmediate_arrived h).trans (if_pos full)

theorem takeImmediate_malformed (h : Arrived p kind m rest s) (room : (s.port p).control.replies.length < 8)
    (hb : bodyLengthRight kind m.body = false) :
    takeImmediate p kind owner s = answeredNow p m .malformed 0 [] (taking p rest s) := by
  rw [takeImmediate_arrived h, if_neg (Nat.not_le.2 room), if_pos (by rw [hb]; decide)]
  rfl

theorem takeImmediate_notAttached (h : Arrived p kind m rest s) (room : (s.port p).control.replies.length < 8)
    (hb : bodyLengthRight kind m.body = true) (hs : s.portState p ≠ .attached) :
    takeImmediate p kind owner s = answeredNow p m .notAttached 0 [] (taking p rest s) := by
  rw [takeImmediate_arrived h, if_neg (Nat.not_le.2 room), if_neg (by rw [hb]; decide), if_pos hs]
  rfl

end

/-! ### The tables of R45 and R169 -/

theorem requestTable : ∀ k : Byte,
    (isRequestKind k = true ↔ 1 ≤ k.toNat ∧ k.toNat ≤ 0x1F) ∧ available k .vacant = false ∧
      (available k .linked = true ↔ k.toNat ∈ [0x01, 0x03, 0x04, 0x07, 0x09, 0x0A, 0x13, 0x15, 0x18, 0x1B, 0x1F]) ∧
      available k .attached = true ∧ (available k .isolated = true ↔ k.toNat ≠ 0x19 ∧ k.toNat ≠ 0x1C) := by
  decide +kernel

theorem bodyLengthRight_attach (body : List Byte) :
    bodyLengthRight 0x01 body = true ↔ 5 ≤ body.length ∧ body.length = 5 + u8 body 4 := by
  rw [show bodyLengthRight 0x01 body = (decide (5 ≤ body.length) && decide (body.length = 5 + u8 body 4)) from if_pos rfl,
    Bool.and_eq_true, decide_eq_true_iff, decide_eq_true_iff]

theorem bodyLengthRight_iff {k : Byte} (h : k ≠ kindAttach) (body : List Byte) :
    bodyLengthRight k body = true ↔ body.length = bodyLengths.getD (k.toNat - 2) 0 := by
  rw [show bodyLengthRight k body = decide (body.length = bodyLengths.getD (k.toNat - 2) 0) from if_neg h, decide_eq_true_iff]

/-- Settles O32, by the checks before service and the tables. -/
theorem requestsAreCheckedFirst : Obligations.RequestsAreCheckedFirst := fun p m rest s => by
  refine ⟨fun x hx h => ?_, fun hk h => ?_, fun x hx h => ?_, fun x hx h => ?_, rfl, rfl, requestTable,
    fun body => ⟨bodyLengthRight_attach body, fun x hx => ?_⟩⟩
  · obtain ⟨owner, run⟩ := exec_queued x hx
    rw [run, whenRunning_eq h.1]
    exact ⟨fun hb => congrArg _ (serve_malformed h hb), fun hb ha => congrArg _ (serve_notAttached h hb ha)⟩
  · exact congrArg Host.Outcome.next ((whenRunning_eq h.1 _).trans (serveUnknown_waiting hk h))
  · obtain ⟨owner, run⟩ := exec_queued x hx
    have idle : serve p x.1 (owner p) s = s := serve_idle h
    rw [run]
    unfold whenRunning
    rw [idle, ite_self]
  · obtain ⟨owner, run⟩ := exec_immediate x hx
    rw [run, whenRunning_eq h.1]
    exact ⟨fun full => congrArg _ (takeImmediate_lost h full), fun room hb => congrArg _ (takeImmediate_malformed h room hb),
      fun room hb hs => congrArg _ (takeImmediate_notAttached h room hb hs)⟩
  · have table : ∀ x ∈ [(0x02, 0), (0x03, 1), (0x04, 1), (0x05, 2), (0x06, 4), (0x07, 0), (0x08, 15), (0x09, 2), (0x0A, 0),
        (0x0B, 3), (0x0C, 3), (0x0D, 3), (0x0E, 3), (0x0F, 4), (0x10, 4), (0x11, 3), (0x12, 3), (0x13, 2), (0x14, 6),
        (0x15, 1), (0x16, 4), (0x17, 11), (0x18, 2), (0x19, 0), (0x1A, 0), (0x1B, 0), (0x1C, 3), (0x1D, 1), (0x1E, 1),
        (0x1F, 0)], byte x.1 ≠ kindAttach ∧ bodyLengths.getD ((byte x.1).toNat - 2) 0 = x.2 := by decide
    obtain ⟨other, length⟩ := table x hx
    rw [bodyLengthRight_iff other, length]

end Sys2Proof.Machine
end

section
/-! PROOF. Carried RATE and GRANT proposals: the layer under O59. -/

namespace Sys2Proof.Machine

/-! ### A RATE change (R120 to R122, R159) -/

theorem heard_congr {r : Report} {q : Port} {s t : State} (h : t.port q = s.port q) : Heard r q t ↔ Heard r q s := by
  simp only [Heard, h]

/-- A port that is not VACANT is told of the plan it is left with. -/
theorem heard_truncatePlan {q : Port} {s : State} (cut : (s.port q).plan.truncate (Config.capacity s.rate) ≠ (s.port q).plan)
    (hv : s.portState q ≠ .vacant) : Heard (.planTruncated s.rate (s.port q).plan
      ((s.port q).plan.truncate (Config.capacity s.rate))) q (truncatePlan q s) := by
  generalize hafter : (s.port q).plan.truncate (Config.capacity s.rate) = after at cut
  have truncated : truncatePlan q s = postTo q (.planTruncated s.rate (s.port q).plan after)
      (modPort q (fun u => { u with plan := after }) s) := by
    unfold truncatePlan
    dsimp only
    rw [hafter]
    exact if_neg cut
  have state : (modPort q (fun u => { u with plan := after }) s).portState q = s.portState q := by
    rw [State.portState, modPort_port_same]; rfl
  have posts (u : State) (r : Report) (hu : u.portState q ≠ .vacant) : postTo q r u = modControl q (fun k => k.offer r) u :=
    if_neg hu
  rw [truncated, posts _ _ (by rw [state]; exact hv)]
  unfold Heard
  rw [modControl_control]
  exact Control.mem_offer _ _ fun x _ => Report.replacing_eq (by simp [Report.key]) x

theorem heard_changeRate {r : Rate} {q : Port} {s : State}
    (cut : (s.port q).plan.truncate (Config.capacity r) ≠ (s.port q).plan) (hv : s.portState q ≠ .vacant) :
    Heard (.planTruncated r (s.port q).plan ((s.port q).plan.truncate (Config.capacity r))) q (changeRate r s) := by
  obtain ⟨t, rate, port, e⟩ := forEach_port (P := fun t => t.rate = r) elsewhere_truncatePlan
    (fun q t _ ht => (truncatePlan_rate q t).trans ht) (nodup_indexes 3) (mem_indexes q)
    (s := { s with rate := r, rateMute := some Config.rateMute }) rfl
  have port : t.port q = s.port q := port
  have told := heard_truncatePlan (q := q) (s := t) (by rw [port, rate]; exact cut) (by rw [State.portState, port]; exact hv)
  rw [port, rate] at told
  exact (heard_congr e).2 told

theorem stillHeard_truncatePlan {r : Report} (hr : r.key.1 ≠ 10) (q : Port) (s : State) :
    StillHeard r s (truncatePlan q s) := by
  unfold truncatePlan
  dsimp only
  generalize (s.port q).plan.truncate (Config.capacity s.rate) = after
  split
  · exact .refl s
  · refine StillHeard.trans (stillHeard_modPort q (f := fun u => { u with plan := after }) (fun hp => hp) rfl) ?_
    exact (offers_postTo (ks := [10]) q (.planTruncated _ _ _) _ rfl).stillHeard (by simpa using hr)

theorem stillHeard_changeRate {r : Report} (hr : r.key.1 ≠ 10) (x : Rate) (s : State) : StillHeard r s (changeRate x s) :=
  StillHeard.trans (t := { s with rate := x, rateMute := some Config.rateMute }) (fun _ hq => ⟨hq, id⟩)
    (.forEach (stillHeard_truncatePlan hr) _ _)

theorem changeRate_rateMute (r : Rate) (s : State) : (changeRate r s).rateMute = some 4800 :=
  forEach_keeps (P := fun t => t.rateMute = some 4800)
    (fun q t ht => (agree_truncatePlan q t .rateMute (by decide)).trans ht) _ _ rfl

theorem mem_postSetRate (r : Rate) (s : State) : Broadcast.setRate r ∈ (postSetRate r s).bus.broadcasts := by
  show _ ∈ (if s.bus.broadcasts.any Broadcast.isSetRate then _ else _ : CardBus).broadcasts
  split
  · next waiting =>
    obtain ⟨b, hb, set⟩ := List.any_eq_true.1 waiting
    exact List.mem_map.2 ⟨b, hb, if_pos set⟩
  · exact List.mem_append_right _ (List.mem_singleton.2 rfl)

/-- What a carried RATE does, from the state in which the proposal has ended (R120 to R122, R159). -/
theorem carryRate_effects (r : Rate) (pr : Proposal) (s : State) :
    (carryRate r pr s).rate = r ∧ (carryRate r pr s).rateMute = some 4800 ∧
      (∀ q, ((carryRate r pr s).port q).plan = (s.port q).plan.truncate (Config.capacity r) ∧
        (((carryRate r pr s).port q).plan ≠ (s.port q).plan → s.portState q ≠ .vacant →
          Heard (.planTruncated r (s.port q).plan ((carryRate r pr s).port q).plan) q (carryRate r pr s))) ∧
      .setRate r ∈ (carryRate r pr s).bus.broadcasts ∧ Posted (.rate r s.rate pr.number pr.proposer) (carryRate r pr s) ∧
      ∀ x : Report, x.key.1 ∉ [10, 19] → StillHeard x s (carryRate r pr s) := by
  have carried : carryRate r pr s = post (.rate r s.rate pr.number pr.proposer) (postSetRate r (changeRate r s)) := rfl
  have rate := changeRate_rate r s
  have mute := changeRate_rateMute r s
  have plan := changeRate_plan r s
  have heard {q : Port} := heard_changeRate (r := r) (q := q) (s := s)
  have still {x : Report} (hx : x.key.1 ≠ 10) := stillHeard_changeRate hx r s
  rw [carried]
  generalize changeRate r s = t at rate mute plan heard still
  have offers : Offers [19] t (post (.rate r s.rate pr.number pr.proposer) (postSetRate r t)) :=
    ((agree_postSetRate r t).offers rfl).trans (offers_post _ _ rfl)
  refine ⟨rate, mute, fun q => ?_, mem_postSetRate r t, posted_post (by simp [Report.key]) _,
    fun x hx => (still fun e => hx (by simp [e])).trans (offers.stillHeard fun h => hx (List.mem_cons_of_mem _ h))⟩
  rw [offers.plan q, plan]
  exact ⟨rfl, fun cut hv => offers.heard q (by simp [Report.key]) (heard cut hv)⟩

/-! ### Changed settings of a channel (R58, R163) -/

section
variable {c : Chan} {f : Channel → Channel} {s : State}

/-- Whether a change leaves what the retained image holds of a channel. -/
def Channel.sameHeld (a b : Channel) : Prop := a.desired = b.desired ∧ a.phantom = b.phantom ∧ a.authority = b.authority

theorem changeSetting_channels : (changeSetting c f s).channels = (modChannel c f s).channels := by
  unfold changeSetting
  dsimp only
  split <;> split <;> rfl

theorem changeSetting_channel_same : (changeSetting c f s).channel c = f (s.channel c) := by
  rw [State.channel, changeSetting_channels]
  exact modChannel_channel_same c f s

theorem changeSetting_channel_ne {d : Chan} (h : c ≠ d) : (changeSetting c f s).channel d = s.channel d := by
  rw [State.channel, changeSetting_channels]
  exact modChannel_channel_ne h f s

/-- A change that touches what the image holds restarts the quiet timer and is reported. -/
theorem changeSetting_eq (h : ¬ (s.channel c).sameHeld (f (s.channel c))) :
    changeSetting c f s = postSetting c (restartQuiet (modChannel c f s)) := by
  rw [← modChannel_channel_same c f s, Channel.sameHeld] at h
  unfold changeSetting
  dsimp only
  rw [if_neg fun both => h both.1, if_neg h]

theorem changeSetting_quiet (h : s.retained.quiet = some 0) : (changeSetting c f s).retained.quiet = some 0 := by
  unfold changeSetting
  dsimp only
  split <;> split <;> first | exact h | rfl

theorem posted_changeSetting (h : ¬ (s.channel c).sameHeld (f (s.channel c))) {x : Channel} (hx : x = f (s.channel c)) :
    (changeSetting c f s).retained.quiet = some 0 ∧
      Posted (.settingChanged c x.desired x.phantom x.desiredBy x.authority) (changeSetting c f s) := by
  rw [changeSetting_eq h]
  refine ⟨rfl, ?_⟩
  have channel : (restartQuiet (modChannel c f s)).channel c = x := by
    rw [hx]; exact modChannel_channel_same c f s
  subst channel
  exact posted_post (by simp [Report.key]) _

theorem stillHeard_changeSetting {r : Report} (hr : r.key ≠ (4, c.val)) : StillHeard r s (changeSetting c f s) := by
  have quiet (t : State) : StillHeard r t (restartQuiet t) := fun _ hq => ⟨hq, id⟩
  have set : StillHeard r s (modChannel c f s) := fun _ hq => ⟨hq, id⟩
  have posts (t : State) : StillHeard r t (postSetting c t) := stillHeard_post hr t
  unfold changeSetting
  dsimp only
  split <;> split
  · exact set
  · exact set.trans (quiet _)
  · exact set.trans (posts _)
  · exact (set.trans (quiet _)).trans (posts _)

end

/-! ### A GRANT (R161) -/

theorem mem_channelRange {f l c : Chan} : c ∈ channelRange f l ↔ f ≤ c ∧ c ≤ l := by
  simp [channelRange, mem_indexes]

theorem nodup_channelRange (f l : Chan) : (channelRange f l).Nodup := (nodup_indexes 64).filter _

/-- A channel that a proposer is granted. -/
def Channel.granted (p : Port) (x : Channel) : Channel := { x with authority := x.authority.put p true }

theorem carryGrant_eq (f l : Chan) (pr : Proposal) (s : State) :
    carryGrant f l pr s = forEach (fun c => changeSetting c (Channel.granted pr.proposer)) (channelRange f l) s := rfl

theorem not_sameHeld_granted {p : Port} {x : Channel} (h : x.authority.get p = false) : ¬ x.sameHeld (x.granted p) := by
  rintro ⟨-, -, same⟩
  have got : x.authority.get p = true := by rw [same]; simp [Channel.granted]
  rw [h] at got
  exact absurd got (by decide)

theorem carryGrant_channel (f l : Chan) (pr : Proposal) (s : State) (c : Chan) :
    (carryGrant f l pr s).channel c = if f ≤ c ∧ c ≤ l then (s.channel c).granted pr.proposer else s.channel c := by
  rw [carryGrant_eq]
  split
  · next within =>
    exact forEach_then (x := c) (D := fun t => t.channel c = s.channel c)
      (Q := fun t => t.channel c = (s.channel c).granted pr.proposer)
      (fun d t hd ht => (changeSetting_channel_ne hd).trans ht) (fun t ht => changeSetting_channel_same.trans (by rw [ht]))
      (fun d t hd ht => (changeSetting_channel_ne hd).trans ht) (nodup_channelRange f l) (mem_channelRange.2 within) rfl
  · next without =>
    have granted : Records (fun d => decide (f ≤ d ∧ d ≤ l)) (fun _ _ => false) s
        (forEach (fun c => changeSetting c (Channel.granted pr.proposer)) (channelRange f l) s) :=
      .forEach_mem (fun d hd t => records_changeSetting (decide_eq_true (mem_channelRange.1 hd)) _ t) s
    exact granted.channel c (decide_eq_false without)

/-- A channel to which the grant is new is reported, and the quiet timer has restarted. -/
theorem carryGrant_told {f l : Chan} {pr : Proposal} {s : State} {c : Chan} (within : f ≤ c ∧ c ≤ l)
    (new : (s.channel c).authority.get pr.proposer = false) : (carryGrant f l pr s).retained.quiet = some 0 ∧
      Posted (.settingChanged c (s.channel c).desired (s.channel c).phantom (s.channel c).desiredBy
        ((s.channel c).authority.put pr.proposer true)) (carryGrant f l pr s) := by
  rw [carryGrant_eq]
  refine forEach_then (x := c) (D := fun t => t.channel c = s.channel c) (Q := fun t => t.retained.quiet = some 0 ∧
      Posted (.settingChanged c (s.channel c).desired (s.channel c).phantom (s.channel c).desiredBy
        ((s.channel c).authority.put pr.proposer true)) t)
    (fun d t hd ht => (changeSetting_channel_ne hd).trans ht) (fun t ht => ?_) (fun d t hd ht => ?_)
    (nodup_channelRange f l) (mem_channelRange.2 within) rfl
  · exact posted_changeSetting (x := (s.channel c).granted pr.proposer) (by rw [ht]; exact not_sameHeld_granted new)
      (by rw [ht])
  · refine ⟨changeSetting_quiet ht.1, ht.2.still (stillHeard_changeSetting fun e => hd (Fin.ext ?_))⟩
    exact (congrArg Prod.snd e).symm

end Sys2Proof.Machine
end

section
/-! PROOF. The outputs in a change of settings that finds no talk claim: the layer under O59. -/

namespace Sys2Proof.Machine

/-! ### An output and its source port (R131) -/

/-- Of an output x only the state, the timer and the crossfade have moved. -/
def Output.Restated (x y : Output) : Prop := ∃ st tm cf, y = { x with state := st, timer := tm, crossfade := cf }

theorem Output.Restated.refl (x : Output) : x.Restated x := ⟨x.state, x.timer, x.crossfade, rfl⟩

theorem Output.Restated.trans {x y z : Output} (h : x.Restated y) (g : y.Restated z) : x.Restated z := by
  obtain ⟨_, _, _, rfl⟩ := h
  obtain ⟨st, tm, cf, rfl⟩ := g
  exact ⟨st, tm, cf, rfl⟩

theorem Output.Restated.source {x y : Output} (h : x.Restated y) : y.source = x.source := by
  obtain ⟨_, _, _, rfl⟩ := h
  rfl

theorem restated_outputsReturned (p : Port) (o : OutNo) (s : State) :
    (s.output o).Restated ((outputsReturned p s).output o) := by
  refine forEach_keeps (P := fun t => (s.output o).Restated (t.output o)) (fun n t ht => ht.trans ?_) _ s (.refl _)
  by_cases hn : n = o
  · subst hn
    unfold outputReturned
    split
    · exact ⟨_, _, _, (modOutput_output_same n Output.returned t)⟩
    · exact .refl _
  · rw [(onOutput_outputReturned p n t).others o hn]
    exact .refl _

/-- From s to t the output o has stood with its source port q, or q has returned from ISOLATED to ATTACHED and the output may have
followed. -/
structure FollowsPort (q : Port) (o : OutNo) (s t : State) : Prop where
  restated : (s.output o).Restated (t.output o)
  stood : (t.output o = s.output o ∧ (t.portState q = .isolated → s.portState q = .isolated) ∧
      (s.portState q = .attached → t.portState q = .attached)) ∨
    (s.portState q = .isolated ∧ t.portState q = .attached)

section
variable {q : Port} {o : OutNo} {s t u : State}

theorem FollowsPort.of_stands (ho : t.output o = s.output o) (hp : t.portState q = s.portState q) : FollowsPort q o s t :=
  ⟨ho ▸ .refl _, .inl ⟨ho, fun h => hp ▸ h, fun h => hp ▸ h⟩⟩

theorem FollowsPort.trans (h : FollowsPort q o s t) (g : FollowsPort q o t u) : FollowsPort q o s u := by
  refine ⟨h.restated.trans g.restated, ?_⟩
  obtain ⟨same, isolated, attached⟩ | ⟨was, now⟩ := h.stood
  · obtain ⟨same', isolated', attached'⟩ | ⟨was', now'⟩ := g.stood
    · exact .inl ⟨same'.trans same, isolated ∘ isolated', attached' ∘ attached⟩
    · exact .inr ⟨isolated was', now'⟩
  · obtain ⟨-, -, attached'⟩ | ⟨was', -⟩ := g.stood
    · exact .inr ⟨was, attached' now⟩
    · rw [now] at was'; cases was'

/-- What leaves the outputs and the port records as they are. -/
theorem followsPort_of_agree {ps : List Part} {ks : List Nat} (h : Agree ps s t) (ho : ps.contains .outputs = false)
    (g : Offers ks s t) : FollowsPort q o s t :=
  .of_stands (congrArg (Bank.get · o) (h .outputs (by simpa using ho))) (g.portState q)

end

/-! ### A raised lane (R26, R28) -/

theorem output_of_outputs {s t : State} (h : t.outputs = s.outputs) (o : OutNo) : t.output o = s.output o :=
  congrArg (Bank.get · o) h

/-- A port controller told that a lane is UP touches the outputs only where its port returns from ISOLATED. -/
theorem lanesChanged_up_outputs {p : Port} {s : State} (up : (s.port p).lanes.anyUp = true) (was : Bool) :
    (lanesChanged p was s).outputs = s.outputs ∨ was = false ∧ s.portState p = .isolated ∧ lanesChanged p was s = rejoin p s := by
  cases was with
  | true => exact .inl (by simp [lanesChanged, up])
  | false =>
    cases hs : s.portState p with
    | vacant => rw [lanesChanged_linked up hs]; exact .inl rfl
    | isolated => exact .inr ⟨rfl, rfl, lanesChanged_rejoin up hs⟩
    | linked | attached => exact .inl (by simp [lanesChanged, up, hs])

theorem PortRecord.follow_up_isolated {was : Bool} {r : PortRecord} (h : (r.follow was true).state = .isolated) :
    r.state = .isolated := by
  unfold PortRecord.follow at h
  split at h
  · exact h
  · cases hr : r.state <;> simp_all

theorem PortRecord.follow_up_attached {was : Bool} {r : PortRecord} (h : r.state = .attached) :
    (r.follow was true).state = .attached := by
  simp [PortRecord.follow, h]

/-- An output follows its source port where a port controller is told that a lane is UP. -/
theorem followsPort_lanesChanged {p q : Port} {o : OutNo} {s : State} (up : (s.port p).lanes.anyUp = true) (was : Bool)
    (src : ∀ r, r ≠ q → (s.output o).sourcedBy r = false) : FollowsPort q o s (lanesChanged p was s) := by
  have unit := (offers_lanesChanged p was s).record q
  have state : (lanesChanged p was s).portState q =
      if p = q then ((s.port q).record.follow was true).state else s.portState q := by
    rw [State.portState, unit, modPort_port]
    split
    · next e => subst e; rw [← up]; rfl
    · rfl
  have stands (ho : (lanesChanged p was s).output o = s.output o) : FollowsPort q o s (lanesChanged p was s) := by
    refine ⟨ho ▸ .refl _, .inl ⟨ho, ?_, ?_⟩⟩ <;> rw [state] <;> split
    · exact PortRecord.follow_up_isolated
    · exact id
    · exact PortRecord.follow_up_attached
    · exact id
  obtain same | ⟨rfl, isolated, rejoins⟩ := lanesChanged_up_outputs up was
  · exact stands (output_of_outputs same o)
  · have record : (modRecord p (fun r => { r with state := .attached, lossHold := none }) s).output o = s.output o := rfl
    have returned (t : State) : (postPort p .rejoined t).output o = t.output o :=
      output_of_outputs (agree_postPort p .rejoined t .outputs (by decide)) o
    have output := congrArg (State.output · o) rejoins
    simp only [rejoin, returned] at output
    generalize modRecord p (fun r => { r with state := .attached, lossHold := none }) s = m at record output
    by_cases hp : p = q
    · subst hp
      refine ⟨by rw [output, ← record]; exact restated_outputsReturned p o m, .inr ⟨isolated, ?_⟩⟩
      rw [state, if_pos rfl]
      simp [PortRecord.follow, show (s.port p).record.state = .isolated from isolated]
    · exact stands (output.trans ((outputsReturned_other (by rw [record]; exact src p hp)).trans record))

theorem followsPort_raised {p q : Port} {n : LaneName} {why : LaneReason} {o : OutNo} {s : State}
    (src : ∀ r, r ≠ q → (s.output o).sourcedBy r = false) : FollowsPort q o s (laneEvent p n why Lane.raise s) := by
  rw [laneEvent_eq]
  generalize hc : (if ((s.port p).laneMoved n Lane.raise).merge.active ≠ (s.port p).merge.active ∧
      ((s.port p).laneMoved n Lane.raise).merge.active ≠ n then
    postLane p ((s.port p).laneMoved n Lane.raise).merge.active .active
      (postLane p n why (modPort p (PortUnit.laneMoved n Lane.raise) s))
    else postLane p n why (modPort p (PortUnit.laneMoved n Lane.raise) s)) = v
  have offers : Offers [0] (modPort p (PortUnit.laneMoved n Lane.raise) s) v :=
    hc ▸ Offers.also (offers_postLane _ _ _ _) (offers_postLane _ _ _ _)
  have posted : Agree [.ports] s (postLane p n why (modPort p (PortUnit.laneMoved n Lane.raise) s)) :=
    (agree_modPort _ _ _).trans (agree_postLane _ _ _ _)
  have agree : Agree [.ports] s v := hc ▸ .ite (posted.trans (agree_postLane _ _ _ _)) posted
  have outputs : v.outputs = s.outputs := agree .outputs (by decide)
  have up : (v.port p).lanes.anyUp = true := by
    rw [offers.lanes, modPort_port_same]
    exact Lanes.anyUp_of_isUp (n := n) Lane.raise_isUp
  have state : v.portState q = s.portState q := by
    rw [offers.portState, State.portState, modPort_port]
    split
    · next e => subst e; rfl
    · rfl
  exact (FollowsPort.of_stands (output_of_outputs outputs o) state).trans
    (followsPort_lanesChanged up _ fun r hr => by rw [output_of_outputs outputs]; exact src r hr)

/-! ### All lanes and all holds tested -/

theorem sourcedBy_ne {q : Port} {x : Output} (h : ∃ r, x.source = some { port := q, ret := r }) :
    ∀ r, r ≠ q → x.sourcedBy r = false := fun r hr => by
  obtain ⟨k, e⟩ := h
  simp [Output.sourcedBy, e, Ne.symm hr]

theorem followsPort_qualifyAll {q : Port} {o : OutNo} {s : State}
    (src : ∃ r, (s.output o).source = some { port := q, ret := r }) : FollowsPort q o s (qualifyAll s) := by
  rw [qualifyAll_eq]
  refine forEach_keeps (P := FollowsPort q o s) (fun x t ht => ht.trans ?_) lanesInOrder s
    (.of_stands rfl rfl)
  unfold qualify
  split
  · exact followsPort_raised (sourcedBy_ne (by rw [ht.restated.source]; exact src))
  · exact .of_stands rfl rfl

theorem followsPort_expireHolds {q : Port} {o : OutNo} (s : State) : FollowsPort q o s (expireHolds s) := by
  have output : (expireHolds s).output o = s.output o :=
    output_of_outputs (agree_expireHolds s .outputs (by decide)) o
  have state : (expireHolds s).portState q = if holdDue q s then .vacant else s.portState q := by
    rw [State.portState, expireHolds_record]
    split <;> rfl
  refine ⟨output ▸ .refl _, .inl ⟨output, fun h => ?_, fun h => ?_⟩⟩ <;> rw [state] at *
  · split at h
    · cases h
    · exact h
  · have running : holdDue q s = false := by
      unfold holdDue
      split
      · rw [h]; rfl
      · rfl
    rw [running]
    exact h

/-! ### Talk with no claim (R144, R146) -/

theorem testHead_idle {s : State} (h : s.talk.claims = []) : testHead s = s := by
  have none : headDue s = false := by unfold headDue; rw [h]
  have settled : settleHead 3 s = s := by unfold settleHead; rw [none]; rfl
  unfold testHead
  rw [settled]
  exact if_pos rfl

theorem resortTalk_idle {s : State} (h : s.talk.claims = []) : resortTalk s = s := by
  have sorted : sortClaims s.settings.priority s.talk.claims = s.talk.claims := by rw [h]; rfl
  unfold resortTalk
  dsimp only
  exact if_pos sorted

theorem whenChanged_idle {α : Type} [DecidableEq α] {field : Settings → α} {old : Settings} {f : State → State} {s : State}
    (h : f s = s) : whenChanged field old f s = s := by
  unfold whenChanged
  rw [h, ite_self]

section
variable {h : Settings} {s a b c d e f g v : State} (A : Announced h s a) (B : Blocks s.settings a b c d e f g v)
include A B

/-- With no talk claim the two talk blocks do nothing. -/
theorem Blocks.talk_idle (none : s.talk.claims = []) : f = e ∧ g = e := by
  have idle : e.talk.claims = [] := by rw [B.talk_before A]; exact none
  have limit : f = e := B.limit.trans (whenChanged_idle (testHead_idle idle))
  exact ⟨limit, B.order.trans (by rw [limit]; exact whenChanged_idle (resortTalk_idle idle))⟩

theorem Blocks.claims_none (none : s.talk.claims = []) : v.talk.claims = [] := by
  rw [B.claims_stage, (B.talk_idle A none).2, B.talk_before A]
  exact none

/-- With no talk claim an output moves at most with its source port. -/
theorem Blocks.followsPort {q : Port} {o : OutNo} (none : s.talk.claims = [])
    (src : ∃ r, (s.output o).source = some { port := q, ret := r }) : FollowsPort q o s v := by
  have announced : FollowsPort q o s a := followsPort_of_agree A.agree rfl A.offers
  have tested : FollowsPort q o a b := by
    rw [B.lanes]
    unfold whenChanged
    split
    · exact .of_stands rfl rfl
    · exact followsPort_qualifyAll (by rw [announced.restated.source]; exact src)
  have held : FollowsPort q o b c := by
    rw [B.holds]
    unfold whenChanged
    split
    · exact .of_stands rfl rfl
    · exact followsPort_expireHolds b
  have stage : Agree [.ports, .talk] e v := (B.talk_idle A none).2 ▸ B.stage ▸ .whenChanged (agree_recomputeStage g)
  have later : Agree [.clock, .ports, .phantom, .startQueue, .supplyGuard, .bus, .talk] c v :=
    ((B.agree_clock.mono rfl).andThen B.agree_phantom rfl).andThen stage rfl
  exact ((announced.trans tested).trans held).trans (followsPort_of_agree later rfl B.offers_afterHolds)

end

end Sys2Proof.Machine
end

section
/-! PROOF. Carried proposals, RESET above all: settles O59. -/

namespace Sys2Proof.Machine

/-! ### Outputs at a RESET (R139) -/

/-- An output before its delay is tested at a RESET: the defaults, in a state and with a timer. -/
def Output.defaulted (st : OutputState × Option Nat) (n : OutNo) (x : Output) : Output :=
  x.become fun o => { o.withDefaults n with state := st.1, timer := st.2 }

/-- The delay of an output tested. -/
def Output.delayTested (x : Output) : Output := if x.delayDue then x.expire else x

/-- The state and the timer that a RESET gives an output (R139, steps 1 and 2). -/
def resetState (s : State) (n : OutNo) (x : Output) : OutputState × Option Nat :=
  if x.source = some { port := 1, ret := n } then (x.state, x.timer) else patchedState s (some { port := 1, ret := n })

theorem hubReset_eq (s : State) (n : OutNo) (x : Output) : Output.hubReset s n x =
    ((x.defaulted (resetState s n x) n).delayTested).redim (liveTalker s).isSome := rfl

theorem resetOutputs_output (s : State) (n : OutNo) :
    (resetOutputs s).output n = Output.hubReset s n (s.output n) := Bank.get_eachIdx _ _ _

/-- The settings that a RESET gives an output, and what it leaves (R127, R139). -/
structure Output.HasDefaults (n : OutNo) (x y : Output) : Prop where
  source : y.source = some { port := 1, ret := n }
  patchedBy : y.patchedBy = none
  fallbackChannel : y.fallbackChannel = none
  fallbackLevel : y.fallbackLevel = -100
  fallbackDelay : y.fallbackDelay = 5
  listen : y.listen = true
  dim : y.dim = .level (-200)
  dimCoefficient : y.dimCoefficient = x.dimCoefficient

theorem hasDefaults_delayTested (st : OutputState × Option Nat) (n : OutNo) (x : Output) :
    Output.HasDefaults n x (x.defaulted st n).delayTested := by
  unfold Output.delayTested
  split <;> exact ⟨rfl, rfl, rfl, rfl, rfl, rfl, rfl, rfl⟩

/-- The stream of an output with its defaults (R128). -/
theorem stream_defaulted (st : OutputState × Option Nat) (n : OutNo) (x : Output) :
    { x.withDefaults n with state := st.1, timer := st.2 }.stream =
      if st.1 = .fallback then .silence else .ret { port := 1, ret := n } := by
  obtain ⟨st, timer⟩ := st
  cases st <;> rfl

/-- The default fallback delay is 24,000 frame periods (R127, R130). -/
theorem defaulted_delayDue (st : OutputState × Option Nat) (n : OutNo) (x : Output) :
    (x.defaulted st n).delayDue = true ↔ st.1 = .waiting ∧ st.2.any (fun e => decide (24000 ≤ e)) = true := by
  have waits (e : Nat) : (x.defaulted (.waiting, some e) n).delayDue = decide (24000 ≤ e) :=
    congrArg (fun target => decide (target ≤ e)) (delayTarget_eq (x.defaulted (.waiting, some e) n))
  have moves {st : OutputState} (hs : st ≠ .waiting) (timer : Option Nat) : (x.defaulted (st, timer) n).delayDue = false := by
    cases st
    case waiting => exact absurd rfl hs
    all_goals rfl
  obtain ⟨st, timer⟩ := st
  by_cases hs : st = .waiting
  · subst hs
    cases timer with
    | none => exact ⟨nofun, fun h => nomatch h.2⟩
    | some e => rw [waits]; simp
  · rw [moves hs]
    exact ⟨nofun, fun h => absurd h.1 hs⟩

theorem defaulted_crossfade (st : OutputState × Option Nat) (n : OutNo) (x : Output) : (x.defaulted st n).crossfade =
    fadeTo x.crossfade x.stream (if st.1 = .fallback then .silence else .ret { port := 1, ret := n }) := by
  rw [← stream_defaulted st n x]
  rfl

theorem delayTested_notDue {st : OutputState × Option Nat} {n : OutNo} {x : Output}
    (notDue : ¬ (st.1 = .waiting ∧ st.2.any (fun e => decide (24000 ≤ e)) = true)) :
    (x.defaulted st n).delayTested = x.defaulted st n := if_neg fun due => notDue ((defaulted_delayDue st n x).1 due)

/-- An output at a RESET whose delay has run out goes to FALLBACK, which is silent by default. -/
theorem delayTested_due {st : OutputState × Option Nat} {n : OutNo} {x : Output}
    (due : st.1 = .waiting ∧ st.2.any (fun e => decide (24000 ≤ e)) = true) :
    (x.defaulted st n).delayTested.state = .fallback ∧ (x.defaulted st n).delayTested.timer = none ∧
      (x.defaulted st n).delayTested.crossfade =
        fadeTo (x.defaulted st n).crossfade (.ret { port := 1, ret := n }) .silence := by
  have expired : (x.defaulted st n).delayTested = (x.defaulted st n).expire := if_pos ((defaulted_delayDue st n x).2 due)
  have stream : (x.defaulted st n).stream = .ret { port := 1, ret := n } :=
    (stream_defaulted st n x).trans (if_neg (by rw [due.1]; decide))
  rw [expired, ← stream]
  exact ⟨rfl, rfl, rfl⟩

/-! ### The dim at a RESET (R133, R139) -/

theorem rampGoal_rampToward (c : Nat) (r : Option Ramp) (k : Nat) : rampGoal c (rampToward c r k) = k := by
  unfold rampToward
  split
  · assumption
  · rfl

theorem redim_goal (talking : Bool) (x : Output) :
    rampGoal x.dimCoefficient (x.redim talking).dimRamp = x.dimTarget talking := rampGoal_rampToward _ _ _

/-- An emptied claim list brings every dim back where a talker was live. -/
theorem emptyTalk_output (s : State) (o : OutNo) :
    (emptyTalk s).output o = if (liveTalker s).isSome then (s.output o).redim false else s.output o := by
  have silent : liveTalker (modTalk (fun t => { t with claims := [] }) s) = none := rfl
  unfold emptyTalk followTalker
  rw [silent]
  cases (liveTalker s).isSome
  · rfl
  · exact Bank.get_each _ _ o

/-! ### The state of a RESET before its settings change -/

section
variable (s : State)

theorem agree_plansReset : Agree [.ports] s (plansReset s) := by
  intro x hx
  cases x
  case ports => exact absurd (by simp) hx
  all_goals rfl

theorem recordsReset_desk (p : Port) (c : Chan) : ((recordsReset s).desk p c).IsReset (s.channel c).net := by
  refine forEach_then (f := resetRecords) (x := p) (D := fun t => t.channels = s.channels)
    (Q := fun t => (t.desk p c).IsReset (s.channel c).net) (fun _ _ _ ht => ht) (fun t ht => ?_) (fun q t hq ht => ?_)
    (nodup_indexes 3) (mem_indexes p) rfl
  · have channel : t.channel c = s.channel c := congrArg (Bank.get · c) ht
    exact channel ▸ resetRecords_isReset p c t
  · rw [resetRecords_desk_ne hq]
    exact ht

theorem recordsReset_portState (q : Port) : (recordsReset s).portState q = s.portState q := by
  have ports : (recordsReset s).ports = (plansReset s).ports := agree_recordsReset s .ports (by decide)
  have port : (plansReset s).port q = (s.port q).clearedAt s.rate := plansReset_port s q
  rw [State.portState, State.port, ports, ← State.port, port]
  rfl

theorem agree_clearedByReset_full : Agree [.ports, .desks, .outputs, .talk] s (clearedByReset s) :=
  (agree_plansReset s).mono.andThen (agree_clearedByReset s)

theorem clearedByReset_desk (p : Port) (c : Chan) : ((clearedByReset s).desk p c).IsReset (s.channel c).net := by
  have later : Agree [.outputs, .talk] (recordsReset s) (clearedByReset s) :=
    (agree_resetOutputs _).mono.andThen (agree_emptyTalk _)
  rw [desk_of_desks (later .desks (by decide))]
  exact recordsReset_desk s p c

theorem clearedByReset_claims : (clearedByReset s).talk.claims = [] := by
  rw [clearedByReset, emptyTalk, (followTalker_talk _ _).1]
  rfl

theorem resetState_congr {t : State} (h : t.portState 1 = s.portState 1) (n : OutNo) (x : Output) :
    resetState t n x = resetState s n x := by
  simp only [resetState, patchedState, h]

/-- An output once its RESET is done, but for the settings: its defaults, its delay tested, and its dim on the way back (R139). -/
theorem clearedByReset_output (o : OutNo) {y : Output}
    (hy : y = ((s.output o).defaulted (resetState s o (s.output o)) o).delayTested) :
    ∃ r, (clearedByReset s).output o = { y with dimRamp := r } ∧ rampGoal y.dimCoefficient r = 65536 := by
  have before : (recordsReset s).output o = s.output o :=
    (output_of_outputs (agree_recordsReset s .outputs (by decide)) o).trans
      (output_of_outputs (agree_plansReset s .outputs (by decide)) o)
  have reset : (resetOutputs (recordsReset s)).output o = y.redim (liveTalker (recordsReset s)).isSome := by
    rw [resetOutputs_output, before, hubReset_eq, resetState_congr s (recordsReset_portState s 1), ← hy]
  have talk : liveTalker (resetOutputs (recordsReset s)) = liveTalker (recordsReset s) :=
    congrArg (fun k : Talk => k.claims.head?.map Claim.port) (agree_resetOutputs (recordsReset s) .talk (by decide))
  rw [clearedByReset, emptyTalk_output, reset, talk]
  cases (liveTalker (recordsReset s)).isSome
  · exact ⟨_, rfl, redim_goal false y⟩
  · exact ⟨_, rfl, redim_goal false (y.redim true)⟩

end

/-! ### A RESET (R160) -/

section
variable (pr : Proposal) (s : State)

theorem agree_carryReset_narrow : Agree [.ports, .settings, .desks, .outputs, .talk, .clock, .phantom, .startQueue, .supplyGuard,
    .bus] s (carryReset pr s) := by
  obtain ⟨a, b, c, d, e, f, g, A, B⟩ :=
    changeSettings_blocks { Settings.reset with source := s.settings.source } (clearedByReset s)
  rw [carryReset_eq]
  exact ((((agree_clearedByReset_full s).mono).andThen A.agree).andThen B.agree).andThen (agree_post _ _)

theorem carryReset_settings : (carryReset pr s).settings = { Settings.reset with source := s.settings.source } := by
  rw [carryReset_eq]
  exact changeSettings_settings _ _

theorem carryReset_plan (q : Port) : ((carryReset pr s).port q).plan = defaultPlan s.rate := by
  have told := offers_post (ks := [21]) (.hubResetDone pr.number pr.proposer)
    (changeSettings { Settings.reset with source := s.settings.source } (clearedByReset s)) rfl
  have moved := (moves_changeSettings q { Settings.reset with source := s.settings.source } (clearedByReset s)).stands q .plan
    (by split <;> decide)
  rw [carryReset_eq, told.plan q]
  exact moved.trans (congrArg PortUnit.plan (clearedByReset_port s q))

theorem carryReset_desk (p : Port) (c : Chan) : ((carryReset pr s).desk p c).IsReset (s.channel c).net := by
  have desks : (changeSettings { Settings.reset with source := s.settings.source } (clearedByReset s)).desks =
      (clearedByReset s).desks := agree_settingEffects_narrow _ _ .desks (by decide)
  rw [carryReset_eq]
  exact (desk_of_desks desks p c).symm ▸ clearedByReset_desk s p c

theorem carryReset_claims : (carryReset pr s).talk.claims = [] := by
  obtain ⟨a, b, c, d, e, f, g, A, B⟩ :=
    changeSettings_blocks { Settings.reset with source := s.settings.source } (clearedByReset s)
  rw [carryReset_eq]
  show (changeSettings _ _).talk.claims = []
  exact B.claims_none A (clearedByReset_claims s)

theorem carryReset_clock : (carryReset pr s).clock = s.clock := by
  obtain ⟨a, b, c, d, e, f, g, A, B⟩ :=
    changeSettings_blocks { Settings.reset with source := s.settings.source } (clearedByReset s)
  have settings : (clearedByReset s).settings = s.settings := agree_clearedByReset_full s .settings (by decide)
  rw [carryReset_eq]
  exact (B.clock_same A (by rw [settings])).trans (agree_clearedByReset_full s .clock (by decide))

/-- An output of a RESET moves on at most with port 2, which the new qualify time may return from ISOLATED (R131). -/
theorem carryReset_followsPort (o : OutNo) : FollowsPort 1 o (clearedByReset s) (carryReset pr s) := by
  obtain ⟨a, b, c, d, e, f, g, A, B⟩ :=
    changeSettings_blocks { Settings.reset with source := s.settings.source } (clearedByReset s)
  obtain ⟨r, output, -⟩ := clearedByReset_output s o rfl
  have source := (hasDefaults_delayTested (resetState s o (s.output o)) o (s.output o)).source
  have told (t : State) : FollowsPort 1 o t (post (.hubResetDone pr.number pr.proposer) t) :=
    followsPort_of_agree (agree_post _ t) rfl (offers_post (ks := [21]) _ t rfl)
  rw [carryReset_eq]
  exact (B.followsPort A (clearedByReset_claims s) ⟨o, by rw [output]; exact source⟩).trans (told _)

/-- The settings of an output after a RESET, with its dim on the way back to 0 dB (R127, R139). -/
theorem carryReset_output (o : OutNo) : Output.HasDefaults o (s.output o) ((carryReset pr s).output o) ∧
    rampGoal ((carryReset pr s).output o).dimCoefficient ((carryReset pr s).output o).dimRamp = 65536 := by
  obtain ⟨r, output, goal⟩ := clearedByReset_output s o rfl
  obtain ⟨st, tm, cf, restated⟩ := (carryReset_followsPort pr s o).restated
  have kept := hasDefaults_delayTested (resetState s o (s.output o)) o (s.output o)
  rw [restated, output]
  exact ⟨⟨kept.source, kept.patchedBy, kept.fallbackChannel, kept.fallbackLevel, kept.fallbackDelay, kept.listen, kept.dim,
    kept.dimCoefficient⟩, goal⟩

/-- The state of an output after a RESET in which port 2 does not return from ISOLATED (R139). -/
theorem carryReset_output_state (stays : s.portState 1 = .isolated → (carryReset pr s).portState 1 ≠ .attached) (o : OutNo) :
    ∃ r, (carryReset pr s).output o =
      { ((s.output o).defaulted (resetState s o (s.output o)) o).delayTested with dimRamp := r } := by
  obtain ⟨r, output, -⟩ := clearedByReset_output s o rfl
  have before : (clearedByReset s).portState 1 = s.portState 1 := by
    rw [State.portState, clearedByReset_port]
    rfl
  obtain ⟨same, -⟩ | ⟨was, now⟩ := (carryReset_followsPort pr s o).stood
  · exact ⟨r, same.trans output⟩
  · exact absurd now (stays (before ▸ was))

/-- The state with every report queue emptied (R57). -/
def reportsEmptied (s : State) : State :=
  { s with ports := s.ports.each fun u => { u with control := { u.control with reports := [], lost := false } } }

/-- A RESET begins by emptying the report queues, so that it makes nothing of what they held (R57). -/
theorem carryReset_emptied : carryReset pr (reportsEmptied s) = carryReset pr s := by
  have plans : plansReset (reportsEmptied s) = plansReset s := by
    have ports : (reportsEmptied s).ports.each (PortUnit.clearedAt s.rate) = s.ports.each (PortUnit.clearedAt s.rate) :=
      Bank.ext_get fun q => by simp only [reportsEmptied, Bank.get_each]; rfl
    exact congrArg (fun ports => { s with ports := ports }) ports
  rw [carryReset_eq, carryReset_eq, clearedByReset, clearedByReset, recordsReset, recordsReset, plans]
  rfl

end

/-! ### The obligation (O59) -/

theorem exec_consentWindowExpired {pr : Proposal} {s : State} (hr : s.power = .running) (hp : s.consent.proposal = some pr)
    (due : 48000 * s.settings.consentWindow ≤ pr.elapsed) : exec .consentWindowExpired s = .next (carry pr s) := by
  refine congrArg Host.Outcome.next ((whenRunning_eq hr _).trans ?_)
  unfold testWindow
  rw [hp]
  exact if_pos (by rw [consentTarget_eq]; exact due)

theorem carry_consent (pr : Proposal) (s : State) : (carry pr s).consent = { s.consent with
    proposal := none, lastOutcome := some { number := pr.number, action := pr.action, proposer := pr.proposer,
                                            ending := .carried } } := by
  unfold carry
  dsimp only
  split
  · exact agree_carryRate _ pr _ .consent (by decide)
  · exact agree_carryGrant _ _ pr _ .consent (by decide)
  · exact agree_carryReset_narrow pr _ .consent (by decide)

/-- The state in which a proposal has ended and its report has been posted. -/
def endedAndTold (pr : Proposal) (s : State) : State :=
  post (.consentEnded pr.number pr.action pr.proposer .carried none none) (endProposal pr .carried s)

theorem carry_rate {pr : Proposal} {r : Rate} (h : pr.action = .rate r) (s : State) :
    carry pr s = carryRate r pr (endedAndTold pr s) := by
  unfold carry endedAndTold
  rw [h]

theorem carry_grant {pr : Proposal} {f l : Chan} (h : pr.action = .grant f l) (s : State) :
    carry pr s = carryGrant f l pr (endedAndTold pr s) := by
  unfold carry endedAndTold
  rw [h]

theorem carry_reset {pr : Proposal} (h : pr.action = .reset) (s : State) :
    carry pr s = carryReset pr (endProposal pr .carried s) := by
  unfold carry
  rw [h]

theorem posted_endedAndTold (pr : Proposal) (s : State) :
    Posted (.consentEnded pr.number pr.action pr.proposer .carried none none) (endedAndTold pr s) :=
  posted_post (by simp [Report.key]) _

theorem offers_endedAndTold (pr : Proposal) (s : State) : Offers [18] s (endedAndTold pr s) :=
  ((agree_endProposal pr _ s).offers rfl).trans (offers_post _ _ rfl)

/-- Settles O59, action by action. -/
theorem carriedProposalsAreExecuted : Obligations.CarriedProposalsAreExecuted := by
  intro pr s hr hp due
  refine ⟨carry pr s, exec_consentWindowExpired hr hp due, carry_consent pr s, fun r hrate => ?rate, fun f l hgrant => ?grant,
    fun hreset => ?reset⟩
  case rate =>
    rw [carry_rate hrate]
    have ended := offers_endedAndTold pr s
    have agree := agree_carryRate r pr (endedAndTold pr s)
    obtain ⟨rate, mute, plans, bus, told, still⟩ := carryRate_effects r pr (endedAndTold pr s)
    refine ⟨rate, mute, fun q => ?_, bus, (posted_endedAndTold pr s).still (still _ (by simp [Report.key])), told,
      agree .channels (by decide), agree .desks (by decide), agree .phantom (by decide), agree .outputs (by decide),
      agree .settings (by decide)⟩
    obtain ⟨plan, heard⟩ := plans q
    rw [ended.plan q, ended.portState q] at heard
    refine ⟨?_, heard⟩
    rw [plan, ended.plan q]
    cases r <;> rfl
  case grant =>
    rw [carry_grant hgrant]
    have agree := agree_carryGrant f l pr (endedAndTold pr s)
    have told := (posted_endedAndTold pr s).offers (offers_carryGrant f l pr _) (by simp [Report.key])
    exact ⟨told, carryGrant_channel f l pr _, fun c hf hl new => carryGrant_told ⟨hf, hl⟩ new, agree .rate (by decide),
      agree .rateMute (by decide), agree .desks (by decide), agree .phantom (by decide), agree .outputs (by decide),
      agree .settings (by decide)⟩
  case reset =>
    rw [carry_reset hreset]
    have agree := agree_carryReset_narrow pr (endProposal pr .carried s)
    refine ⟨carryReset_settings pr _, fun q => ?plan, carryReset_desk pr _, fun o => ?output, ?emptied,
      fun stays o st hst fade hfade => ?state, carryReset_claims pr _, agree .rate (by decide), agree .rateMute (by decide), agree .channels (by decide),
      agree .cards (by decide), carryReset_clock pr _, agree .retained (by decide), ?told⟩
    case plan =>
      rw [carryReset_plan]
      show defaultPlan s.rate = _
      cases s.rate <;> rfl
    case output =>
      obtain ⟨kept, goal⟩ := carryReset_output pr (endProposal pr .carried s) o
      exact ⟨kept.source, kept.patchedBy, kept.fallbackChannel, kept.fallbackLevel, kept.fallbackDelay, kept.listen, kept.dim,
        kept.dimCoefficient, goal⟩
    case emptied =>
      have run : exec .consentWindowExpired (reportsEmptied s) = .next (carry pr (reportsEmptied s)) :=
        exec_consentWindowExpired hr hp due
      rw [carry_reset hreset] at run
      exact run.trans (congrArg Host.Outcome.next (carryReset_emptied pr (endProposal pr .carried s)))
    case state =>
      have given : resetState (endProposal pr .carried s) o (s.output o) = st := by
        have state : (endProposal pr .carried s).portState 1 = s.portState 1 := rfl
        cases hs : s.portState 1 <;> simp only [hst, resetState, patchedState, state, hs]
      obtain ⟨r, output⟩ := carryReset_output_state pr (endProposal pr .carried s) stays o
      rw [show (endProposal pr .carried s).output o = s.output o from rfl, given] at output
      rw [output, hfade, ← defaulted_crossfade]
      exact ⟨delayTested_due, fun notDue => by rw [delayTested_notDue notDue]; exact ⟨rfl, rfl, rfl⟩⟩
    case told =>
      rw [carryReset_eq]
      exact posted_post (by simp [Report.key]) _

end Sys2Proof.Machine
end

section
/-! PROOF. Operations on the records of one channel: which reports they offer, what they leave of every other channel, and what
they do to the queues of the card bus: the layer under O14, O36 to O41 and O46. -/

namespace Sys2Proof.Machine

/-! ### Reports by their kind and subject -/

/-- From s to t every port has been offered reports of the kinds and subjects named, and its unit is otherwise as it was. -/
def Tells (K : Nat × Nat → Prop) (s t : State) : Prop :=
  ∀ q, ∃ rs : List Report, (∀ r ∈ rs, K r.key) ∧
    t.port q = { s.port q with control := rs.foldl Control.offer (s.port q).control }

theorem Offers.tells {ks : List Nat} {s t : State} (h : Offers ks s t) : Tells (fun k => k.1 ∈ ks) s t := h

/-- A report that stands after an offer of another kind or subject stood before it. -/
theorem Control.mem_of_mem_offer {k : Control} {q r : Report} (hq : q ∈ (k.offer r).reports) (hk : q.key ≠ r.key) :
    q ∈ k.reports := by
  unfold Control.offer at hq
  split at hq
  · obtain ⟨x, hx, e⟩ := List.mem_map.1 hq
    split at e
    · exact absurd (e ▸ Report.replacing_key x r) hk
    · exact e ▸ hx
  · split at hq
    · exact (List.mem_append.1 hq).resolve_right fun h => hk (congrArg Report.key (List.mem_singleton.1 h))
    · exact hq

theorem Control.mem_of_mem_foldl_offer {r : Report} {rs : List Report} (hr : ∀ x ∈ rs, r.key ≠ x.key) (k : Control)
    (h : r ∈ (rs.foldl Control.offer k).reports) : r ∈ k.reports := by
  induction rs generalizing k with
  | nil => exact h
  | cons x rs ih =>
    exact Control.mem_of_mem_offer (ih (fun y hy => hr y (List.mem_cons_of_mem _ hy)) _ h) (hr x List.mem_cons_self)

section
variable {K : Nat × Nat → Prop} {s t u : State}

theorem Tells.of_ports (h : t.ports = s.ports) : Tells K s t := fun q =>
  ⟨[], by simp, by simp only [State.port, h, List.foldl_nil]⟩

theorem Tells.refl (s : State) : Tells K s s := .of_ports rfl

theorem Tells.trans (h : Tells K s t) (g : Tells K t u) : Tells K s u := by
  intro q
  obtain ⟨rs, hr, e⟩ := h q
  obtain ⟨xs, hx, e'⟩ := g q
  exact ⟨rs ++ xs, fun r hm => (List.mem_append.1 hm).elim (hr r) (hx r), by rw [e', e, List.foldl_append]⟩

theorem Tells.post {r : Report} (hr : K r.key) (s : State) : Tells K s (post r s) := by
  intro q
  rw [post_port]
  split
  · exact ⟨[r], by simpa using hr, rfl⟩
  · exact ⟨[], by simp, rfl⟩

theorem Tells.postTo {r : Report} (hr : K r.key) (p : Port) (s : State) : Tells K s (postTo p r s) := by
  intro q
  rw [postTo_port]
  split
  · exact ⟨[r], by simpa using hr, rfl⟩
  · exact ⟨[], by simp, rfl⟩

theorem Tells.portState (h : Tells K s t) (q : Port) : t.portState q = s.portState q := by
  obtain ⟨rs, -, e⟩ := h q
  rw [State.portState, e]
  rfl

theorem Tells.heard (h : Tells K s t) {r : Report} (hr : ¬ K r.key) {q : Port} (hh : Heard r q s) : Heard r q t := by
  obtain ⟨rs, hk, e⟩ := h q
  unfold Heard
  rw [e]
  exact Control.heard_foldl_offer (fun x hx hxr => hr (hxr ▸ hk x hx)) _ hh

theorem Tells.posted (h : Tells K s t) {r : Report} (hr : ¬ K r.key) (hp : Posted r s) : Posted r t :=
  fun q hq => h.heard hr (hp q (h.portState q ▸ hq))

/-- A report of a kind or subject that was not offered stood before. -/
theorem Tells.mem_of_mem (h : Tells K s t) {r : Report} (hr : ¬ K r.key) {q : Port} (hm : r ∈ (t.port q).control.reports) :
    r ∈ (s.port q).control.reports := by
  obtain ⟨rs, hk, e⟩ := h q
  rw [e] at hm
  exact Control.mem_of_mem_foldl_offer (fun x hx hxr => hr (hxr ▸ hk x hx)) _ hm

end

/-! ### Operations made of updates of one channel -/

/-- A relation that holds across every plain update that an operation on channel c is made of. -/
structure Respects (c : Chan) (R : State → State → Prop) : Prop where
  refl : ∀ s, R s s
  trans : ∀ {s t u}, R s t → R t u → R s u
  channel : ∀ f s, R s (modChannel c f s)
  desk : ∀ p f s, R s (modDesk p c f s)
  phantom : ∀ f s, R s (modPhantom c f s)
  starts : ∀ st s, R s (resetGuard { s with startQueue := queueAfter st c s.startQueue })
  write : ∀ s, R s (queueWrite c s)
  quiet : ∀ s, R s (restartQuiet s)
  reads : ∀ s, R s { s with freeReads := s.freeReads + 1 }
  tell : ∀ r s, r.key.2 = c.val → R s (post r s)
  tellPort : ∀ p r s, r.key.2 = c.val → R s (postTo p r s)

section
variable {c : Chan} {R : State → State → Prop}

theorem Respects.ite (_ : Respects c R) {s t u : State} {x : Prop} [Decidable x] (ht : R s t) (hu : R s u) :
    R s (if x then t else u) := by split <;> assumption

variable (h : Respects c R)
include h

theorem Respects.postPhantom (why : PhantomReason) (s : State) : R s (postPhantom c why s) := h.tell _ s rfl

theorem Respects.postApplied (who : Option Port) (due : Nat) (s : State) : R s (postApplied c who due s) := by
  unfold Machine.postApplied
  split
  · exact h.tell _ s rfl
  · exact h.refl s

theorem Respects.changeSetting (f : Channel → Channel) (s : State) : R s (changeSetting c f s) := by
  have changed := h.channel f s
  have quiet (x : Prop) [Decidable x] : R s (if x then modChannel c f s else restartQuiet (modChannel c f s)) :=
    h.ite changed (h.trans changed (h.quiet _))
  exact h.ite (quiet _) (h.trans (quiet _) (h.tell _ _ rfl))

theorem Respects.enterPhantom (st : PhantomState) (s : State) : R s (enterPhantom c st s) := by
  have entered := h.trans (h.phantom (fun r => { r with state := st, timer := entryTimer st (s.channel c).cardPhantom }) s)
    (h.starts st _)
  exact h.ite (h.trans entered (h.write _)) entered

theorem Respects.changePhantom (st : PhantomState) (why : PhantomReason) (s : State) : R s (changePhantom c st why s) :=
  h.trans (h.enterPhantom st s) (h.postPhantom why _)

theorem Respects.startPhantom (s : State) : R s (startPhantom c s) :=
  h.trans (h.trans (h.enterPhantom .rampUp s) (h.write _)) (h.postPhantom .started _)

theorem Respects.limitNotice (p : Port) (s : State) : R s (limitNotice p c s) :=
  h.ite (h.trans (h.tellPort p _ s rfl) (h.desk p _ _)) (h.refl s)

theorem Respects.computeRecord (how : Nat → DeskRecord → DeskRecord) (p : Port) (s : State) : R s (computeRecord how p c s) :=
  h.trans (h.desk p _ s) (h.limitNotice p _)

theorem Respects.forEach {α : Type} {f : α → State → State} (hf : ∀ a t, R t (f a t)) (l : List α) (s : State) :
    R s (forEach f l s) :=
  forEach_keeps (P := R s) (fun a t ht => h.trans ht (hf a t)) l s (h.refl s)

theorem Respects.firstNetGain (s : State) : R s (firstNetGain c s) :=
  h.forEach (fun p t => h.trans (h.desk p _ t) (h.computeRecord _ p _)) _ s

theorem Respects.takeDesired (p : Port) (f : GainPad → GainPad) (s : State) : R s (takeDesired p f c s) :=
  h.ite (h.refl s) (h.trans (h.changeSetting _ s) (h.write _))

theorem Respects.setCardPhantom (on : Bool) (s : State) : R s (setCardPhantom c on s) :=
  h.trans (h.channel _ s) (h.phantom _ _)

theorem Respects.phantomFaulted (k : Card) (status : Byte) (s : State) : R s (phantomFaulted k status c s) := by
  have entered : R s (if (s.phantomOf c).state = .off then s else Machine.enterPhantom c .off s) :=
    h.ite (h.refl s) (h.enterPhantom .off s)
  have queued {t : State} (ht : R s t) (x : Prop) [Decidable x] : R s (if x then queueWrite c t else t) :=
    h.ite (h.trans ht (h.write t)) ht
  have faulted {t : State} (ht : R s t) (x : Prop) [Decidable x] (f : PhantomRecord → PhantomRecord) (r : Report)
      (hr : r.key.2 = c.val) : R s (if x then t else post r (modPhantom c f t)) :=
    h.ite ht (h.trans (h.trans ht (h.phantom f t)) (h.tell r _ hr))
  have told {t : State} (ht : R s t) (x : Prop) [Decidable x] : R s (if x then t else Machine.postPhantom c .fault t) :=
    h.ite ht (h.trans ht (h.postPhantom .fault t))
  exact told (faulted (h.trans (queued entered _) (h.changeSetting _ _)) _ _ _ rfl) _

theorem Respects.phantomReported (on : Bool) (s : State) : R s (phantomReported on c s) := by
  have marked := h.phantom (fun r => { r with fault := false }) s
  have changed (st : PhantomState) :
      R s (Machine.changePhantom c st .cardReported (modPhantom c (fun r => { r with fault := false }) s)) :=
    h.trans marked (h.changePhantom st .cardReported _)
  unfold Machine.phantomReported
  split
  · exact changed _
  · exact changed _
  · exact changed _
  · exact changed _
  · exact marked

theorem Respects.phantomAbsent (s : State) : R s (phantomAbsent c s) := by
  unfold Machine.phantomAbsent
  split
  · exact h.changePhantom _ _ s
  · exact h.changePhantom _ _ s
  · exact h.changePhantom _ _ s
  · exact h.changePhantom _ _ s
  · exact h.refl s
  · exact h.refl s

theorem Respects.laterReply (v : GainPad) (s : State) : R s (laterReply c v s) :=
  h.ite (h.refl s) (h.trans (h.channel _ s) (h.channel _ _))

theorem Respects.firstReply (v : GainPad) (s : State) : R s (firstReply c v s) :=
  h.trans (h.trans (h.trans (h.reads s) (h.channel _ _)) (h.postApplied _ _ _)) (h.firstNetGain _)

theorem Respects.writeTest (s : State) : R s (writeTest c s) := h.ite (h.refl s) (h.write s)

theorem Respects.channelReplied (k : Card) (known : Bool) (status : Byte) (d : CardChannel) (s : State) :
    R s (channelReplied k known status c d s) := by
  have values : R s ((if known then Machine.laterReply c (reportedValue d) else Machine.firstReply c (reportedValue d)) s) := by
    cases known
    · exact h.firstReply _ s
    · exact h.laterReply _ s
  have timed := h.trans values (h.setCardPhantom d.phantomOn _)
  unfold Machine.channelReplied
  refine h.trans ?_ (h.writeTest _)
  cases d.phantomFault
  · exact h.trans timed (h.phantomReported _ _)
  · exact h.trans timed (h.phantomFaulted _ _ _)

end

/-! ### What is left of another channel -/

/-- From s to t all that belongs to channel c stands: its records, its places in the queues and the reports about it; and a
quiet timer at 0 is at 0 still. -/
structure Spares (c : Chan) (s t : State) : Prop where
  channel : t.channel c = s.channel c
  desk : ∀ p, t.desk p c = s.desk p c
  phantom : Untouched c s t
  waits : c ∈ t.bus.writeQueue ↔ c ∈ s.bus.writeQueue
  quiet : s.retained.quiet = some 0 → t.retained.quiet = some 0
  tells : Tells (fun k => k.2 ≠ c.val) s t

section
variable {c d : Chan} {s t u : State}

theorem Spares.refl (s : State) : Spares c s s := ⟨rfl, fun _ => rfl, .refl c s, .rfl, id, .refl s⟩

theorem Spares.trans (h : Spares c s t) (g : Spares c t u) : Spares c s u where
  channel := g.channel.trans h.channel
  desk p := (g.desk p).trans (h.desk p)
  phantom := h.phantom.trans g.phantom
  waits := g.waits.trans h.waits
  quiet := g.quiet ∘ h.quiet
  tells := h.tells.trans g.tells

/-- The parts of the state in which channels have their records, their places and their reports. -/
def channelParts : List Part := [.channels, .desks, .phantom, .startQueue, .bus, .retained, .ports]

/-- An operation that reaches none of those parts. -/
theorem Agree.spares {ps : List Part} (h : Agree ps s t) (hp : channelParts.all (fun x => !ps.contains x) = true) :
    Spares c s t := by
  have out (x : Part) (hx : x ∈ channelParts) : x.same s t := h x (by simpa using List.all_eq_true.1 hp x hx)
  have desks : t.desks = s.desks := out .desks (by decide)
  have bus : t.bus = s.bus := out .bus (by decide)
  have retained : t.retained = s.retained := out .retained (by decide)
  exact ⟨congrArg (Bank.get · c) (out .channels (by decide)), fun p => by simp only [State.desk, desks],
    .of_eq (out .phantom (by decide)) (out .startQueue (by decide)), by rw [bus], by rw [retained]; exact id,
    .of_ports (out .ports (by decide))⟩

theorem Spares.post {r : Report} (hr : r.key.2 ≠ c.val) (s : State) : Spares c s (post r s) :=
  ⟨rfl, fun _ => rfl, .refl c s, .rfl, id, .post hr s⟩

theorem Spares.postTo {r : Report} (hr : r.key.2 ≠ c.val) (p : Port) (s : State) : Spares c s (postTo p r s) := by
  have agree := agree_postTo p r s
  have desks : (Machine.postTo p r s).desks = s.desks := agree .desks (by decide)
  have bus : (Machine.postTo p r s).bus = s.bus := agree .bus (by decide)
  have retained : (Machine.postTo p r s).retained = s.retained := agree .retained (by decide)
  exact ⟨congrArg (Bank.get · c) (agree .channels (by decide)), fun q => by simp only [State.desk, desks],
    .of_eq (agree .phantom (by decide)) (agree .startQueue (by decide)), by rw [bus], by rw [retained]; exact id, .postTo hr p s⟩

theorem mem_queueWrite : c ∈ (queueWrite d s).bus.writeQueue ↔ c = d ∨ c ∈ s.bus.writeQueue := by
  unfold queueWrite
  rw [modBus_bus]
  split
  · next h => exact ⟨.inr, fun hc => hc.elim (fun e => e ▸ h) id⟩
  · simp [or_comm]

/-- An operation on one channel spares the others. -/
theorem respects_spares (h : d ≠ c) : Respects d (Spares c) where
  refl := .refl
  trans := .trans
  channel f s := ⟨modChannel_channel_ne h f s, fun _ => rfl, .refl c s, .rfl, id, .of_ports rfl⟩
  desk p f s := by
    refine ⟨rfl, fun q => ?_, .refl c s, .rfl, id, .of_ports rfl⟩
    rw [modDesk_desk, if_neg fun e => h e.2]
  phantom f s := ⟨rfl, fun _ => rfl, ⟨by rw [modPhantom_phantomOf, if_neg h], .rfl⟩, .rfl, id, .of_ports rfl⟩
  starts st s := by
    refine ⟨rfl, fun _ => rfl, ⟨rfl, ?_⟩, .rfl, id, .of_ports rfl⟩
    show c ∈ queueAfter st d s.startQueue ↔ _
    rw [mem_queueAfter, if_neg h.symm]
  write s := ⟨rfl, fun _ => rfl, untouched_queueWrite c d s, by rw [mem_queueWrite, or_iff_right h.symm], id, .of_ports rfl⟩
  quiet s := ⟨rfl, fun _ => rfl, .refl c s, .rfl, fun _ => rfl, .of_ports rfl⟩
  reads s := ⟨rfl, fun _ => rfl, .refl c s, .rfl, id, .of_ports rfl⟩
  tell r s hr := .post (fun e => h (Fin.ext (hr.symm.trans e))) s
  tellPort p r s hr := .postTo (fun e => h (Fin.ext (hr.symm.trans e))) p s

end

/-! ### Writes queued on the card bus -/

/-- From s to t the bus has been given writes alone: they join its write queue, each once (R70). -/
structure QueuesWrites (s t : State) : Prop where
  transaction : t.bus.transaction = s.bus.transaction
  broadcasts : t.bus.broadcasts = s.bus.broadcasts
  grows : ∀ c ∈ s.bus.writeQueue, c ∈ t.bus.writeQueue
  nodup : s.bus.writeQueue.Nodup → t.bus.writeQueue.Nodup

section
variable {s t u : State}

theorem QueuesWrites.of_bus (h : t.bus = s.bus) : QueuesWrites s t := by
  constructor <;> rw [h]
  · exact fun _ => id
  · exact id

theorem QueuesWrites.refl (s : State) : QueuesWrites s s := .of_bus rfl

theorem QueuesWrites.trans (h : QueuesWrites s t) (g : QueuesWrites t u) : QueuesWrites s u where
  transaction := g.transaction.trans h.transaction
  broadcasts := g.broadcasts.trans h.broadcasts
  grows c hc := g.grows c (h.grows c hc)
  nodup := g.nodup ∘ h.nodup

theorem Agree.queuesWrites {ps : List Part} (h : Agree ps s t) (hp : ps.contains .bus = false) : QueuesWrites s t :=
  .of_bus (h .bus (by simpa using hp))

theorem QueuesWrites.ite {x : Prop} [Decidable x] (h : QueuesWrites s t) (g : QueuesWrites s u) :
    QueuesWrites s (if x then t else u) := by split <;> assumption

theorem QueuesWrites.forEach {α : Type} {f : α → State → State} (h : ∀ a t, QueuesWrites t (f a t)) (l : List α) (s : State) :
    QueuesWrites s (forEach f l s) :=
  forEach_keeps (P := QueuesWrites s) (fun a t ht => ht.trans (h a t)) l s (.refl s)

theorem queuesWrites_queueWrite (c : Chan) (s : State) : QueuesWrites s (queueWrite c s) := by
  refine ⟨?_, ?_, fun d hd => mem_queueWrite.2 (.inr hd), fun hn => ?_⟩
  · unfold queueWrite; rw [modBus_bus]; split <;> rfl
  · unfold queueWrite; rw [modBus_bus]; split <;> rfl
  · unfold queueWrite
    rw [modBus_bus]
    split
    · exact hn
    · next h => exact List.nodup_append.2 ⟨hn, List.nodup_singleton c, by simpa using fun a ha (e : a = c) => h (e ▸ ha)⟩

theorem respects_queuesWrites (c : Chan) : Respects c QueuesWrites where
  refl := .refl
  trans := .trans
  channel _ _ := .of_bus rfl
  desk _ _ _ := .of_bus rfl
  phantom _ _ := .of_bus rfl
  starts _ _ := .of_bus rfl
  write := queuesWrites_queueWrite c
  quiet _ := .of_bus rfl
  reads _ := .of_bus rfl
  tell _ _ _ := .of_bus rfl
  tellPort p r s _ := (agree_postTo p r s).queuesWrites rfl

end

end Sys2Proof.Machine
end

section
/-! PROOF. Changes of one channel's phantom state, and the starts that the sequencer makes, as one channel feels them: the layer
under O40, O41 and O46. -/

namespace Sys2Proof.Machine

/-! ### PHANTOM STATE (R111) -/

section
variable {c : Chan} {st : PhantomState} {why : PhantomReason} {s t u : State}

theorem phantomPosted_postPhantom (hs : (s.phantomOf c).state = st) (hq : c ∈ s.startQueue ↔ st = .queued) :
    PhantomPosted c st why (postPhantom c why s) := by
  refine ⟨if c ∈ s.startQueue then some (s.startQueue.idxOf c + 1) else none, rampingCount s, ?_, ?_⟩
  · rw [← hq]; split <;> simp_all
  · subst hs
    exact posted_post (r := .phantomState _ _ _ _ _ _ _) (by simp [Report.key]) s

/-- What was posted stands posted while the channel's record stands and no report of its kind and subject is offered. -/
theorem PhantomPosted.still {K : Nat × Nat → Prop} (h : PhantomPosted c st why s) (hc : t.channel c = s.channel c)
    (ht : Tells K s t) (hk : ¬ K (6, c.val)) : PhantomPosted c st why t := by
  obtain ⟨pos, ramping, queued, posted⟩ := h
  exact ⟨pos, ramping, queued, by rw [hc]; exact ht.posted hk posted⟩

theorem PhantomPosted.spares (h : PhantomPosted c st why s) (g : Spares c s t) : PhantomPosted c st why t :=
  h.still g.channel g.tells (fun hk => hk rfl)

/-! ### A channel enters a phantom state (R102, R104) -/

/-- From s to t channel c has entered a phantom state, with PHANTOM STATE for it, and nothing else of it has moved but that a
write of it may wait. -/
structure Entered (c : Chan) (st : PhantomState) (why : PhantomReason) (s t : State) : Prop where
  channel : t.channel c = s.channel c
  desk : ∀ p, t.desk p c = s.desk p c
  record : t.phantomOf c = { s.phantomOf c with state := st, timer := entryTimer st (s.channel c).cardPhantom }
  queue : c ∈ t.startQueue ↔ st = .queued
  writes : c ∈ s.bus.writeQueue → c ∈ t.bus.writeQueue
  commands : (s.phantomOf c).state.commanded ≠ st.commanded → (s.channel c).cardPhantom ≠ some st.commanded →
    c ∈ t.bus.writeQueue
  quiet : s.retained.quiet = some 0 → t.retained.quiet = some 0
  tells : Tells (fun k => k.2 = c.val → k.1 = 6) s t
  posted : PhantomPosted c st why t

theorem Spares.tellsAbout (h : Spares c s t) : Tells (fun k => k.2 = c.val → k.1 = 6) s t := fun q =>
  let ⟨rs, hr, e⟩ := h.tells q
  ⟨rs, fun r hm hk => absurd hk (hr r hm), e⟩

theorem Entered.of_spares (g : Spares c s t) (h : Entered c st why t u) : Entered c st why s u where
  channel := h.channel.trans g.channel
  desk p := (h.desk p).trans (g.desk p)
  record := by rw [h.record, g.phantom.1, g.channel]
  queue := h.queue
  writes hw := h.writes (g.waits.2 hw)
  commands hc hp := h.commands (by rwa [g.phantom.1]) (by rwa [g.channel])
  quiet := h.quiet ∘ g.quiet
  tells := g.tellsAbout.trans h.tells
  posted := h.posted

theorem Entered.spares (h : Entered c st why s t) (g : Spares c t u) : Entered c st why s u where
  channel := g.channel.trans h.channel
  desk p := (g.desk p).trans (h.desk p)
  record := g.phantom.1.trans h.record
  queue := g.phantom.2.trans h.queue
  writes hw := g.waits.2 (h.writes hw)
  commands hc hp := g.waits.2 (h.commands hc hp)
  quiet := g.quiet ∘ h.quiet
  tells := h.tells.trans g.tellsAbout
  posted := h.posted.spares g

theorem Entered.state (h : Entered c st why s t) : (t.phantomOf c).state = st := by rw [h.record]
theorem Entered.fault (h : Entered c st why s t) : (t.phantomOf c).fault = (s.phantomOf c).fault := by rw [h.record]
theorem Entered.timer (h : Entered c st why s t) : (t.phantomOf c).timer = entryTimer st (s.channel c).cardPhantom := by
  rw [h.record]

end

section
variable (c : Chan) (st : PhantomState) (s : State)

theorem enterPhantom_phantomOf :
    (enterPhantom c st s).phantomOf c = { s.phantomOf c with state := st, timer := entryTimer st (s.channel c).cardPhantom } := by
  simp only [State.phantomOf, (enterPhantom_phantom c st s).1, Bank.get_modify_same]

/-- A change of the commanded phantom that the card does not show yet queues a write (R69, R104). -/
theorem mem_writeQueue_enterPhantom (hc : (s.phantomOf c).state.commanded ≠ st.commanded)
    (hp : (s.channel c).cardPhantom ≠ some st.commanded) : c ∈ (enterPhantom c st s).bus.writeQueue := by
  unfold enterPhantom
  dsimp only
  rw [if_pos ⟨hc, hp⟩]
  exact mem_queueWrite.2 (.inl rfl)

theorem enterPhantom_same_parts (p : Port) :
    (enterPhantom c st s).channel c = s.channel c ∧ (enterPhantom c st s).desk p c = s.desk p c ∧
      (enterPhantom c st s).retained = s.retained ∧ (enterPhantom c st s).ports = s.ports := by
  have agree := agree_enterPhantom c st s
  exact ⟨congrArg (Bank.get · c) (agree .channels (by decide)), desk_of_desks (agree .desks (by decide)) p c,
    agree .retained (by decide), agree .ports (by decide)⟩

theorem tells_postPhantom (why : PhantomReason) : Tells (fun k => k.2 = c.val → k.1 = 6) s (postPhantom c why s) :=
  Tells.post (fun _ => rfl) s

theorem entered_changePhantom (why : PhantomReason) : Entered c st why s (changePhantom c st why s) := by
  obtain ⟨state, queue⟩ := enterPhantom_same c st s
  have same := enterPhantom_same_parts c st s
  exact
    { channel := (same 0).1
      desk := fun p => (same p).2.1
      record := enterPhantom_phantomOf c st s
      queue := queue
      writes := fun hw => ((respects_queuesWrites c).enterPhantom st s).grows c hw
      commands := mem_writeQueue_enterPhantom c st s
      quiet := fun hq => (congrArg Retained.quiet (same 0).2.2.1).trans hq
      tells := (Tells.of_ports (same 0).2.2.2).trans (tells_postPhantom c _ why)
      posted := phantomPosted_postPhantom state queue }

theorem entered_startPhantom : Entered c .rampUp .started s (startPhantom c s) ∧ c ∈ (startPhantom c s).bus.writeQueue := by
  obtain ⟨state, queue⟩ := enterPhantom_same c .rampUp s
  have same := enterPhantom_same_parts c .rampUp s
  have waits : c ∈ (startPhantom c s).bus.writeQueue := mem_queueWrite.2 (.inl rfl)
  exact ⟨
    { channel := (same 0).1
      desk := fun p => (same p).2.1
      record := enterPhantom_phantomOf c .rampUp s
      queue := queue
      writes := fun _ => waits
      commands := fun _ _ => waits
      quiet := fun hq => (congrArg Retained.quiet (same 0).2.2.1).trans hq
      tells := (Tells.of_ports (same 0).2.2.2).trans (tells_postPhantom c _ .started)
      posted := phantomPosted_postPhantom (s := queueWrite c (enterPhantom c .rampUp s)) state queue }, waits⟩

end

/-! ### The test for starts (R103) -/

section
variable {c d : Chan} {s t : State}

/-- What starts is the oldest queued channel on a PRESENT card, while fewer than 4 are in RAMP_UP. -/
theorem nextStart_eq_some : nextStart s = some d ↔
    rampingCount s < 4 ∧ s.startQueue.find? (fun x => s.cardPresent x) = some d := by
  unfold nextStart Config.maxRamping
  split <;> simp_all

theorem nextStart_spec (h : nextStart s = some d) : d ∈ s.startQueue ∧ s.cardPresent d = true := by
  obtain ⟨-, found⟩ := nextStart_eq_some.1 h
  exact ⟨List.mem_of_find?_eq_some found, by simpa using List.find?_some found⟩

theorem spares_startPhantom (h : d ≠ c) (s : State) : Spares c s (startPhantom d s) := (respects_spares h).startPhantom s

theorem startPhantom_cards (d : Chan) (s : State) : (startPhantom d s).cards = s.cards :=
  agree_startPhantom d s .cards (by decide)

theorem cardPresent_congr (h : t.cards = s.cards) (c : Chan) : t.cardPresent c = s.cardPresent c := by
  unfold State.cardPresent State.card
  rw [h]

/-- A channel that does not wait, or waits on an ABSENT card, is spared by the starts. -/
theorem spares_startUpTo (n : Nat) (h : ¬ (c ∈ s.startQueue ∧ s.cardPresent c = true)) : Spares c s (startUpTo n s) := by
  induction n generalizing s with
  | zero => exact .refl s
  | succ n ih =>
    unfold startUpTo
    split
    · exact .refl s
    · next d hd =>
      have other : d ≠ c := fun e => h (e ▸ nextStart_spec hd)
      have spared := spares_startPhantom other s
      refine spared.trans (ih ?_)
      rw [spared.phantom.2, cardPresent_congr (startPhantom_cards d s)]
      exact h

theorem spares_startQueued (h : ¬ (c ∈ s.startQueue ∧ s.cardPresent c = true)) : Spares c s (startQueued s) :=
  spares_startUpTo _ h

/-- From s to t channel c, which waited on a PRESENT card, has been started (R103). -/
def StartMade (c : Chan) (s t : State) : Prop :=
  (c ∈ s.startQueue ∧ s.cardPresent c = true) ∧ Entered c .rampUp .started s t ∧ c ∈ t.bus.writeQueue

/-- The test for starts spares a channel or starts it. -/
theorem startUpTo_cases (n : Nat) (c : Chan) (s : State) : Spares c s (startUpTo n s) ∨ StartMade c s (startUpTo n s) := by
  induction n generalizing s with
  | zero => exact .inl (.refl s)
  | succ n ih =>
    unfold startUpTo
    split
    · exact .inl (.refl s)
    · next d hd =>
      by_cases e : d = c
      · subst e
        obtain ⟨entered, waits⟩ := entered_startPhantom d s
        have out : d ∉ (startPhantom d s).startQueue := fun hq => by cases entered.queue.1 hq
        have rest : Spares d (startPhantom d s) (startUpTo n (startPhantom d s)) := spares_startUpTo n fun hq => out hq.1
        exact .inr ⟨nextStart_spec hd, entered.spares rest, rest.waits.2 waits⟩
      · have spared := spares_startPhantom e s
        refine (ih (startPhantom d s)).imp spared.trans fun ⟨⟨waited, present⟩, entered, waits⟩ => ?_
        rw [cardPresent_congr (startPhantom_cards d s)] at present
        exact ⟨⟨spared.phantom.2.1 waited, present⟩, .of_spares spared entered, waits⟩

theorem startQueued_cases (c : Chan) (s : State) : Spares c s (startQueued s) ∨ StartMade c s (startQueued s) :=
  startUpTo_cases _ c s

theorem queuesWrites_startQueued (s : State) : QueuesWrites s (startQueued s) :=
  startQueued_keeps (P := QueuesWrites s) (fun d t _ ht => ht.trans ((respects_queuesWrites d).startPhantom t)) (.refl s)

end

end Sys2Proof.Machine
end

section
/-! PROOF. The records of a channel computed, with their limit notices; applications that fall due: settles O38. -/

namespace Sys2Proof.Machine

/-! ### One record computed (R80, R82, R83) -/

section
variable {p : Port} {c : Chan} {s t u : State}

/-- From s to t a record of channel c and its port have stood. -/
structure RecordStands (p : Port) (c : Chan) (s t : State) : Prop where
  desk : t.desk p c = s.desk p c
  channel : t.channel c = s.channel c
  port : t.port p = s.port p

theorem RecordStands.refl (s : State) : RecordStands p c s s := ⟨rfl, rfl, rfl⟩

theorem RecordStands.trans (h : RecordStands p c s t) (g : RecordStands p c t u) : RecordStands p c s u :=
  ⟨g.desk.trans h.desk, g.channel.trans h.channel, g.port.trans h.port⟩

theorem RecordStands.portState (h : RecordStands p c s t) : t.portState p = s.portState p :=
  congrArg (fun u : PortUnit => u.record.state) h.port

/-- What the limit did is told of a state before in which the record was armed alike. -/
theorem LimitTold.of_armed (h : LimitTold p c t u) (ha : (t.desk p c).limitArmed = (s.desk p c).limitArmed)
    (hp : t.portState p = s.portState p) : LimitTold p c s u := by
  unfold LimitTold at h ⊢
  rwa [ha, hp] at h

/-- What the limit did is told of a later state in which the record stands and what its port heard is heard still. -/
theorem LimitTold.still (h : LimitTold p c s t) (hd : u.desk p c = t.desk p c) (hc : (u.channel c).net = (t.channel c).net)
    (hh : ∀ r : Report, r.key = (9, c.val) → Heard r p t → Heard r p u) : LimitTold p c s u := by
  obtain ⟨limited, told, stands⟩ := h
  unfold LimitTold
  rw [hd, hc]
  exact ⟨limited, fun hl ha hp => ⟨(told hl ha hp).1, hh _ rfl (told hl ha hp).2⟩, stands⟩

theorem LimitTold.stands (h : LimitTold p c s t) (g : RecordStands p c t u) : LimitTold p c s u :=
  h.still g.desk (by rw [g.channel]) fun r _ hh => by unfold Heard; rwa [g.port]

/-- A way for the coefficient to reach its value, which leaves the other fields of the record. -/
def MovesCoefficient (how : Nat → DeskRecord → DeskRecord) : Prop :=
  ∀ k r, how k r =
    { r with coefficient := (how k r).coefficient, ramp := (how k r).ramp, stepNext := (how k r).stepNext }

theorem movesCoefficient_stepTo : MovesCoefficient DeskRecord.stepTo := fun _ _ => rfl
theorem movesCoefficient_stepLater : MovesCoefficient DeskRecord.stepLater := fun _ _ => rfl

/-- The record of p and c as the computation leaves it, before its limit notice. -/
def computedRecord (how : Nat → DeskRecord → DeskRecord) (p : Port) (c : Chan) (s : State) : DeskRecord :=
  how (coefficientOf ((s.desk p c).compute (s.channel c).net).comp) ((s.desk p c).compute (s.channel c).net)

theorem computeRecord_eq (how : Nat → DeskRecord → DeskRecord) (p : Port) (c : Chan) (s : State) :
    computeRecord how p c s = limitNotice p c (modDesk p c (fun _ => computedRecord how p c s) s) := by
  unfold computeRecord computedRecord
  simp only [State.desk, modDesk, Bank.modify, Bank.get]

/-- A personal report that has just been offered to a port that is not VACANT has been heard there (R50). -/
theorem heard_postTo {r : Report} (hr : r.key.1 < 22) (hp : s.portState p ≠ .vacant) : Heard r p (postTo p r s) := by
  unfold Heard
  rw [postTo_port, if_pos ⟨rfl, hp⟩]
  exact Control.mem_offer _ _ fun q _ => Report.replacing_eq hr q

/-- The notice of a limited and armed record disarms it and is heard at its port, unless that is VACANT (R82). -/
theorem limitNotice_told (h : (s.desk p c).limited = true ∧ (s.desk p c).limitArmed = true ∧ s.portState p ≠ .vacant) :
    (limitNotice p c s).desk p c = { (s.desk p c) with limitArmed := false } ∧
      Heard (.trackLimited c (s.desk p c).mode (s.desk p c).wanted (s.desk p c).comp (s.desk p c).anchor (s.channel c).net) p
        (limitNotice p c s) := by
  unfold limitNotice
  dsimp only
  rw [if_pos h]
  refine ⟨?_, ?_⟩
  · rw [modDesk_desk_same, desk_of_desks (agree_postTo _ _ s .desks (by decide))]
  · exact heard_postTo (by simp [Report.key]) h.2.2

theorem limitNotice_silent (h : ¬ ((s.desk p c).limited = true ∧ (s.desk p c).limitArmed = true ∧ s.portState p ≠ .vacant)) :
    limitNotice p c s = s := if_neg h

theorem limitNotice_channel (p : Port) (c d : Chan) (s : State) : (limitNotice p c s).channel d = s.channel d :=
  congrArg (Bank.get · d) (agree_limitNotice p c s .channels (by decide))

/-- A limit notice leaves every field of its record but the armed flag. -/
theorem limitNotice_desk (p : Port) (c : Chan) (s : State) :
    (limitNotice p c s).desk p c = { (s.desk p c) with limitArmed := ((limitNotice p c s).desk p c).limitArmed } := by
  by_cases h : (s.desk p c).limited = true ∧ (s.desk p c).limitArmed = true ∧ s.portState p ≠ .vacant
  · rw [(limitNotice_told h).1]
  · rw [limitNotice_silent h]

theorem limitTold_limitNotice (hl : (s.desk p c).limited = true ↔ (s.desk p c).comp ≠ (s.desk p c).wanted) :
    LimitTold p c s (limitNotice p c s) := by
  by_cases h : (s.desk p c).limited = true ∧ (s.desk p c).limitArmed = true ∧ s.portState p ≠ .vacant
  · obtain ⟨desk, heard⟩ := limitNotice_told h
    unfold LimitTold
    rw [desk, limitNotice_channel]
    refine ⟨hl, fun _ _ _ => ⟨rfl, heard⟩, fun hn => ?_⟩
    obtain ⟨limited, armed, present⟩ := h
    simp [limited, armed, present] at hn
  · rw [limitNotice_silent h]
    exact ⟨hl, fun limited armed present => absurd ⟨limited, armed, present⟩ h, fun _ => rfl⟩

/-- A record computed from s to t: w, c and the limited flag by R80 and R82, the coefficient on its way to the new value, with its
limit notice. -/
structure Computed (how : Nat → DeskRecord → DeskRecord) (p : Port) (c : Chan) (s t : State) : Prop where
  record : t.desk p c = { computedRecord how p c s with limitArmed := (t.desk p c).limitArmed }
  channel : t.channel c = s.channel c
  told : LimitTold p c s t

variable {how : Nat → DeskRecord → DeskRecord}

theorem computed_computeRecord (hh : MovesCoefficient how) (p : Port) (c : Chan) (s : State) :
    Computed how p c s (computeRecord how p c s) := by
  rw [computeRecord_eq]
  have desk : (modDesk p c (fun _ => computedRecord how p c s) s).desk p c = computedRecord how p c s := modDesk_desk_same _ _ _ _
  have fields := hh (coefficientOf ((s.desk p c).compute (s.channel c).net).comp) ((s.desk p c).compute (s.channel c).net)
  refine ⟨?_, limitNotice_channel _ _ _ _, ?_⟩
  · exact (limitNotice_desk p c _).trans (by rw [desk])
  · refine LimitTold.of_armed (limitTold_limitNotice ?_) ?_ rfl <;> rw [desk, computedRecord, fields]
    · simp [DeskRecord.compute]
    · rfl

theorem Computed.between (h : RecordStands p c s t) {v : State} (k : Computed how p c t u) (g : RecordStands p c u v) :
    Computed how p c s v where
  record := by
    have same : computedRecord how p c t = computedRecord how p c s := by simp only [computedRecord, h.desk, h.channel]
    rw [g.desk, ← same, ← k.record]
  channel := g.channel.trans (k.channel.trans h.channel)
  told := (k.told.of_armed (by rw [h.desk]) h.portState).stands g

/-- What a computation makes of the fields of its record (R80). -/
theorem Computed.fields (hh : MovesCoefficient how) (h : Computed how p c s t) :
    (t.desk p c).anchor = (s.desk p c).anchor ∧ (t.desk p c).trim = (s.desk p c).trim ∧
      (t.desk p c).mode = (s.desk p c).mode ∧ (t.desk p c).wanted = (s.desk p c).wantedAt (s.channel c).net ∧
      (t.desk p c).comp = max (-400) (min 400 (t.desk p c).wanted) := by
  rw [h.record, computedRecord, hh]
  exact ⟨rfl, rfl, rfl, rfl, rfl⟩

/-- An application steps the coefficient at once (R87). -/
theorem Computed.stepTo (h : Computed DeskRecord.stepTo p c s t) :
    (t.desk p c).coefficient = coefficientOf (t.desk p c).comp ∧ (t.desk p c).ramp = none := by
  rw [h.record]
  exact ⟨rfl, rfl⟩

/-- A first known net gain has the coefficient step with the next frame (R87). -/
theorem Computed.stepLater (h : Computed DeskRecord.stepLater p c s t) :
    (t.desk p c).coefficient = (s.desk p c).coefficient ∧ (t.desk p c).goal = coefficientOf (t.desk p c).comp := by
  rw [h.record]
  exact ⟨rfl, rfl⟩

/-! ### The three records of a channel (R91, R92) -/

theorem modDesk_desk_ne {q : Port} (h : p ≠ q) (c d : Chan) (f : DeskRecord → DeskRecord) (s : State) :
    (modDesk q c f s).desk p d = s.desk p d := by
  rw [modDesk_desk, if_neg fun e => h e.1.symm]

theorem recordStands_computeRecord {q : Port} (h : p ≠ q) (how : Nat → DeskRecord → DeskRecord) (c : Chan) (s : State) :
    RecordStands p c s (computeRecord how q c s) := by
  refine ⟨?_, congrArg (Bank.get · c) (agree_computeRecord how q c s .channels (by decide)),
    elsewhere_computeRecord how q c s p h⟩
  rw [computeRecord_eq]
  unfold limitNotice
  dsimp only
  split
  · rw [modDesk_desk_ne h, desk_of_desks (agree_postTo q _ _ .desks (by decide)), modDesk_desk_ne h]
  · rw [modDesk_desk_ne h]

/-- Of an operation made on each of the three records in turn, a record feels its own. -/
theorem forEach_record {f : Port → State → State} (hf : ∀ q t, p ≠ q → RecordStands p c t (f q t)) (s : State) :
    ∃ t, RecordStands p c s t ∧ RecordStands p c (f p t) (forEach f (indexes 3) s) :=
  forEach_then (x := p) (D := RecordStands p c s) (Q := fun u => ∃ t, RecordStands p c s t ∧ RecordStands p c (f p t) u)
    (fun q t hq ht => ht.trans (hf q t hq.symm)) (fun t ht => ⟨t, ht, .refl _⟩)
    (fun q u hq ⟨t, ht, hu⟩ => ⟨t, ht, hu.trans (hf q u hq.symm)⟩) (nodup_indexes 3) (mem_indexes p) (.refl s)

theorem computed_applyToRecords (p : Port) (c : Chan) (s : State) : Computed DeskRecord.stepTo p c s (applyToRecords c s) :=
  let ⟨_, before, after⟩ := forEach_record (fun _ t hq => recordStands_computeRecord hq _ c t) s
  .between before (computed_computeRecord movesCoefficient_stepTo p c _) after

/-- The record of p and c with the net gain as its anchor where it has none (R92). -/
def anchorKnown (p : Port) (c : Chan) (s : State) : State :=
  modDesk p c (fun r => { r with anchor := r.anchor <|> (s.channel c).net }) s

theorem computed_firstNetGain (p : Port) (c : Chan) (s : State) :
    Computed DeskRecord.stepLater p c (anchorKnown p c s) (firstNetGain c s) := by
  have other (q : Port) (t : State) (hq : p ≠ q) : RecordStands p c t (anchorKnown q c t) :=
    ⟨modDesk_desk_ne hq _ _ _ _, rfl, rfl⟩
  obtain ⟨t, before, after⟩ := forEach_record (p := p) (c := c)
    (f := fun q t => computeRecord DeskRecord.stepLater q c (anchorKnown q c t))
    (fun q t hq => (other q t hq).trans (recordStands_computeRecord hq _ c _)) s
  have anchored : RecordStands p c (anchorKnown p c s) (anchorKnown p c t) := by
    refine ⟨?_, before.channel, before.port⟩
    unfold anchorKnown
    rw [modDesk_desk_same, modDesk_desk_same, before.desk, before.channel]
  exact .between anchored (computed_computeRecord movesCoefficient_stepLater p c _) after

end

/-! ### Applications (R60, R91) -/

section
variable {c : Chan} {e : Application} {s : State}

/-- The state in which an entry's value is the applied one. -/
def valueApplied (c : Chan) (e : Application) (s : State) : State := modChannel c (fun h => { h with applied := some e.value }) s

/-- The state in which the record of the port that an entry names has the new net gain as its anchor (R60, step 2). -/
def authorAnchored (c : Chan) (e : Application) (s : State) : State :=
  match e.author with
  | some p => modDesk p c (fun r => { r with anchor := (s.channel c).net }) s
  | none => s

theorem applyEntry_eq (c : Chan) (e : Application) (s : State) : applyEntry c e s =
    postApplied c e.author e.due (applyToRecords c (authorAnchored c e (valueApplied c e s))) := rfl

theorem authorAnchored_channel (d : Chan) : (authorAnchored c e s).channel d = s.channel d := by
  unfold authorAnchored
  split <;> rfl

theorem authorAnchored_desk (p : Port) : (authorAnchored c e s).desk p c =
    { (s.desk p c) with anchor := if e.author = some p then (s.channel c).net else (s.desk p c).anchor } := by
  unfold authorAnchored
  split
  · next q h =>
    by_cases hp : q = p
    · subst hp; rw [h, modDesk_desk_same, if_pos rfl]
    · rw [h, modDesk_desk_ne (Ne.symm hp), if_neg fun hs => hp (Option.some.inj hs)]
  · next h => rw [h, if_neg (by simp)]

theorem authorAnchored_portState (p : Port) : (authorAnchored c e s).portState p = s.portState p := by
  unfold authorAnchored
  split <;> rfl

/-- The net gain of an applied value (R58). -/
theorem Channel.net_applied {h : Channel} {v : GainPad} (ha : h.applied = some v) :
    h.net = some ((v.gain : Int) - if v.pad then 20 else 0) := by
  simp [Channel.net, ha, Config.padLoss]

theorem posted_postApplied {v : GainPad} (ha : (s.channel c).applied = some v) (who : Option Port) (due : Nat) :
    Posted (.gainApplied c v ((v.gain : Int) - if v.pad then 20 else 0) who due) (postApplied c who due s) := by
  unfold postApplied
  rw [ha, Channel.net_applied ha]
  exact posted_post (by simp [Report.key]) s

/-- What is wanted of a record: the trim, and in TRACK with an anchor what the net gain has moved from it besides (R80). -/
theorem DeskRecord.wantedAt_spec (r : DeskRecord) (g : Int) :
    (r.mode = .follow ∨ r.anchor = none → r.wantedAt (some g) = r.trim) ∧
      ∀ a, r.mode = .track → r.anchor = some a → r.wantedAt (some g) = r.trim + 10 * (a - g) := by
  unfold DeskRecord.wantedAt
  refine ⟨fun h => ?_, fun a hm ha => by rw [hm, ha]⟩
  obtain h | h := h <;> rw [h]
  cases r.mode <;> rfl

theorem recordStands_postApplied (p : Port) (who : Option Port) (due : Nat) :
    (postApplied c who due s).desk p c = s.desk p c ∧ (postApplied c who due s).channel c = s.channel c := by
  have agree := agree_postApplied c who due s
  exact ⟨desk_of_desks (agree .desks (by decide)) p c, congrArg (Bank.get · c) (agree .channels (by decide))⟩

end

/-- An entry applied, as the channel and its three records feel it. -/
theorem applyEntry_spec (c : Chan) (e : Application) (s : State) :
    (applyEntry c e s).channel c = { s.channel c with applied := some e.value } ∧
      Posted (.gainApplied c e.value ((e.value.gain : Int) - if e.value.pad then 20 else 0) e.author e.due) (applyEntry c e s) ∧
      ∀ p, Computed DeskRecord.stepTo p c (authorAnchored c e (valueApplied c e s)) (applyEntry c e s) := by
  have computed (p : Port) := computed_applyToRecords p c (authorAnchored c e (valueApplied c e s))
  have channel : (applyToRecords c (authorAnchored c e (valueApplied c e s))).channel c =
      { s.channel c with applied := some e.value } := by
    rw [(computed 0).channel, authorAnchored_channel]
    exact modChannel_channel_same c _ s
  rw [applyEntry_eq]
  refine ⟨(recordStands_postApplied 0 _ _).2.trans channel, posted_postApplied (by rw [channel]) _ _, fun p => ?_⟩
  obtain ⟨desk, same⟩ := recordStands_postApplied (c := c) (s := applyToRecords c (authorAnchored c e (valueApplied c e s))) p
    e.author e.due
  refine ⟨?_, same.trans (computed p).channel, (computed p).told.still desk (by rw [same]) fun r hr => ?_⟩
  · rw [desk]; exact (computed p).record
  · exact (offers_postApplied c _ _ _).heard p (by rw [hr]; simp)

/-- The last of the entries with the first due frame is the one applied (R60). -/
theorem applicationDue_eq {c : Chan} {e x : Application} {es : List Application} {s : State}
    (applications : (s.channel c).applications = e :: es) (due : e.due ≤ s.hubFrame)
    (last : ((e :: es).filter fun y => y.due = e.due).getLast? = some x) : applicationDue c s =
      applyEntry c x (modChannel c (fun h => { h with applications := es.filter fun y => y.due ≠ e.due }) s) := by
  have chosen : (e :: es.filter fun y => y.due = e.due).getLast? = some x := by simpa using last
  unfold applicationDue
  rw [applications]
  dsimp only
  rw [if_pos due, chosen]
  rfl

/-- Settles O38, from the records computed with the value applied. -/
theorem applicationsTakeEffect : Obligations.ApplicationsTakeEffect := by
  intro c e x es s running applications due last
  refine ⟨_, congrArg Host.Outcome.next (whenRunning_eq running _), ?_⟩
  rw [applicationDue_eq applications due last]
  generalize hs₀ : modChannel c (fun h => { h with applications := es.filter fun y => y.due ≠ e.due }) s = s₀
  have channel₀ : s₀.channel c = { s.channel c with applications := es.filter fun y => y.due ≠ e.due } :=
    hs₀ ▸ modChannel_channel_same c _ s
  have desk₀ (p : Port) : s₀.desk p c = s.desk p c := hs₀ ▸ rfl
  have port₀ (p : Port) : s₀.portState p = s.portState p := hs₀ ▸ rfl
  obtain ⟨channel, posted, records⟩ := applyEntry_spec c x s₀
  refine ⟨by rw [channel, channel₀], posted, fun p => ?_⟩
  have computed := records p
  have applied : ((valueApplied c x s₀).channel c).net = some ((x.value.gain : Int) - if x.value.pad then 20 else 0) :=
    Channel.net_applied (by rw [valueApplied, modChannel_channel_same])
  generalize ((x.value.gain : Int) - if x.value.pad then 20 else 0) = g at applied ⊢
  have before : (authorAnchored c x (valueApplied c x s₀)).desk p c =
      { (s.desk p c) with anchor := if x.author = some p then some g else (s.desk p c).anchor } := by
    rw [authorAnchored_desk, applied]
    exact congrArg (fun r : DeskRecord => { r with anchor := if x.author = some p then some g else r.anchor }) (desk₀ p)
  obtain ⟨anchor, trim, mode, wanted, comp⟩ := computed.fields movesCoefficient_stepTo
  obtain ⟨coefficient, ramp⟩ := computed.stepTo
  rw [authorAnchored_channel, applied] at wanted
  obtain ⟨untracked, tracked⟩ := DeskRecord.wantedAt_spec ((authorAnchored c x (valueApplied c x s₀)).desk p c) g
  rw [← wanted, ← anchor, ← mode, ← trim] at untracked tracked
  rw [before] at anchor trim mode
  refine ⟨anchor, trim, mode, untracked, tracked, comp, computed.told.of_armed ?_ ?_, coefficient, ramp⟩
  · rw [before]
  · rw [authorAnchored_portState]; exact port₀ p

end Sys2Proof.Machine
end

section
/-! PROOF. The arbiter of the card bus and the transactions it starts: settles O39. -/

namespace Sys2Proof.Machine

/-! ### The most overdue card (R71) -/

section
variable {s : State}

/-- A card is overdue by its age where it is overdue, and otherwise by nothing. -/
theorem overdueBy_eq (s : State) (k : Card) : overdueBy s k = if overdue s k = true then some (pollAge s k) else none := by
  unfold overdueBy overdue pollAge
  cases h : (s.card k).lastPoll with
  | none => rfl
  | some e =>
    by_cases late : 4800 < s.hubFrame - e
    · simp [Config.overdueAfter, late]
    · simp [Config.overdueAfter, late]

theorem moreOverdue_notDue {j : Card} (h : ¬ overdue s j = true) (b : Option (Card × Nat)) : moreOverdue s b j = b := by
  unfold moreOverdue
  rw [overdueBy_eq, if_neg h]
  cases b <;> rfl

theorem moreOverdue_first {j : Card} (h : overdue s j = true) : moreOverdue s none j = some (j, pollAge s j) := by
  unfold moreOverdue
  rw [overdueBy_eq, if_pos h]

theorem moreOverdue_due {j : Card} (h : overdue s j = true) (x : Card × Nat) :
    moreOverdue s (some x) j = if x.2 < pollAge s j then some (j, pollAge s j) else some x := by
  unfold moreOverdue
  rw [overdueBy_eq, if_pos h]

/-- With no card overdue the choice so far stands. -/
theorem foldl_moreOverdue_none (h : ∀ k, overdue s k = false) (l : List Card) (b : Option (Card × Nat)) :
    l.foldl (moreOverdue s) b = b := by
  induction l generalizing b with
  | nil => rfl
  | cons j l ih => rw [List.foldl_cons, moreOverdue_notDue (by simp [h j]), ih]

/-- A choice that no card of a list is more overdue than stands after the list. -/
theorem foldl_moreOverdue_best {x : Card × Nat} {l : List Card} (h : ∀ j ∈ l, overdue s j = true → pollAge s j ≤ x.2) :
    l.foldl (moreOverdue s) (some x) = some x := by
  induction l with
  | nil => rfl
  | cons j l ih =>
    have same : moreOverdue s (some x) j = some x := by
      by_cases due : overdue s j = true
      · rw [moreOverdue_due due, if_neg (Nat.not_lt.2 (h j List.mem_cons_self due))]
      · exact moreOverdue_notDue due _
    rw [List.foldl_cons, same]
    exact ih fun i hi => h i (List.mem_cons_of_mem _ hi)

/-- Before the most overdue card every choice is less overdue than it. -/
theorem foldl_moreOverdue_less {n : Nat} {l : List Card} {b : Option (Card × Nat)} (hb : ∀ x, b = some x → x.2 < n)
    (h : ∀ j ∈ l, overdue s j = true → pollAge s j < n) : ∀ x, l.foldl (moreOverdue s) b = some x → x.2 < n := by
  induction l generalizing b with
  | nil => exact hb
  | cons j l ih =>
    refine ih (fun x hx => ?_) fun i hi => h i (List.mem_cons_of_mem _ hi)
    by_cases due : overdue s j = true
    · have own : ∀ y : Card × Nat, some (j, pollAge s j) = some y → y.2 < n := fun y hy =>
        Option.some.inj hy ▸ h j List.mem_cons_self due
      cases b with
      | none => rw [moreOverdue_first due] at hx; exact own x hx
      | some y =>
        rw [moreOverdue_due due] at hx
        split at hx
        · exact own x hx
        · exact hb x hx
    · rw [moreOverdue_notDue due] at hx
      exact hb x hx

/-- The most overdue card, the lowest-numbered between equals, is the one polled (R71, case 2). -/
theorem mostOverdue_eq_some {k : Card} (due : overdue s k = true)
    (most : ∀ j, overdue s j = true → pollAge s j < pollAge s k ∨ (pollAge s j = pollAge s k ∧ k ≤ j)) :
    mostOverdue s = some k := by
  obtain ⟨before, after, split⟩ := List.append_of_mem (mem_indexes k)
  have sorted : (before ++ k :: after).Pairwise (· < ·) := split ▸ List.pairwise_lt_finRange 8
  obtain ⟨-, -, apart⟩ := List.pairwise_append.1 sorted
  have younger : ∀ x, before.foldl (moreOverdue s) none = some x → x.2 < pollAge s k := by
    refine foldl_moreOverdue_less (by simp) fun j hj hd => (most j hd).resolve_right fun tie => ?_
    exact absurd (apart j hj k List.mem_cons_self) (not_lt.2 tie.2)
  have chosen : moreOverdue s (before.foldl (moreOverdue s) none) k = some (k, pollAge s k) := by
    cases h : before.foldl (moreOverdue s) none with
    | none => exact moreOverdue_first due
    | some x => rw [moreOverdue_due due, if_pos (younger x h)]
  unfold mostOverdue
  rw [split, List.foldl_append, List.foldl_cons, chosen,
    foldl_moreOverdue_best fun j _ hd => (most j hd).elim Nat.le_of_lt fun tie => tie.1.le]
  rfl

theorem mostOverdue_eq_none (h : ∀ k, overdue s k = false) : mostOverdue s = none := by
  unfold mostOverdue
  rw [foldl_moreOverdue_none h]
  rfl

/-! ### The arbiter's choice (R71) -/

theorem busChoice_of_broadcast {b : Broadcast} {bs : List Broadcast} (h : s.bus.broadcasts = b :: bs) :
    busChoice s = .broadcast b := by unfold busChoice; rw [h]

theorem busChoice_of_overdue {k : Card} (h : s.bus.broadcasts = []) (most : mostOverdue s = some k) : busChoice s = .poll k := by
  unfold busChoice; rw [h, most]

theorem busChoice_of_write {c : Chan} (h : s.bus.broadcasts = []) (none : mostOverdue s = none)
    (oldest : oldestWrite s = some c) : busChoice s = .write c := by
  unfold busChoice; rw [h, none, oldest]

theorem busChoice_of_idle (h : s.bus.broadcasts = []) (none : mostOverdue s = none) (empty : oldestWrite s = .none) :
    busChoice s = .poll (nextInRotation s) := by
  unfold busChoice; rw [h, none, empty]

/-- The oldest write of a PRESENT card: those before it are of ABSENT ones. -/
theorem oldestWrite_eq_some {c : Chan} {l l' : List Chan} (h : s.bus.writeQueue = l ++ c :: l')
    (absent : ∀ x ∈ l, s.cardPresent x = false) (present : s.cardPresent c = true) : oldestWrite s = some c := by
  unfold oldestWrite
  rw [h, List.find?_append, List.find?_eq_none.2 (by simpa using absent), List.find?_cons_of_pos (by exact present)]
  rfl

theorem oldestWrite_eq_none (absent : ∀ x ∈ s.bus.writeQueue, s.cardPresent x = false) : oldestWrite s = none :=
  List.find?_eq_none.2 (by simpa using absent)

/-! ### Starting and ending transactions (R69, R76) -/

theorem commanded_eq (s : State) (c : Chan) : commanded s c =
    decide ((s.phantomOf c).state = .rampUp ∨ (s.phantomOf c).state = .settleUp ∨ (s.phantomOf c).state = .on) := by
  unfold commanded
  cases (s.phantomOf c).state <;> rfl

section
variable (free : s.bus.transaction = none)
include free

theorem startPoll_eq {k : Card} (h : busChoice s = .poll k) : startPoll s =
    { s with bus := { s.bus with transaction := some (.poll k s.hubFrame), lastPolled := some k } } := by
  unfold startPoll; rw [free, h]; rfl

theorem startWrite_eq {c : Chan} (h : busChoice s = .write c) : startWrite s =
    { s with bus := { s.bus with
      transaction := some (.write c (s.channel c).desired (commanded s c) (s.channel c).desiredBy s.hubFrame) } } := by
  unfold startWrite; rw [free, h]; rfl

theorem startPhantomOffAll_eq (h : busChoice s = .broadcast .phantomOffAll) : startPhantomOffAll s =
    { s with bus := { s.bus with
      transaction := some (.broadcast .phantomOffAll s.hubFrame), broadcasts := s.bus.broadcasts.tail } } := by
  unfold startPhantomOffAll startBroadcast; rw [free, h]; simp only [modBus, List.drop_one]

theorem startSetRate_eq {r : Rate} (h : busChoice s = .broadcast (.setRate r)) : startSetRate s =
    { s with bus := { s.bus with
      transaction := some (.broadcast (.setRate r) s.hubFrame), broadcasts := s.bus.broadcasts.tail } } := by
  unfold startSetRate startBroadcast; rw [free, h]; simp only [modBus, List.drop_one]

end

theorem endBroadcast_eq {b : Broadcast} {start : Nat} (h : s.bus.transaction = some (.broadcast b start))
    (due : start + 4 ≤ s.hubFrame) : endBroadcast s = { s with bus := { s.bus with transaction := none } } := by
  unfold endBroadcast; rw [h]; exact if_pos due

end

/-- Settles O39, case by case of the arbiter's order. -/
theorem busServesInOrder : Obligations.BusServesInOrder := by
  intro s
  refine ⟨fun b bs => busChoice_of_broadcast, fun k none due most => busChoice_of_overdue none (mostOverdue_eq_some due most),
    fun c l l' none idle queue absent present =>
      busChoice_of_write none (mostOverdue_eq_none idle) (oldestWrite_eq_some queue absent present),
    fun none idle absent => ?_, fun running free => ?_, fun b start running going due => ?_⟩
  · rw [busChoice_of_idle none (mostOverdue_eq_none idle) (oldestWrite_eq_none absent)]
    unfold nextInRotation
    cases s.bus.lastPolled <;> rfl
  · have run (f : State → State) : whenRunning f s = f s := whenRunning_eq running f
    refine ⟨fun k h => ?_, fun c h => ?_, fun h => ?_, fun r h => ?_⟩
    · exact congrArg Host.Outcome.next ((run _).trans (startPoll_eq free h))
    · rw [← commanded_eq]
      exact congrArg Host.Outcome.next ((run _).trans (startWrite_eq free h))
    · exact congrArg Host.Outcome.next ((run _).trans (startPhantomOffAll_eq free h))
    · exact congrArg Host.Outcome.next ((run _).trans (startSetRate_eq free h))
  · exact congrArg Host.Outcome.next ((whenRunning_eq running _).trans (endBroadcast_eq going due))

end Sys2Proof.Machine
end

section
/-! PROOF. Requests that take the channels of a range: settles O36 and O37. -/

namespace Sys2Proof.Machine

/-! ### A range under the authority check (R61, R63) -/

section
variable {p : Port} {s t : State} {cs : List Chan}

theorem authorised_congr (h : ∀ c ∈ cs, t.channel c = s.channel c) : authorised p t cs = authorised p s cs := by
  induction cs with
  | nil => rfl
  | cons c cs ih =>
    have rest := ih fun d hd => h d (List.mem_cons_of_mem _ hd)
    unfold authorised at rest ⊢
    rw [List.takeWhile_cons, List.takeWhile_cons, h c List.mem_cons_self, rest]

theorem authorised_nodup (h : cs.Nodup) : (authorised p s cs).Nodup := h.sublist (List.takeWhile_sublist _)

theorem mem_of_authorised {c : Chan} (h : c ∈ authorised p s cs) : c ∈ cs := (List.takeWhile_sublist _).mem h

theorem holds_of_authorised {c : Chan} (h : c ∈ authorised p s cs) : (s.channel c).authority.get p = true :=
  List.mem_takeWhile_imp (p := fun c => (s.channel c).authority.get p) h

/-- What a range has taken, of the channels that its port is authorised for, from the state and counts before. -/
structure TakesAll (act : Chan → State → State) (sat : Chan → State → Bool) (l : List Chan) (stopped : Bool)
    (t r : Taken) : Prop where
  state : r.state = forEach act l t.state
  count : r.count = t.count + l.length
  waiting : ∀ k, r.waiting.get k = (t.waiting.get k || l.any fun c => !t.state.cardPresent c && decide (cardOf c = k))
  saturated : r.saturated = t.saturated + (l.filter fun c => sat c t.state).length
  stopped : r.stopped = stopped

/-- Taking a channel leaves the records of the others and the cards. -/
structure TakesOne (act : Chan → State → State) (sat : Chan → State → Bool) : Prop where
  channel : ∀ {c d}, d ≠ c → ∀ s, (act d s).channel c = s.channel c
  cards : ∀ c s, (act c s).cards = s.cards
  sat : ∀ {c s t}, t.channel c = s.channel c → sat c t = sat c s

variable {act : Chan → State → State} {sat : Chan → State → Bool}

/-- The range is taken channel by channel, up to the first without authority. -/
theorem takeChannels_spec (h : TakesOne act sat) (hn : cs.Nodup) (x : Taken) (hx : x.stopped = false) :
    TakesAll act sat (authorised p x.state cs) (decide ((authorised p x.state cs).length < cs.length)) x
      (takeChannels p act sat cs x) := by
  induction cs generalizing x with
  | nil => exact ⟨rfl, rfl, fun k => (Bool.or_false _).symm, rfl, hx⟩
  | cons c cs ih =>
    obtain ⟨hc, hn⟩ := List.nodup_cons.1 hn
    by_cases own : (x.state.channel c).authority.get p = true
    · have first : authorised p x.state (c :: cs) = c :: authorised p x.state cs := by
        unfold authorised; rw [List.takeWhile_cons, if_pos own]
      have others {d : Chan} (hd : d ∈ cs) : (act c x.state).channel d = x.state.channel d :=
        h.channel (c := d) (d := c) (fun e => hc (e ▸ hd)) x.state
      rw [first]
      unfold takeChannels
      rw [if_pos own]
      generalize hy : Taken.mk (act c x.state) _ _ _ _ = y
      have rest := ih hn y (hy ▸ rfl)
      have stateEq : y.state = act c x.state := hy ▸ rfl
      rw [stateEq, authorised_congr fun d hd => others hd] at rest
      refine ⟨by rw [rest.state, stateEq]; rfl, ?_, fun k => ?_, ?_, ?_⟩
      · rw [rest.count, ← hy, List.length_cons]
        dsimp only
        omega
      · have cards (d : Chan) : (act c x.state).cardPresent d = x.state.cardPresent d := cardPresent_congr (h.cards c _) d
        rw [rest.waiting]
        simp only [List.any_cons, ← hy, cards]
        cases x.state.cardPresent c
        · by_cases hk : cardOf c = k
          · simp [hk]
          · simp [hk, Bank.get_put_ne]
        · simp
      · have same : (authorised p x.state cs).filter (fun d => sat d y.state) =
            (authorised p x.state cs).filter fun d => sat d x.state :=
          List.filter_congr fun d hd => h.sat (stateEq ▸ others (mem_of_authorised hd))
        rw [rest.saturated, same, ← hy, List.filter_cons]
        dsimp only
        split
        · rw [List.length_cons]; omega
        · omega
      · rw [rest.stopped, List.length_cons, List.length_cons]
        simp
    · have none : authorised p x.state (c :: cs) = [] := by unfold authorised; rw [List.takeWhile_cons, if_neg own]
      rw [none]
      unfold takeChannels
      rw [if_neg own]
      exact ⟨rfl, rfl, fun k => (Bool.or_false _).symm, rfl, by simp⟩

end

/-! ### What the reply says of the channels taken (R63, step 4) -/

/-- A set of cards, given card by card, has a member. -/
theorem any_toList {n : Nat} (b : Bank n Bool) : b.toList.any id = true ↔ ∃ k, b.get k = true := by
  simp only [List.any_eq_true, id_eq, Bank.get]
  constructor
  · rintro ⟨x, hx, rfl⟩
    obtain ⟨i, hi, e⟩ := Vector.getElem_of_mem (Vector.mem_toList_iff.1 hx)
    exact ⟨⟨i, hi⟩, e⟩
  · rintro ⟨k, hk⟩
    exact ⟨_, Vector.mem_toList_iff.2 (Vector.getElem_mem k.isLt), hk⟩

section
variable {act : Chan → State → State} {sat : Chan → State → Bool} {l : List Chan} {stopped : Bool} {s : State} {r : Taken}
  (h : TakesAll act sat l stopped (Taken.start s) r)
include h

/-- The cards that hold a taken channel and were ABSENT. -/
theorem TakesAll.waiting_eq : r.waiting = Bank.tabulate fun k => l.any fun c => !s.cardPresent c && decide (cardOf c = k) :=
  Bank.ext_get fun k => by simp [h.waiting, Taken.start]

theorem TakesAll.waits_iff : r.waits = true ↔ ∃ c ∈ l, s.cardPresent c = false := by
  unfold Taken.waits
  rw [any_toList, h.waiting_eq]
  simp only [Bank.get_tabulate, List.any_eq_true, Bool.and_eq_true, Bool.not_eq_true', decide_eq_true_eq]
  exact ⟨fun ⟨k, c, hc, absent, _⟩ => ⟨c, hc, absent⟩, fun ⟨c, hc, absent⟩ => ⟨cardOf c, c, hc, absent, rfl⟩⟩

theorem TakesAll.count_eq : r.count = l.length := by rw [h.count]; exact Nat.zero_add _

theorem TakesAll.saturated_eq : r.saturated = (l.filter fun c => sat c s).length := by rw [h.saturated]; exact Nat.zero_add _

end

/-! ### One event for each channel of a list -/

section
variable {c : Chan} {f : Chan → State → State} {l : List Chan}

/-- A channel that is not in a list is spared by the events of the list. -/
theorem forEach_spares (h : ∀ d t, d ≠ c → Spares c t (f d t)) (hc : c ∉ l) (s : State) : Spares c s (forEach f l s) := by
  induction l generalizing s with
  | nil => exact .refl s
  | cons d l ih =>
    rw [List.mem_cons, not_or] at hc
    exact (h d s (Ne.symm hc.1)).trans (ih hc.2 _)

/-- A channel of a list feels its own event, and is spared before and after. -/
theorem forEach_own (h : ∀ d t, d ≠ c → Spares c t (f d t)) (hl : l.Nodup) (hc : c ∈ l) (s : State) :
    ∃ t, Spares c s t ∧ Spares c (f c t) (forEach f l s) :=
  forEach_then (x := c) (D := Spares c s) (Q := fun u => ∃ t, Spares c s t ∧ Spares c (f c t) u)
    (fun d t hd ht => ht.trans (h d t hd)) (fun t ht => ⟨t, ht, .refl _⟩)
    (fun d u hd ⟨t, ht, hu⟩ => ⟨t, ht, hu.trans (h d u hd)⟩) hl hc (.refl s)

end

/-! ### SET GAIN, STEP GAIN and SET PAD (R61, R63 to R67) -/

section
variable {p : Port} {f : GainPad → GainPad} {c : Chan} {s : State}

theorem takeDesired_unchanged (h : f (s.channel c).desired = (s.channel c).desired) : takeDesired p f c s = s := if_pos h

/-- A channel whose desired gain or pad changes: its record, its write and its report (R67). -/
theorem takeDesired_changed (h : f (s.channel c).desired ≠ (s.channel c).desired) :
    (takeDesired p f c s).channel c = { s.channel c with desired := f (s.channel c).desired, desiredBy := some p } ∧
      c ∈ (takeDesired p f c s).bus.writeQueue ∧ (takeDesired p f c s).retained.quiet = some 0 ∧
      Posted (.settingChanged c (f (s.channel c).desired) (s.channel c).phantom (some p) (s.channel c).authority)
        (takeDesired p f c s) := by
  have changed : takeDesired p f c s =
      queueWrite c (changeSetting c (fun h => { h with desired := f h.desired, desiredBy := some p }) s) := if_neg h
  rw [changed]
  obtain ⟨quiet, posted⟩ := posted_changeSetting
    (f := fun h => { h with desired := f h.desired, desiredBy := some p }) (c := c) (s := s) (fun same => h same.1.symm) rfl
  exact ⟨changeSetting_channel_same, mem_queueWrite.2 (.inl rfl), quiet, posted⟩

theorem takesOne_takeDesired {sat : Chan → State → Bool} (hs : ∀ {c s t}, t.channel c = s.channel c → sat c t = sat c s) :
    TakesOne (takeDesired p f) sat where
  channel hd s := ((respects_spares hd).takeDesired p f s).channel
  cards c s := agree_takeDesired p f c s .cards (by decide)
  sat := hs

/-- The channels taken, one by one: each that changes with its record, its write and its report (R67). -/
theorem forEach_takeDesired {l : List Chan} (hl : l.Nodup) (c : Chan) (s : State) :
    ((forEach (takeDesired p f) l s).channel c = if c ∈ l ∧ f (s.channel c).desired ≠ (s.channel c).desired then
        { s.channel c with desired := f (s.channel c).desired, desiredBy := some p } else s.channel c) ∧
      (c ∈ l → f (s.channel c).desired ≠ (s.channel c).desired →
        c ∈ (forEach (takeDesired p f) l s).bus.writeQueue ∧ (forEach (takeDesired p f) l s).retained.quiet = some 0 ∧
        Posted (.settingChanged c (f (s.channel c).desired) (s.channel c).phantom (some p) (s.channel c).authority)
          (forEach (takeDesired p f) l s)) := by
  have spares (d : Chan) (t : State) (hd : d ≠ c) : Spares c t (takeDesired p f d t) := (respects_spares hd).takeDesired p f t
  by_cases hc : c ∈ l
  · obtain ⟨t, before, after⟩ := forEach_own spares hl hc s
    have own := before.channel
    by_cases changes : f (s.channel c).desired ≠ (s.channel c).desired
    · obtain ⟨channel, waits, quiet, posted⟩ := takeDesired_changed (p := p) (f := f) (c := c) (s := t) (by rwa [own])
      rw [own] at channel posted
      rw [if_pos ⟨hc, changes⟩]
      exact ⟨after.channel.trans channel, fun _ _ =>
        ⟨after.waits.2 waits, after.quiet quiet, after.tells.posted (by simp [Report.key]) posted⟩⟩
    · rw [if_neg fun h => changes h.2]
      rw [takeDesired_unchanged (by rw [own]; exact not_not.1 changes)] at after
      exact ⟨after.channel.trans own, fun _ h => absurd h changes⟩
  · rw [if_neg fun h => hc h.1]
    exact ⟨(forEach_spares spares hc s).channel, fun h => absurd h hc⟩

/-- The answer to a gain or pad request says what was taken (R63, step 4). -/
theorem desiredReply_spec {sat : Chan → State → Bool} {l : List Chan} {act : Chan → State → State} {stopped clamped : Bool}
    {r : Taken} (h : TakesAll act sat l stopped (Taken.start s) r) :
    (desiredReply clamped r).status = (if stopped then .noAuthority
        else if clamped || l.any fun c => sat c s then .clamped
        else if (l.filter fun c => !s.cardPresent c) = [] then .done else .deferred) ∧
      (desiredReply clamped r).result =
        setByte (Bank.tabulate fun k => (l.filter fun c => !s.cardPresent c).any fun c => decide (cardOf c = k)) ++
          [byte (l.filter fun c => sat c s).length] := by
  have saturates : 0 < r.saturated ↔ (l.any fun c => sat c s) = true := by
    rw [h.saturated_eq, List.length_pos_iff_exists_mem, List.any_eq_true]
    simp
  have waits : r.waits = true ↔ (l.filter fun c => !s.cardPresent c) ≠ [] := by
    rw [h.waits_iff, ne_eq, List.filter_eq_nil_iff]
    simp
  constructor
  · simp only [desiredReply, h.stopped, saturates, waits, Bool.or_eq_true, ite_not]
  · simp only [desiredReply, h.waiting_eq, h.saturated_eq, List.any_filter]

theorem takesTheRange_of_taken {kind : Byte} {m : Message} {instr : Instr} {owner : Message → State → Served} {cs : List Chan}
    {clamped : Bool} {told : Chan → Bool} (sat : Chan → State → Bool) (ht : told = fun c => sat c s) (h : Accepted p kind m s)
    (hc : exec instr s = .next (whenRunning (serve p kind owner) s))
    (hs : ∀ {c s t}, t.channel c = s.channel c → sat c t = sat c s) (hn : cs.Nodup)
    (ho : owner m s = desiredReply clamped (takeChannels p (takeDesired p f) sat cs (Taken.start s))) :
    TakesTheRange p m cs f clamped told s (exec instr s) := by
  subst ht
  have taken := takeChannels_spec (p := p) (takesOne_takeDesired (p := p) (f := f) hs) hn (Taken.start s) rfl
  obtain ⟨status, result⟩ := desiredReply_spec (clamped := clamped) taken
  refine ⟨forEach (takeDesired p f) (authorised p s cs) s, ?_, (forEach_takeDesired (authorised_nodup hn) · s)⟩
  rw [exec_served h hc, ho, status, result, show (desiredReply clamped _).state = _ from taken.state,
    show (desiredReply clamped _).steps = _ from taken.count_eq]
  simp only [decide_eq_true_eq]
  rfl

/-! ### The three requests -/

theorem rangeOf_eq_some {a b : Nat} {cs : List Chan} : rangeOf 64 a b = some cs ↔ 1 ≤ a ∧ a ≤ b ∧ b ≤ 64 ∧
    cs = (indexes 64).filter fun c => decide (a ≤ num c) && decide (num c ≤ b) := by
  have same : ((indexes 64).filter fun i => a ≤ num i ∧ num i ≤ b) =
      (indexes 64).filter fun c => decide (a ≤ num c) && decide (num c ≤ b) :=
    List.filter_congr fun c _ => Bool.decide_and _ _
  unfold rangeOf
  rw [same]
  split
  · next h =>
    obtain ⟨first, -, -, last, order⟩ := h
    exact ⟨fun e => ⟨first, order, last, (Option.some.inj e).symm⟩, fun ⟨_, _, _, e⟩ => congrArg some e.symm⟩
  · next h => exact ⟨fun e => (by cases e), fun ⟨first, order, last, _⟩ => absurd ⟨first, by omega, by omega, last, order⟩ h⟩

theorem serveGain_eq {m : Message} {cs : List Chan} (h : rangeOf 64 (u8 m.body 0) (u8 m.body 1) = some cs) :
    serveGain p m s = desiredReply (decide (63 < u8 m.body 2))
      (takeChannels p (takeDesired p fun v => { v with gain := min 63 (u8 m.body 2) }) (fun _ _ => false) cs
        (Taken.start s)) := by
  have clamps : (min Config.maxGain (u8 m.body 2) ≠ u8 m.body 2) = (63 < u8 m.body 2) := by
    rw [show Config.maxGain = 63 from rfl]
    exact propext (by omega)
  unfold serveGain
  rw [h]
  simp only [clamps]
  rfl

/-- A step saturates where it would leave 0 to 63 (R65). -/
theorem steppedGain_saturates (d : Int) (g : Nat) :
    ((steppedGain d g : Int) ≠ g + d) = ((g : Int) + d < 0 ∨ 63 < (g : Int) + d) := by
  unfold steppedGain clampInt Config.maxGain
  exact propext (by omega)

theorem serveStep_eq {m : Message} {cs : List Chan} (h : rangeOf 64 (u8 m.body 0) (u8 m.body 1) = some cs) :
    serveStep p m s = desiredReply (decide (s8 m.body 2 < -10 ∨ 10 < s8 m.body 2))
      (takeChannels p
        (takeDesired p fun v =>
          { v with gain := (max 0 (min 63 ((v.gain : Int) + max (-10) (min 10 (s8 m.body 2))))).toNat })
        (fun c t => decide (((t.channel c).desired.gain : Int) + max (-10) (min 10 (s8 m.body 2)) < 0 ∨
          63 < ((t.channel c).desired.gain : Int) + max (-10) (min 10 (s8 m.body 2)))) cs (Taken.start s)) := by
  have clamps : (clampInt (-10) 10 (s8 m.body 2) ≠ s8 m.body 2) = (s8 m.body 2 < -10 ∨ 10 < s8 m.body 2) := by
    unfold clampInt
    exact propext (by omega)
  unfold serveStep
  rw [h]
  simp only [clamps, steppedGain_saturates]
  rfl

theorem servePad_eq {m : Message} {cs : List Chan} (h : rangeOf 64 (u8 m.body 0) (u8 m.body 1) = some cs) (hp : u8 m.body 2 ≤ 1) :
    servePad p m s = desiredReply false
      (takeChannels p (takeDesired p fun v => { v with pad := decide (u8 m.body 2 = 1) }) (fun _ _ => false) cs
        (Taken.start s)) := by
  unfold servePad
  rw [h]
  exact if_neg (by omega)

theorem servePad_refused {m : Message} (h : 1 < u8 m.body 2) : servePad p m s = refuse .range s := by
  unfold servePad
  split
  · rfl
  · exact if_pos h

end

/-- Settles O36, from the range taken channel by channel. -/
theorem gainAndPadRequestsTakeTheRange : Obligations.GainAndPadRequestsTakeTheRange := by
  intro p m s
  refine ⟨fun h cs hr => ?_, fun h cs hr => ?_, fun h cs hr hp => ?_, fun h hp => exec_refused h rfl (servePad_refused hp),
    fun x hx => ?_, fun _ _ _ => rangeOf_eq_some⟩
  · exact takesTheRange_of_taken _ rfl h rfl (fun _ => rfl) (rangeOf_nodup hr) (serveGain_eq hr)
  · refine takesTheRange_of_taken _ ?_ h rfl ?_ (rangeOf_nodup hr) (serveStep_eq hr)
    · rfl
    · exact fun same => by simp only [same]
  · exact takesTheRange_of_taken _ rfl h rfl (fun _ => rfl) (rangeOf_nodup hr) (servePad_eq hr hp)
  · have refused {kind : Byte} {c : Instr} {owner : Message → State → Served}
        (hc : exec c s = .next (whenRunning (serve p kind owner) s))
        (ho : rangeOf 64 (u8 m.body 0) (u8 m.body 1) = none → owner m s = refuse .range s) (h : Accepted p kind m s)
        (hr : rangeOf 64 (u8 m.body 0) (u8 m.body 1) = none) : exec c s = .next (answered p m .range 0 [] s) :=
      exec_refused h hc (ho hr)
    simp only [List.mem_cons, List.not_mem_nil, or_false] at hx
    obtain rfl | rfl | rfl := hx
    · exact refused (c := .setGain p) rfl fun hr => by unfold serveGain; rw [hr]
    · exact refused (c := .stepGain p) rfl fun hr => by unfold serveStep; rw [hr]
    · exact refused (c := .setPad p) rfl fun hr => by unfold servePad; rw [hr]

end Sys2Proof.Machine
end

section
/-! PROOF. SET AUTHORITY: settles O37. -/

namespace Sys2Proof.Machine

/-! ### One change of settings for each channel of a list (R58) -/

section
variable {c d : Chan} {f : Channel → Channel} {l : List Chan}

theorem spares_changeSetting (h : d ≠ c) (f : Channel → Channel) (s : State) : Spares c s (changeSetting d f s) :=
  (respects_spares h).changeSetting f s

theorem forEach_changeSetting (hl : l.Nodup) (c : Chan) (s : State) :
    ((forEach (fun d => changeSetting d f) l s).channel c = if c ∈ l then f (s.channel c) else s.channel c) ∧
      (c ∈ l → ¬ (s.channel c).sameHeld (f (s.channel c)) →
        (forEach (fun d => changeSetting d f) l s).retained.quiet = some 0 ∧
        Posted (.settingChanged c (f (s.channel c)).desired (f (s.channel c)).phantom (f (s.channel c)).desiredBy
          (f (s.channel c)).authority) (forEach (fun d => changeSetting d f) l s)) := by
  have spares (d : Chan) (t : State) (hd : d ≠ c) : Spares c t (changeSetting d f t) := spares_changeSetting hd f t
  by_cases hc : c ∈ l
  · obtain ⟨t, before, after⟩ := forEach_own spares hl hc s
    rw [if_pos hc, ← before.channel]
    refine ⟨after.channel.trans changeSetting_channel_same, fun _ changes => ?_⟩
    obtain ⟨quiet, posted⟩ := posted_changeSetting changes rfl
    exact ⟨after.quiet quiet, after.tells.posted (by simp [Report.key]) posted⟩
  · rw [if_neg hc]
    exact ⟨(forEach_spares spares hc s).channel, fun h => absurd h hc⟩

end

/-! ### The request (R62) -/

section
variable {p q : Port} {m : Message} {s : State} {cs : List Chan} {a : AuthorityAction}

/-- A channel whose authority set an action has changed (R62, step 4). -/
def AuthorityAction.act (p : Port) (a : AuthorityAction) (h : Channel) : Channel :=
  { h with authority := match a with
    | .add q => h.authority.put q true
    | .removeSelf => h.authority.put p false }

theorem takeAuthority_eq (p : Port) (a : AuthorityAction) :
    takeAuthority p a = fun c => changeSetting c (a.act p) := rfl

theorem authorityAction_add (h1 : u8 m.body 2 = 1) (hq : u8 m.body 3 = num q) : authorityAction m.body = some (.add q) := by
  unfold authorityAction
  rw [if_pos h1, portOf_some hq]
  rfl

theorem authorityAction_remove (h : u8 m.body 2 = 2) : authorityAction m.body = some .removeSelf := by
  unfold authorityAction
  rw [if_neg (by omega), if_pos h]

theorem authorityAction_eq_none
    (h : u8 m.body 2 = 0 ∨ 2 < u8 m.body 2 ∨ (u8 m.body 2 = 1 ∧ (u8 m.body 3 = 0 ∨ 3 < u8 m.body 3))) :
    authorityAction m.body = none := by
  unfold authorityAction
  split
  · next one => rw [portOf_eq_none.2 (by omega)]; rfl
  · exact if_neg (by omega)

theorem takesOne_takeAuthority : TakesOne (takeAuthority p a) fun _ _ => false where
  channel hd s := (spares_changeSetting hd _ s).channel
  cards c s := agree_takeAuthority p a c s .cards (by decide)
  sat _ := rfl

/-- A request that would leave no set empty takes its range. -/
theorem exec_setAuthority_taken (h : Accepted p kindSetAuthority m s) (hr : rangeOf 64 (u8 m.body 0) (u8 m.body 1) = some cs)
    (ha : authorityAction m.body = some a) (hw : wouldEmpty p a cs s = false) :
    exec (.setAuthority p) s = .next (answered p m
      (if (authorised p s cs).length < cs.length then .noAuthority else .done) (authorised p s cs).length []
      (forEach (fun c => changeSetting c (a.act p)) (authorised p s cs) s)) := by
  have taken := takeChannels_spec (p := p) (takesOne_takeAuthority (p := p) (a := a)) (rangeOf_nodup hr) (Taken.start s) rfl
  have served : serveAuthority p m s =
      { state := (takeChannels p (takeAuthority p a) (fun _ _ => false) cs (Taken.start s)).state,
        status := if (takeChannels p (takeAuthority p a) (fun _ _ => false) cs (Taken.start s)).stopped then .noAuthority
          else .done,
        steps := (takeChannels p (takeAuthority p a) (fun _ _ => false) cs (Taken.start s)).count, result := [] } := by
    unfold serveAuthority
    rw [hr, ha]
    exact if_neg (by simp [hw])
  rw [exec_served h rfl, served]
  dsimp only
  rw [taken.state, taken.count_eq, taken.stopped, takeAuthority_eq]
  simp only [decide_eq_true_eq]
  rfl

theorem onlyMember_iff {b : PortSet} : onlyMember p b = true ↔ b.get p = true ∧ ∀ r, r ≠ p → b.get r = false := by
  unfold onlyMember
  simp only [Bool.and_eq_true, List.all_eq_true, mem_indexes, forall_const, Bool.or_eq_true, decide_eq_true_eq,
    Bool.not_eq_true', or_iff_not_imp_left]

theorem wouldEmpty_iff : wouldEmpty p .removeSelf cs s = true ↔
    ∃ c ∈ cs, (s.channel c).authority.get p = true ∧ ∀ r, r ≠ p → (s.channel c).authority.get r = false := by
  simp only [wouldEmpty, List.any_eq_true, onlyMember_iff]

theorem serveAuthority_refused
    (h : rangeOf 64 (u8 m.body 0) (u8 m.body 1) = none ∨ authorityAction m.body = none) :
    serveAuthority p m s = refuse .range s := by
  unfold serveAuthority
  obtain h | h := h
  · rw [h]
  · rw [h]
    cases rangeOf 64 (u8 m.body 0) (u8 m.body 1) <;> rfl

/-- A set that differs at one port is another set. -/
theorem not_sameHeld_act {h : Channel} {r : Port} (hr : (a.act p h).authority.get r ≠ h.authority.get r) :
    ¬ h.sameHeld (a.act p h) := fun ⟨_, _, same⟩ => hr (by rw [same])

end

/-- Settles O37, from the change of settings of each channel taken. -/
theorem setAuthorityTakesTheRange : Obligations.SetAuthorityTakesTheRange := by
  intro p q m s h
  refine ⟨fun bad => exec_refused h rfl (serveAuthority_refused (bad.imp_right authorityAction_eq_none)), fun cs hr => ?_⟩
  refine ⟨fun h1 hq => ?_, fun h2 alone => ?_, fun h2 shared => ?_⟩
  · refine ⟨_, exec_setAuthority_taken h hr (authorityAction_add h1 hq) rfl, fun c => ?_⟩
    obtain ⟨channel, told⟩ := forEach_changeSetting (f := AuthorityAction.act p (.add q))
      (authorised_nodup (p := p) (s := s) (rangeOf_nodup hr)) c s
    refine ⟨channel, fun hc new => told hc (not_sameHeld_act (r := q) ?_)⟩
    rw [new]
    simp [AuthorityAction.act]
  · refine exec_refused h rfl ?_
    unfold serveAuthority
    rw [hr, authorityAction_remove h2]
    exact if_pos (wouldEmpty_iff.2 alone)
  · have kept : wouldEmpty p .removeSelf cs s = false := by
      rw [← Bool.not_eq_true, wouldEmpty_iff]
      rintro ⟨c, hc, holds, others⟩
      obtain ⟨r, hne, hr⟩ := shared c hc holds
      rw [others r hne] at hr
      cases hr
    refine ⟨_, exec_setAuthority_taken h hr (authorityAction_remove h2) kept, fun c => ?_⟩
    obtain ⟨channel, told⟩ := forEach_changeSetting (f := AuthorityAction.act p .removeSelf)
      (authorised_nodup (p := p) (s := s) (rangeOf_nodup hr)) c s
    refine ⟨channel, fun hc => told hc (not_sameHeld_act (r := p) ?_)⟩
    rw [holds_of_authorised hc]
    simp [AuthorityAction.act]

end Sys2Proof.Machine
end

section
/-! PROOF. WRITE ACKs and timeouts: settles O41. -/

namespace Sys2Proof.Machine

/-! ### The pending-application list (R59) -/

/-- What a card's value appends to the pending-application list of a channel record: nothing where the value is the switched one
already (R59, R72, R74). -/
def Channel.appended (h : Channel) (earliest : Nat) (v : GainPad) (author : Option Port) : List Application :=
  if h.switched = some v then []
  else [{ due := max earliest (h.applications.getLast?.elim 0 Application.due), value := v, author := author }]

section
variable {c : Chan} {v : GainPad} {s : State}

theorem appendApplication_channel (author : Option Port) (h : (s.channel c).switched ≠ some v) :
    (appendApplication c v author s).channel c = { s.channel c with
      applications := (s.channel c).applications ++
        (s.channel c).appended (s.hubFrame + s.settings.converterDelay) v author } := by
  unfold appendApplication Channel.appended
  rw [if_neg h]
  exact modChannel_channel_same c _ s

theorem Channel.appended_known {h : Channel} (e : Nat) (author : Option Port) (hs : h.switched = some v) :
    h.appended e v author = [] := if_pos hs

/-! ### The card phantom and the transition timer (R104) -/

theorem PhantomRecord.retime_eq (on : Bool) (r : PhantomRecord) : r.retime (some on) = { r with
    timer := if r.state = .rampUp ∨ r.state = .rampDown then
        (if on = r.state.commanded then some (r.timer.getD 0) else none)
      else r.timer } := by
  obtain ⟨state, timer, fault⟩ := r
  unfold PhantomRecord.retime
  cases state
  case rampUp => simp only [Option.some_inj]; split <;> simp_all
  case rampDown => simp only [Option.some_inj]; split <;> simp_all
  all_goals rfl

theorem setCardPhantom_channel (c : Chan) (on : Bool) (s : State) :
    (setCardPhantom c on s).channel c = { s.channel c with cardPhantom := some on } := modChannel_channel_same c _ s

theorem setCardPhantom_phantomOf (c : Chan) (on : Bool) (s : State) :
    (setCardPhantom c on s).phantomOf c = (s.phantomOf c).retime (some on) := modPhantom_phantomOf_same c _ _

theorem retime_state (card : Option Bool) (r : PhantomRecord) : (r.retime card).state = r.state := by
  unfold PhantomRecord.retime
  split
  · split <;> rfl
  · split <;> rfl
  all_goals rfl

theorem retime_fault (card : Option Bool) (r : PhantomRecord) : (r.retime card).fault = r.fault := by
  unfold PhantomRecord.retime
  split
  · split <;> rfl
  · split <;> rfl
  all_goals rfl

/-! ### WRITE ACKs (R72) -/

theorem settleEntry_bus (h : (s.channel c).switched = some v) {on : Bool} (hp : (s.channel c).cardPhantom = some on) :
    (settleEntry c s).bus = { s.bus with
      writeQueue := if v = (s.channel c).desired ∧ on = commanded s c then
          s.bus.writeQueue.filter (fun d => decide (d ≠ c)) else s.bus.writeQueue } := by
  unfold settleEntry
  dsimp only
  rw [h, hp]
  simp only [Option.some_inj]
  split <;> rfl

/-- The state of a WRITE ACK with the bus free, the card's timeouts cleared and the pending application appended. -/
def ackAppended (c : Chan) (v : GainPad) (author : Option Port) (s : State) : State :=
  let t := s |> freeBus |> modCard (cardOf c) (fun r => { r with timeouts := 0 })
  if (t.channel c).switched = some v then t else appendApplication c v author t

theorem takeWriteAck_eq (c : Chan) (v : GainPad) (on : Bool) (author : Option Port) (s : State) : takeWriteAck c v on author s =
    settleEntry c (setCardPhantom c on (modChannel c (fun h => { h with switched := some v }) (ackAppended c v author s))) := rfl

theorem ackAppended_spec (c : Chan) (v : GainPad) (author : Option Port) (s : State) :
    (ackAppended c v author s).channel c = { s.channel c with
        applications := (s.channel c).applications ++
          (s.channel c).appended (s.hubFrame + s.settings.converterDelay) v author } ∧
      (ackAppended c v author s).bus = { s.bus with transaction := none } ∧
      (ackAppended c v author s).card (cardOf c) = { s.card (cardOf c) with timeouts := 0 } ∧
      (ackAppended c v author s).phantom = s.phantom := by
  have card (t : State) : (modCard (cardOf c) (fun r => { r with timeouts := 0 }) t).card (cardOf c) =
      { t.card (cardOf c) with timeouts := 0 } := modCard_card_same _ _ t
  by_cases h : (s.channel c).switched = some v
  · have same : ackAppended c v author s = modCard (cardOf c) (fun r => { r with timeouts := 0 }) (freeBus s) := if_pos h
    rw [same, Channel.appended_known _ _ h, List.append_nil]
    exact ⟨rfl, rfl, card _, rfl⟩
  · have appended : ackAppended c v author s =
        appendApplication c v author (modCard (cardOf c) (fun r => { r with timeouts := 0 }) (freeBus s)) := if_neg h
    rw [appended]
    exact ⟨appendApplication_channel author h, rfl, card _, rfl⟩

theorem writeAcked_eq {on : Bool} {who : Option Port} {start : Nat} (h : s.bus.transaction = some (.write c v on who start))
    (least : start + 12 ≤ s.hubFrame) (most : s.hubFrame ≤ start + 96) :
    writeAcked (cardOf c) c s = takeWriteAck c v on who s := by
  have time : inReplyTime Config.writeAckMin start s.hubFrame = true :=
    Bool.and_eq_true_iff.2 ⟨decide_eq_true least, decide_eq_true most⟩
  unfold writeAcked
  rw [h]
  exact if_pos ⟨rfl, rfl, time⟩

/-- What a WRITE ACK makes of the bus, of its card, and of its channel's records (R72). -/
theorem takeWriteAck_spec (c : Chan) (v : GainPad) (on : Bool) (author : Option Port) (s : State) :
    (takeWriteAck c v on author s).bus = { s.bus with
        transaction := none,
        writeQueue := if v = (s.channel c).desired ∧ on = commanded s c then
          s.bus.writeQueue.filter (fun d => decide (d ≠ c)) else s.bus.writeQueue } ∧
      (takeWriteAck c v on author s).card (cardOf c) = { s.card (cardOf c) with timeouts := 0 } ∧
      (takeWriteAck c v on author s).channel c = { s.channel c with
        switched := some v, cardPhantom := some on,
        applications := (s.channel c).applications ++
          (s.channel c).appended (s.hubFrame + s.settings.converterDelay) v author } ∧
      (takeWriteAck c v on author s).phantomOf c = (s.phantomOf c).retime (some on) := by
  obtain ⟨channel, bus, card, phantom⟩ := ackAppended_spec c v author s
  rw [takeWriteAck_eq]
  generalize ackAppended c v author s = a at channel bus card phantom ⊢
  generalize hu : setCardPhantom c on (modChannel c (fun h => { h with switched := some v }) a) = u
  have channelU : u.channel c = { s.channel c with
      switched := some v, cardPhantom := some on,
      applications := (s.channel c).applications ++
        (s.channel c).appended (s.hubFrame + s.settings.converterDelay) v author } := by
    rw [← hu, setCardPhantom_channel, modChannel_channel_same, channel]
  have phantomU : u.phantomOf c = (s.phantomOf c).retime (some on) := by
    rw [← hu, setCardPhantom_phantomOf]
    exact congrArg (fun b : Bank 64 PhantomRecord => (b.get c).retime (some on)) phantom
  have busU : u.bus = { s.bus with transaction := none } := hu ▸ bus
  have cardU : u.card (cardOf c) = { s.card (cardOf c) with timeouts := 0 } := hu ▸ card
  have commandedU : commanded u c = commanded s c := by unfold commanded; rw [phantomU, retime_state]
  have agree := agree_settleEntry c u
  have cards : (settleEntry c u).cards = u.cards := agree .cards (by decide)
  have channels : (settleEntry c u).channels = u.channels := agree .channels (by decide)
  have phantoms : (settleEntry c u).phantom = u.phantom := agree .phantom (by decide)
  refine ⟨?_, ?_, ?_, ?_⟩
  rotate_left
  · rw [State.card, cards, ← State.card, cardU]
  · rw [State.channel, channels, ← State.channel, channelU]
  · rw [State.phantomOf, phantoms, ← State.phantomOf, phantomU]
  rw [settleEntry_bus (c := c) (v := v) (on := on) (by rw [channelU]) (by rw [channelU]), commandedU, channelU, busU]

end

/-! ### A card that becomes ABSENT (R73, R108) -/

theorem mem_channelsOf {c : Chan} {k : Card} : c ∈ channelsOf k ↔ cardOf c = k := by
  unfold channelsOf
  rw [List.mem_filter, decide_eq_true_iff]
  exact and_iff_right (mem_indexes c)

theorem nodup_channelsOf (k : Card) : (channelsOf k).Nodup := (nodup_indexes 64).filter _

/-- The phantom state of a channel whose card becomes ABSENT (the table of R108). -/
def PhantomState.absent (wanted : Bool) : PhantomState → PhantomState
  | .rampUp | .settleUp | .on | .queued => .queued
  | .rampDown => if wanted then .queued else .off
  | .off => .off

section
variable {c : Chan} {s : State}

/-- A channel of a card that becomes ABSENT stays in its state, or enters the one of R108. -/
theorem phantomAbsent_cases (c : Chan) (s : State) :
    (phantomAbsent c s = s ∧ (s.phantomOf c).state = (s.phantomOf c).state.absent (s.channel c).phantom) ∨
      Entered c ((s.phantomOf c).state.absent (s.channel c).phantom) .cardAbsent s (phantomAbsent c s) := by
  unfold phantomAbsent
  cases h : (s.phantomOf c).state with
  | rampUp => exact .inr (entered_changePhantom c .queued s .cardAbsent)
  | settleUp => exact .inr (entered_changePhantom c .queued s .cardAbsent)
  | on => exact .inr (entered_changePhantom c .queued s .cardAbsent)
  | rampDown => exact .inr (entered_changePhantom c _ s .cardAbsent)
  | off => exact .inl ⟨rfl, rfl⟩
  | queued => exact .inl ⟨rfl, rfl⟩

/-- What becomes of a channel whose card becomes ABSENT: it is not started, for its card is ABSENT. -/
theorem absentChannels_cases {k : Card} (hc : cardOf c = k) (habs : s.cardPresent c = false) :
    Spares c s (startQueued (forEach phantomAbsent (channelsOf k) s)) ∧
        (s.phantomOf c).state = (s.phantomOf c).state.absent (s.channel c).phantom ∨
      Entered c ((s.phantomOf c).state.absent (s.channel c).phantom) .cardAbsent s
        (startQueued (forEach phantomAbsent (channelsOf k) s)) := by
  obtain ⟨t, before, after⟩ := forEach_own (f := phantomAbsent) (fun d t hd => (respects_spares hd).phantomAbsent t)
    (nodup_channelsOf k) (mem_channelsOf.2 hc) s
  have cards : (forEach phantomAbsent (channelsOf k) s).cards = s.cards :=
    Agree.forEach agree_phantomAbsent (channelsOf k) s .cards (by decide)
  have unstarted := spares_startQueued (c := c) (s := forEach phantomAbsent (channelsOf k) s)
    fun h => by rw [cardPresent_congr cards, habs] at h; exact absurd h.2 (by decide)
  have cases := phantomAbsent_cases c t
  rw [before.phantom.1, before.channel] at cases
  refine cases.imp (fun ⟨same, state⟩ => ⟨?_, state⟩) fun entered =>
    (Entered.of_spares before entered).spares (after.trans unstarted)
  rw [same] at after
  exact (before.trans after).trans unstarted

end

/-! ### Timeouts (R73) -/

section
variable {k : Card} {s : State}

theorem transactionTimedOut_eq {start : Nat} (h : s.bus.transaction = some (.poll k start) ∨
      ∃ c v ph who, s.bus.transaction = some (.write c v ph who start) ∧ cardOf c = k) (due : start + 96 ≤ s.hubFrame) :
    ∃ poll, transactionTimedOut s = timeOut k poll s ∧
      (poll <|> (s.card k).lastPoll) =
        if s.bus.transaction = some (.poll k start) then some s.hubFrame else (s.card k).lastPoll := by
  unfold transactionTimedOut
  obtain h | ⟨c, v, ph, who, h, rfl⟩ := h
  · rw [h]
    exact ⟨some s.hubFrame, if_pos due, (if_pos rfl).symm⟩
  · rw [h]
    exact ⟨none, if_pos due, (if_neg (by simp)).symm⟩

/-- A card after a timeout, before it becomes ABSENT. -/
def countedTimeout (k : Card) (poll : Option Nat) (s : State) : State := s |> freeBus |> modCard k (CardRecord.timedOut poll)

theorem countedTimeout_card (poll : Option Nat) : (countedTimeout k poll s).card k =
    { s.card k with timeouts := min 255 ((s.card k).timeouts + 1), lastPoll := poll <|> (s.card k).lastPoll } :=
  modCard_card_same k _ _

theorem timeOut_eq (poll : Option Nat) : timeOut k poll s =
    if (s.card k).state = .present ∧ 2 ≤ (s.card k).timeouts then becomeAbsent k (countedTimeout k poll s)
    else countedTimeout k poll s := by
  have third : 3 ≤ min 255 ((s.card k).timeouts + 1) ↔ 2 ≤ (s.card k).timeouts := by omega
  have absent : timeOut k poll s = if ((countedTimeout k poll s).card k).state = .present ∧
      3 ≤ ((countedTimeout k poll s).card k).timeouts then becomeAbsent k (countedTimeout k poll s)
    else countedTimeout k poll s := rfl
  rw [absent, countedTimeout_card]
  dsimp only
  simp only [third]

/-- The state in which a card is ABSENT and CARD STATE has told it, its channels not yet. -/
def toldAbsent (k : Card) (s : State) : State := s |> modCard k (fun r => { r with state := .absent }) |> postCard k .noReply

theorem becomeAbsent_eq : becomeAbsent k s = startQueued (forEach phantomAbsent (channelsOf k) (toldAbsent k s)) := rfl

theorem toldAbsent_card : (toldAbsent k s).card k = { s.card k with state := .absent } := modCard_card_same k _ s

theorem agree_absentChannels (s : State) :
    Agree touchedByPhantom s (startQueued (forEach phantomAbsent (channelsOf k) s)) :=
  (Agree.forEach agree_phantomAbsent _ s).trans (agree_startQueued _)

theorem becomeAbsent_card : (becomeAbsent k s).card k = { s.card k with state := .absent } :=
  (congrArg (Bank.get · k) (agree_absentChannels (toldAbsent k s) .cards (by decide))).trans toldAbsent_card

theorem becomeAbsent_transaction : (becomeAbsent k s).bus.transaction = s.bus.transaction :=
  ((QueuesWrites.forEach (fun c t => (respects_queuesWrites c).phantomAbsent t) _ _).trans
    (queuesWrites_startQueued _)).transaction

theorem posted_becomeAbsent :
    Posted (.cardState k .absent .noReply (s.card k).timeouts (s.card k).status) (becomeAbsent k s) := by
  have told : Posted (.cardState k .absent .noReply (s.card k).timeouts (s.card k).status) (toldAbsent k s) := by
    have report : toldAbsent k s = post (.cardState k .absent .noReply (s.card k).timeouts (s.card k).status)
        (modCard k (fun r => { r with state := .absent }) s) := by unfold toldAbsent postCard; rw [modCard_card_same]
    exact report ▸ posted_post (by simp [Report.key]) _
  exact told.offers ((Offers.forEach offers_phantomAbsent _ _).trans (offers_startQueued _)) (by simp [Report.key])

/-- The channels of a card that becomes ABSENT take the states of R108, and PHANTOM STATE tells each that changes. -/
theorem becomeAbsent_phantomOf {c : Chan} (hc : cardOf c = k) :
    ((becomeAbsent k s).phantomOf c).state = (s.phantomOf c).state.absent (s.channel c).phantom ∧
      ((s.phantomOf c).state ≠ ((becomeAbsent k s).phantomOf c).state →
        PhantomPosted c ((becomeAbsent k s).phantomOf c).state .cardAbsent (becomeAbsent k s)) := by
  have gone : (toldAbsent k s).cardPresent c = false := by unfold State.cardPresent; rw [hc, toldAbsent_card]; rfl
  rw [becomeAbsent_eq]
  obtain ⟨spares, state⟩ | entered := absentChannels_cases hc gone
  · rw [spares.phantom.1]
    exact ⟨state, fun h => absurd rfl h⟩
  · rw [entered.state]
    exact ⟨rfl, fun _ => entered.posted⟩

end

/-- Settles O41, from the end of an acknowledged write and of a transaction that timed out. -/
theorem acksAndTimeoutsEndTransactions : Obligations.AcksAndTimeoutsEndTransactions := by
  intro s running
  refine ⟨fun c v ph who start going least most => ?_, fun k start going due => ?_⟩
  · obtain ⟨bus, card, channel, phantom⟩ := takeWriteAck_spec c v ph who s
    refine ⟨_, congrArg Host.Outcome.next ((whenRunning_eq running _).trans (writeAcked_eq going least most)), bus, card,
      channel, ?_⟩
    rw [phantom, PhantomRecord.retime_eq]
    rfl
  · obtain ⟨poll, timed, polled⟩ := transactionTimedOut_eq going due
    refine ⟨_, congrArg Host.Outcome.next ((whenRunning_eq running _).trans timed), ?_⟩
    rw [← polled, timeOut_eq]
    by_cases gone : (s.card k).state = .present ∧ 2 ≤ (s.card k).timeouts
    · rw [if_pos gone, becomeAbsent_card, becomeAbsent_transaction, countedTimeout_card]
      refine ⟨rfl, rfl, rfl, rfl, (if_pos gone.2).symm, fun _ _ c hc => ?_, fun _ _ => ?_⟩
      · obtain ⟨state, posted⟩ := becomeAbsent_phantomOf (s := countedTimeout k poll s) hc
        have state : _ = (s.phantomOf c).state.absent (s.channel c).phantom := state
        refine ⟨?_, ?_, ?_, fun _ => posted⟩
        · rw [state]; rintro (h | h | h | h) <;> rw [h] <;> rfl
        · intro h; rw [state, h]; rfl
        · intro h; rw [state, h]; rfl
      · have posted := posted_becomeAbsent (k := k) (s := countedTimeout k poll s)
        rwa [countedTimeout_card] at posted
    · rw [if_neg gone, countedTimeout_card]
      refine ⟨rfl, rfl, rfl, rfl, ?_, fun present twice => absurd ⟨present, twice⟩ gone,
        fun present twice => absurd ⟨present, twice⟩ gone⟩
      split
      · cases h : (s.card k).state
        · exact absurd ⟨h, ‹_›⟩ gone
        · rfl
      · rfl

end Sys2Proof.Machine
end

section
/-! PROOF. Poll replies: settles O40. A channel of the card that answers goes through four stages: its values, its card phantom,
what the phantom sequencer makes of it, and the write test. -/

namespace Sys2Proof.Machine

theorem Tells.mono {K K' : Nat × Nat → Prop} {s t : State} (h : Tells K s t) (hk : ∀ k, K k → K' k) : Tells K' s t := fun q =>
  let ⟨rs, hr, e⟩ := h q
  ⟨rs, fun r hm => hk _ (hr r hm), e⟩

/-! ### What the sequencer makes of a channel in a poll reply (R106, R107) -/

/-- The phantom state of a channel after a poll reply of its card, from the state before and what the card reports
(R106, R107). -/
def PhantomState.replied (fault on : Bool) (st : PhantomState) : PhantomState :=
  if fault then .off else
    match st, on with
    | .off, true => .rampDown
    | .queued, true => .on
    | .settleUp, false => .queued
    | .on, false => .queued
    | st, _ => st

/-- The reports about its channel that the sequencer may offer in a poll reply: SETTING CHANGED, PHANTOM STATE, and PHANTOM FAULT
for a fault that is not marked yet. -/
def sequencerTells (fault : Bool) (c : Chan) (s : State) (k : Nat × Nat) : Prop :=
  k.2 = c.val → k.1 = 4 ∨ k.1 = 6 ∨ k.1 = 7 ∧ fault = true ∧ (s.phantomOf c).fault = false

/-- From s to t the sequencer has acted on channel c of a card's poll reply, which reports a fault or none. -/
structure Sequenced (fault : Bool) (k : Card) (status : Byte) (c : Chan) (s t : State) : Prop where
  channel : t.channel c = { s.channel c with phantom := (s.channel c).phantom && !fault }
  desk : ∀ p, t.desk p c = s.desk p c
  mark : (t.phantomOf c).fault = fault
  setting : fault = true → (s.channel c).phantom = true → t.retained.quiet = some 0 ∧
    Posted (.settingChanged c (s.channel c).desired false (s.channel c).desiredBy (s.channel c).authority) t
  faultTold : fault = true → (s.phantomOf c).fault = false →
    Posted (.phantomFault c (s.phantomOf c).state k status) t
  tells : Tells (sequencerTells fault c s) s t

/-- From s to t the sequencer has brought channel c where a poll reply has it, with PHANTOM STATE for the change. -/
structure Settled (fault on : Bool) (c : Chan) (s t : State) : Prop where
  state : (t.phantomOf c).state = (s.phantomOf c).state.replied fault on
  posted : (t.phantomOf c).state ≠ (s.phantomOf c).state →
    PhantomPosted c (t.phantomOf c).state (if fault then .fault else .cardReported) t
  timer : fault = true → (s.phantomOf c).state ≠ .off → (t.phantomOf c).timer = none
  queue : (c ∈ s.startQueue ↔ (s.phantomOf c).state = .queued) → (c ∈ t.startQueue ↔ (t.phantomOf c).state = .queued)

section
variable {fault on : Bool} {k : Card} {status : Byte} {c : Chan} {s t u : State}

/-- What was told stays told while reports of phantom states alone follow, and the rest of the channel stands. -/
theorem Sequenced.still (h : Sequenced fault k status c s t) (channel : u.channel c = t.channel c)
    (desk : ∀ p, u.desk p c = t.desk p c) (mark : (u.phantomOf c).fault = (t.phantomOf c).fault)
    (quiet : t.retained.quiet = some 0 → u.retained.quiet = some 0) (tells : Tells (fun k => k.2 = c.val → k.1 = 6) t u) :
    Sequenced fault k status c s u where
  channel := channel.trans h.channel
  desk p := (desk p).trans (h.desk p)
  mark := mark.trans h.mark
  setting f p := ⟨quiet (h.setting f p).1, tells.posted (fun hk => by cases hk rfl) (h.setting f p).2⟩
  faultTold f m := tells.posted (fun hk => by cases hk rfl) (h.faultTold f m)
  tells := h.tells.trans (tells.mono fun k hk e => .inr (.inl (hk e)))

theorem Sequenced.spares (h : Sequenced fault k status c s t) (g : Spares c t u) : Sequenced fault k status c s u :=
  h.still g.channel g.desk (by rw [g.phantom.1]) g.quiet g.tellsAbout

theorem Sequenced.entered {st : PhantomState} {why : PhantomReason} (h : Sequenced fault k status c s t)
    (g : Entered c st why t u) : Sequenced fault k status c s u :=
  h.still g.channel g.desk g.fault g.quiet g.tells

theorem Settled.still {K : Nat × Nat → Prop} (h : Settled fault on c s t) (channel : u.channel c = t.channel c)
    (phantom : Untouched c t u) (tells : Tells K t u) (hk : ¬ K (6, c.val)) : Settled fault on c s u where
  state := by rw [phantom.1]; exact h.state
  posted hn := by rw [phantom.1] at hn ⊢; exact (h.posted hn).still channel tells hk
  timer := by rw [phantom.1]; exact h.timer
  queue hq := by rw [phantom.1, phantom.2]; exact h.queue hq

theorem Settled.spares (h : Settled fault on c s t) (g : Spares c t u) : Settled fault on c s u :=
  h.still g.channel g.phantom g.tells fun hk => hk rfl

/-! #### Without a fault -/

/-- A reply without a fault clears the fault mark and moves the channel as the reported phantom has it (R106). -/
theorem phantomReported_cases (on : Bool) (c : Chan) (s : State) :
    ((s.phantomOf c).state = (s.phantomOf c).state.replied false on ∧
        phantomReported on c s = modPhantom c (fun r => { r with fault := false }) s) ∨
      Entered c ((s.phantomOf c).state.replied false on) .cardReported (modPhantom c (fun r => { r with fault := false }) s)
        (phantomReported on c s) := by
  have changed (st : PhantomState) :=
    entered_changePhantom c st (modPhantom c (fun r => { r with fault := false }) s) .cardReported
  unfold phantomReported
  cases (s.phantomOf c).state <;> cases on
  case off.true => exact .inr (changed _)
  case queued.true => exact .inr (changed _)
  case settleUp.false => exact .inr (changed _)
  case on.false => exact .inr (changed _)
  all_goals exact .inl ⟨rfl, rfl⟩

theorem phantomReported_spec (on : Bool) (k : Card) (status : Byte) (c : Chan) (s : State) :
    Sequenced false k status c s (phantomReported on c s) ∧ Settled false on c s (phantomReported on c s) := by
  generalize hm : modPhantom c (fun r => { r with fault := false }) s = m
  have record : m.phantomOf c = { s.phantomOf c with fault := false } := hm ▸ modPhantom_phantomOf_same c _ s
  have marked : Sequenced false k status c s m := by
    subst hm
    exact
      { channel := by rw [Bool.not_false, Bool.and_true]; rfl
        desk := fun _ => rfl
        mark := by rw [record]
        setting := fun h => Bool.noConfusion h
        faultTold := fun h => Bool.noConfusion h
        tells := .of_ports rfl }
  have queue : m.startQueue = s.startQueue := hm ▸ rfl
  have cases := phantomReported_cases on c s
  rw [hm] at cases
  obtain ⟨same, stays⟩ | entered := cases
  · rw [stays]
    refine ⟨marked, ?_, fun h => absurd ?_ h, fun h => Bool.noConfusion h, fun hq => ?_⟩
    · rw [record]; exact same
    · rw [record]
    · rw [queue, record]; exact hq
  · refine ⟨marked.entered entered, entered.state, fun _ => ?_, fun h => Bool.noConfusion h, fun _ => ?_⟩
    · rw [entered.state]; exact entered.posted
    · rw [entered.state]; exact entered.queue

/-! #### With a fault -/

/-- The state in which a faulted channel has entered OFF, with the write that its card's power needs (R107, steps 1 and 2). -/
def offEntered (c : Chan) (s : State) : State :=
  let t := if (s.phantomOf c).state = .off then s else enterPhantom c .off s
  if (s.channel c).cardPhantom = some true then queueWrite c t else t

/-- The state in which a faulted channel is off and its desired phantom is (R107, step 3). -/
def turnedOff (c : Chan) (s : State) : State := changeSetting c (fun h => { h with phantom := false }) (offEntered c s)

/-- The state in which the fault of a channel is marked, and has been told if it was not marked before (R107, step 4). -/
def faultMarked (before : PhantomState) (k : Card) (status : Byte) (c : Chan) (marked : Bool) (t : State) : State :=
  if marked then t else t |> modPhantom c (fun r => { r with fault := true }) |> post (.phantomFault c before k status)

theorem phantomFaulted_eq : phantomFaulted k status c s =
    if (s.phantomOf c).state = .off then
      faultMarked (s.phantomOf c).state k status c (s.phantomOf c).fault (turnedOff c s)
    else postPhantom c .fault (faultMarked (s.phantomOf c).state k status c (s.phantomOf c).fault (turnedOff c s)) := rfl

theorem offEntered_spec (c : Chan) (s : State) :
    Agree [.phantom, .startQueue, .supplyGuard, .bus] s (offEntered c s) ∧
      ((s.phantomOf c).state = .off → Untouched c s (offEntered c s)) ∧
      ((s.phantomOf c).state ≠ .off → c ∉ (offEntered c s).startQueue ∧
        (offEntered c s).phantomOf c = { s.phantomOf c with state := .off, timer := none }) := by
  generalize ht : (if (s.phantomOf c).state = .off then s else enterPhantom c .off s) = t
  have queued : offEntered c s = if (s.channel c).cardPhantom = some true then queueWrite c t else t := ht ▸ rfl
  have same : Untouched c t (offEntered c s) := by
    rw [queued]; split
    · exact untouched_queueWrite c c t
    · exact .refl c t
  have agree : Agree [.phantom, .startQueue, .supplyGuard, .bus] s t := by
    rw [← ht]; exact .ite (.refl s) (agree_enterPhantom c .off s)
  refine ⟨?_, fun off => ?_, fun on => ?_⟩
  · rw [queued]; exact .ite (agree.andThen (agree_queueWrite c t)) agree
  · rw [if_pos off] at ht; exact ht ▸ same
  · rw [if_neg on] at ht
    subst ht
    refine ⟨fun hq => ?_, same.1.trans (enterPhantom_phantomOf c .off s)⟩
    cases (enterPhantom_same c .off s).2.1 (same.2.1 hq)

theorem tells_postSetting (c : Chan) (s : State) : Tells (fun k => k = (4, c.val)) s (postSetting c s) :=
  Tells.post (K := fun k => k = (4, c.val)) rfl s

theorem tells_changeSetting (c : Chan) (f : Channel → Channel) (s : State) :
    Tells (fun k => k = (4, c.val)) s (changeSetting c f s) := by
  have plain (x : Prop) [Decidable x] : Tells (fun k => k = (4, c.val)) s
      (if x then modChannel c f s else restartQuiet (modChannel c f s)) := by
    split <;> exact .of_ports rfl
  unfold changeSetting
  dsimp only
  split
  · exact plain _
  · exact (plain _).trans (tells_postSetting c _)

/-- A faulted channel is off, and so is its desired phantom, with SETTING CHANGED where it was on. -/
theorem turnedOff_spec (c : Chan) (s : State) :
    (turnedOff c s).channel c = { s.channel c with phantom := false } ∧
      (∀ p, (turnedOff c s).desk p c = s.desk p c) ∧
      Tells (fun k => k = (4, c.val)) s (turnedOff c s) ∧
      Untouched c (offEntered c s) (turnedOff c s) ∧
      ((s.channel c).phantom = true → (turnedOff c s).retained.quiet = some 0 ∧
        Posted (.settingChanged c (s.channel c).desired false (s.channel c).desiredBy (s.channel c).authority)
          (turnedOff c s)) := by
  obtain ⟨entered, -, -⟩ := offEntered_spec c s
  have channel : (offEntered c s).channel c = s.channel c := congrArg (Bank.get · c) (entered .channels (by decide))
  have agree := agree_changeSetting c (fun h => { h with phantom := false }) (offEntered c s)
  have off : (turnedOff c s).channel c = { s.channel c with phantom := false } := channel ▸ changeSetting_channel_same
  refine ⟨off, fun p => ?_, (Tells.of_ports (entered .ports (by decide))).trans (tells_changeSetting c _ _), ?_, fun on => ?_⟩
  · exact desk_of_desks ((agree .desks (by decide)).trans (entered .desks (by decide))) p c
  · exact .of_eq (agree .phantom (by decide)) (agree .startQueue (by decide))
  · have changed : ¬ ((offEntered c s).channel c).sameHeld { (offEntered c s).channel c with phantom := false } := by
      rw [channel]
      exact fun same => by cases on.symm.trans same.2.1
    have posted := posted_changeSetting (f := fun h => { h with phantom := false }) changed rfl
    rw [channel] at posted
    exact posted

theorem faultMarked_spec (before : PhantomState) (k : Card) (status : Byte) {c : Chan} {marked : Bool} {t : State}
    (hm : (t.phantomOf c).fault = marked) :
    Agree [.ports, .phantom] t (faultMarked before k status c marked t) ∧
      (faultMarked before k status c marked t).phantomOf c = { t.phantomOf c with fault := true } ∧
      Tells (fun k => k = (7, c.val) ∧ marked = false) t (faultMarked before k status c marked t) ∧
      (marked = false → Posted (.phantomFault c before k status) (faultMarked before k status c marked t)) := by
  unfold faultMarked
  cases marked
  · exact ⟨(agree_modPhantom c _ t).mono.andThen (agree_post _ _), modPhantom_phantomOf_same c _ t,
      (Tells.of_ports (t := modPhantom c (fun r => { r with fault := true }) t) rfl).trans
        (Tells.post (K := fun k => k = (7, c.val) ∧ false = false) ⟨rfl, rfl⟩ _),
      fun _ => posted_post (by simp [Report.key]) _⟩
  · exact ⟨.refl t, by rw [if_pos rfl, ← hm], .refl t, fun h => Bool.noConfusion h⟩

/-- A faulted channel is off and marked, with PHANTOM FAULT the first time and PHANTOM STATE if it was not off (R107). -/
theorem phantomFaulted_spec (on : Bool) (k : Card) (status : Byte) (c : Chan) (s : State) :
    Sequenced true k status c s (phantomFaulted k status c s) ∧ Settled true on c s (phantomFaulted k status c s) := by
  obtain ⟨-, stays, leaves⟩ := offEntered_spec c s
  obtain ⟨channel, desk, told, same, setting⟩ := turnedOff_spec c s
  have mark : ((turnedOff c s).phantomOf c).fault = (s.phantomOf c).fault := by
    rw [same.1]
    by_cases off : (s.phantomOf c).state = .off
    · rw [(stays off).1]
    · rw [(leaves off).2]
  obtain ⟨agree, record, toldFault, posted⟩ := faultMarked_spec (s.phantomOf c).state k status mark
  rw [phantomFaulted_eq]
  generalize faultMarked (s.phantomOf c).state k status c (s.phantomOf c).fault (turnedOff c s) = t
    at agree record toldFault posted ⊢
  have queue : t.startQueue = (turnedOff c s).startQueue := agree .startQueue (by decide)
  have retained : t.retained = (turnedOff c s).retained := agree .retained (by decide)
  have sequenced : Sequenced true k status c s t :=
    { channel := by
        rw [Bool.not_true, Bool.and_false, ← channel]
        exact congrArg (Bank.get · c) (agree .channels (by decide))
      desk := fun p => (desk_of_desks (agree .desks (by decide)) p c).trans (desk p)
      mark := by rw [record]
      setting := fun _ on => ⟨by rw [retained]; exact (setting on).1, toldFault.posted (by simp [Report.key]) (setting on).2⟩
      faultTold := fun _ unmarked => posted unmarked
      tells := (told.mono fun _ hk _ => .inl (hk ▸ rfl)).trans
        (toldFault.mono fun _ hk _ => .inr (.inr ⟨hk.1 ▸ rfl, rfl, hk.2⟩)) }
  by_cases off : (s.phantomOf c).state = .off
  · rw [if_pos off]
    have state : (t.phantomOf c).state = .off := by rw [record, same.1, (stays off).1, off]
    refine ⟨sequenced, state, fun h => absurd (state.trans off.symm) h, fun _ h => absurd off h, fun hq => ?_⟩
    rw [queue, same.2, (stays off).2, hq, state, off]
  · rw [if_neg off]
    obtain ⟨out, entered⟩ := leaves off
    have state : (t.phantomOf c).state = .off := by rw [record, same.1, entered]
    have waits : c ∈ t.startQueue ↔ PhantomState.off = .queued := by
      rw [queue, same.2]; exact ⟨fun h => absurd h out, fun h => by cases h⟩
    have posted := phantomPosted_postPhantom (why := .fault) state waits
    refine ⟨sequenced.still rfl (fun _ => rfl) rfl id (tells_postPhantom c t .fault), state, fun _ => ?_,
      fun _ _ => ?_, fun _ => ?_⟩
    · exact state.symm ▸ posted
    · show (t.phantomOf c).timer = none
      rw [record, same.1, entered]
    · exact state.symm ▸ waits

end

/-! ### The values of a poll reply (R74, step 3a to 3c; R92) -/

section
variable {p : Port} {c : Chan} {v : GainPad} {s t u : State}

/-- From s to t the first reply since power-on has given a record of channel c its anchor and its values (R92). -/
structure FirstRecord (p : Port) (c : Chan) (net : Int) (s t : State) : Prop where
  anchor : (t.desk p c).anchor = some ((s.desk p c).anchor.getD net)
  wanted : (t.desk p c).wanted = match (s.desk p c).mode with
    | .follow => (s.desk p c).trim
    | .track => (s.desk p c).trim + 10 * ((s.desk p c).anchor.getD net - net)
  told : LimitTold p c s t
  trim : (t.desk p c).trim = (s.desk p c).trim
  mode : (t.desk p c).mode = (s.desk p c).mode
  coefficient : (t.desk p c).coefficient = (s.desk p c).coefficient
  comp : (t.desk p c).comp = max (-400) (min 400 (t.desk p c).wanted)
  goal : (t.desk p c).goal = coefficientOf (t.desk p c).comp

theorem firstRecord_firstNetGain {g : Int} (hv : (s.channel c).net = some g) (p : Port) :
    FirstRecord p c g s (firstNetGain c s) := by
  have computed := computed_firstNetGain p c s
  have desk : (anchorKnown p c s).desk p c = { (s.desk p c) with anchor := some ((s.desk p c).anchor.getD g) } := by
    unfold anchorKnown
    rw [modDesk_desk_same, hv]
    cases (s.desk p c).anchor <;> rfl
  obtain ⟨anchor, trim, mode, wanted, comp⟩ := computed.fields movesCoefficient_stepLater
  obtain ⟨coefficient, goal⟩ := computed.stepLater
  rw [show (anchorKnown p c s).channel c = s.channel c from rfl, hv] at wanted
  rw [desk] at anchor trim mode wanted coefficient
  refine ⟨anchor, ?_, computed.told.of_armed (by rw [desk]) rfl, trim, mode, coefficient, comp, goal⟩
  rw [wanted]
  unfold DeskRecord.wantedAt
  cases (s.desk p c).mode <;> rfl

/-- Such a record is one from an earlier state in which it stood alike, to a later one in which it stands and nothing of its
limit notice is withdrawn. -/
theorem FirstRecord.between {g : Int} {s' u' : State} {K : Nat × Nat → Prop} (h : FirstRecord p c g s t)
    (before : s.desk p c = s'.desk p c) (port : s.portState p = s'.portState p) (after : u'.desk p c = t.desk p c)
    (net : (u'.channel c).net = (t.channel c).net) (tells : Tells K t u') (hk : ¬ K (9, c.val)) : FirstRecord p c g s' u' := by
  obtain ⟨anchor, wanted, told, trim, mode, coefficient, comp, goal⟩ := h
  have told := (told.still after net fun r hr => tells.heard (by rwa [hr])).of_armed (by rw [before]) port
  rw [before] at anchor wanted trim mode coefficient
  rw [← after] at anchor wanted trim mode coefficient comp goal
  exact ⟨anchor, wanted, told, trim, mode, coefficient, comp, goal⟩

end

/-! ### One channel of a poll reply (R74, step 3) -/

section
variable {known : Bool} {c : Chan} {v : GainPad} {on : Bool} {s t u : State}

/-- The kinds of the reports that a poll reply offers about its card and, for their values, its channels. -/
def answerTells (c : Chan) (k : Nat × Nat) : Prop := k.2 = c.val → k.1 = 3 ∨ k.1 = 5 ∨ k.1 = 9

/-- From s to t channel c has taken the values and the phantom that its card reports; the sequencer has yet to act. -/
structure Answered (known : Bool) (c : Chan) (v : GainPad) (on : Bool) (s t : State) : Prop where
  channel : t.channel c = { s.channel c with
    switched := some v, cardPhantom := some on,
    applied := if known then (s.channel c).applied else some v,
    applications := if known then
        (s.channel c).applications ++ (s.channel c).appended (s.hubFrame + s.settings.converterDelay) v none
      else (s.channel c).applications }
  later : known = true → ∀ p, t.desk p c = s.desk p c
  first : known = false → ∀ p, FirstRecord p c ((v.gain : Int) - if v.pad then 20 else 0) s t
  state : (t.phantomOf c).state = (s.phantomOf c).state
  mark : (t.phantomOf c).fault = (s.phantomOf c).fault
  queue : c ∈ t.startQueue ↔ c ∈ s.startQueue
  tells : Tells (answerTells c) s t

/-- What a channel takes, taken from an earlier state in which it stood alike and by the same clock. -/
theorem Answered.before (h : Answered known c v on t u) (channel : t.channel c = s.channel c)
    (desk : ∀ p, t.desk p c = s.desk p c) (phantom : Untouched c s t) (tells : Tells (answerTells c) s t)
    (clock : t.hubFrame = s.hubFrame ∧ t.settings = s.settings) : Answered known c v on s u where
  channel := by rw [h.channel, channel, clock.1, clock.2]
  later hk p := (h.later hk p).trans (desk p)
  first hk p := (h.first hk p).between (desk p) (tells.portState p) rfl rfl (.refl (K := fun _ => False) u) id
  state := by rw [h.state, phantom.1]
  mark := by rw [h.mark, phantom.1]
  queue := h.queue.trans phantom.2
  tells := tells.trans h.tells

/-- A later reply leaves the value it reports as the switched one, and an application where the value differed. -/
theorem laterReply_channel : (laterReply c v s).channel c = { s.channel c with
    switched := some v,
    applications := (s.channel c).applications ++
      (s.channel c).appended (s.hubFrame + s.settings.converterDelay) v none } := by
  unfold laterReply Channel.appended
  split
  · next h => rw [List.append_nil, ← h]
  · unfold appendApplication
    rw [modChannel_channel_same, modChannel_channel_same]
    rfl

/-- The state in which the values of a first reply are the applied ones, with GAIN APPLIED. -/
def firstValues (c : Chan) (v : GainPad) (s : State) : State :=
  { s with freeReads := s.freeReads + 1 }
    |> modChannel c (fun h => { h with switched := some v, applied := some v })
    |> postApplied c none (Config.firstReplyDueFrame s.freeReads)

theorem firstValues_channel : (firstValues c v s).channel c = { s.channel c with switched := some v, applied := some v } :=
  (congrArg (Bank.get · c) (agree_postApplied c none _ _ .channels (by decide))).trans (modChannel_channel_same c _ s)

theorem firstRecord_firstReply (p : Port) :
    FirstRecord p c ((v.gain : Int) - if v.pad then 20 else 0) s (firstReply c v s) := by
  have net : ((firstValues c v s).channel c).net = some ((v.gain : Int) - if v.pad then 20 else 0) :=
    Channel.net_applied (by rw [firstValues_channel])
  exact (firstRecord_firstNetGain net p).between (s' := s) (u' := firstReply c v s)
    (desk_of_desks (agree_postApplied c none _ _ .desks (by decide)) p c)
    ((offers_postApplied c none _ _).tells.portState p) rfl rfl (.refl (K := fun _ => False) _) id

theorem firstReply_channel : (firstReply c v s).channel c = { s.channel c with switched := some v, applied := some v } :=
  (congrArg (Bank.get · c) (agree_firstNetGain c (firstValues c v s) .channels (by decide))).trans firstValues_channel

/-- The values and the phantom that a card reports for a channel, taken. -/
def answer (known : Bool) (c : Chan) (v : GainPad) (on : Bool) (s : State) : State :=
  setCardPhantom c on (if known then laterReply c v s else firstReply c v s)

theorem answered_answer (known : Bool) (c : Chan) (v : GainPad) (on : Bool) (s : State) :
    Answered known c v on s (answer known c v on s) := by
  have same (t : State) (ht : Agree [.ports, .channels, .desks, .freeReads] s t) :
      ((setCardPhantom c on t).phantomOf c).state = (s.phantomOf c).state ∧
      ((setCardPhantom c on t).phantomOf c).fault = (s.phantomOf c).fault ∧
      (c ∈ (setCardPhantom c on t).startQueue ↔ c ∈ s.startQueue) := by
    have record : t.phantomOf c = s.phantomOf c := congrArg (Bank.get · c) (ht .phantom (by decide))
    refine ⟨?_, ?_, iff_of_eq (congrArg (c ∈ ·) (ht .startQueue (by decide)))⟩
    · rw [setCardPhantom_phantomOf, retime_state, record]
    · rw [setCardPhantom_phantomOf, retime_fault, record]
  cases known
  · have answered : answer false c v on s = setCardPhantom c on (firstReply c v s) := rfl
    have channel := firstReply_channel (c := c) (v := v) (s := s)
    have first (p : Port) := firstRecord_firstReply (c := c) (v := v) (s := s) p
    have tells := (offers_firstReply c v s).tells
    obtain ⟨state, mark, queue⟩ := same _ (agree_firstReply c v s)
    rw [answered]
    generalize firstReply c v s = t at channel first tells state mark queue ⊢
    have net : ((setCardPhantom c on t).channel c).net = (t.channel c).net := by
      rw [setCardPhantom_channel]; rfl
    refine ⟨?_, fun h => Bool.noConfusion h, fun _ p => ?_, state, mark, queue, ?_⟩
    · rw [setCardPhantom_channel, channel]; rfl
    · exact (first p).between (s' := s) (u' := setCardPhantom c on t) rfl rfl rfl net (.of_ports (K := fun _ => False) rfl) id
    · exact (tells.mono fun k hk _ => .inr (by simpa using hk)).trans (.of_ports rfl)
  · have answered : answer true c v on s = setCardPhantom c on (laterReply c v s) := rfl
    have agree := agree_laterReply c v s
    have channel := laterReply_channel (c := c) (v := v) (s := s)
    obtain ⟨state, mark, queue⟩ := same _ agree.mono
    rw [answered]
    generalize laterReply c v s = t at agree channel state mark queue ⊢
    refine ⟨?_, fun _ p => desk_of_desks (agree .desks (by decide)) p c, fun h => Bool.noConfusion h, state, mark, queue, ?_⟩
    · rw [setCardPhantom_channel, channel]; rfl
    · exact .of_ports (agree .ports (by decide))

end

/-- After its write test a channel with something left to write waits in the write queue. -/
def WritesLeft (c : Chan) (t : State) : Prop :=
  (t.channel c).switched ≠ some (t.channel c).desired ∨ (t.channel c).cardPhantom ≠ some (commanded t c) → c ∈ t.bus.writeQueue

section
variable {k : Card} {known : Bool} {status : Byte} {c : Chan} {x : CardChannel} {s t u : State}

theorem writesLeft_writeTest (c : Chan) (s : State) : WritesLeft c (writeTest c s) := by
  unfold WritesLeft writeTest
  dsimp only
  split
  · next done => exact fun h => (h.elim (fun h => h done.1) fun h => h done.2).elim
  · exact fun _ => mem_queueWrite.2 (.inl rfl)

theorem WritesLeft.spares (h : WritesLeft c t) (g : Spares c t u) : WritesLeft c u := by
  unfold WritesLeft commanded at h ⊢
  rw [g.channel, g.phantom.1, g.waits]
  exact h

/-- A channel of a poll reply, before the starts: its values, then what the sequencer made of it, then the write test. -/
structure Replied (k : Card) (known : Bool) (status : Byte) (c : Chan) (x : CardChannel) (s t : State) (b : State) : Prop where
  answered : Answered known c (reportedValue x) x.phantomOn s b
  sequenced : Sequenced x.phantomFault k status c b t
  left : WritesLeft c t

theorem channelReplied_spec (k : Card) (known : Bool) (status : Byte) (c : Chan) (x : CardChannel) (s : State) :
    ∃ b, Replied k known status c x s (channelReplied k known status c x s) b ∧
      Settled x.phantomFault x.phantomOn c b (channelReplied k known status c x s) := by
  refine ⟨answer known c (reportedValue x) x.phantomOn s, ?_⟩
  have answered := answered_answer known c (reportedValue x) x.phantomOn s
  have replied : channelReplied k known status c x s = writeTest c
      ((if x.phantomFault then phantomFaulted k status c else phantomReported x.phantomOn c)
        (answer known c (reportedValue x) x.phantomOn s)) := by
    unfold channelReplied answer
    cases known <;> rfl
  generalize answer known c (reportedValue x) x.phantomOn s = b at answered replied ⊢
  have acted : Sequenced x.phantomFault k status c b
        ((if x.phantomFault then phantomFaulted k status c else phantomReported x.phantomOn c) b) ∧
      Settled x.phantomFault x.phantomOn c b
        ((if x.phantomFault then phantomFaulted k status c else phantomReported x.phantomOn c) b) := by
    cases x.phantomFault
    · exact phantomReported_spec x.phantomOn k status c b
    · exact phantomFaulted_spec x.phantomOn k status c b
  obtain ⟨sequenced, settled⟩ := acted
  generalize (if x.phantomFault then phantomFaulted k status c else phantomReported x.phantomOn c) b = m at *
  have tested := agree_writeTest c m
  have channel : (writeTest c m).channel c = m.channel c := congrArg (Bank.get · c) (tested .channels (by decide))
  have phantom : Untouched c m (writeTest c m) := .of_eq (tested .phantom (by decide)) (tested .startQueue (by decide))
  have ports : (writeTest c m).ports = m.ports := tested .ports (by decide)
  rw [replied]
  refine ⟨⟨answered, ?_, writesLeft_writeTest c m⟩, settled.still channel phantom (.of_ports (K := fun _ => False) ports) id⟩
  refine sequenced.still channel (fun p => desk_of_desks (tested .desks (by decide)) p c) (by rw [phantom.1]) (fun q => ?_)
    (.of_ports ports)
  rw [show (writeTest c m).retained = m.retained from tested .retained (by decide)]
  exact q

/-! ### The poll reply -/

/-- The state in which a reply has been noted at its card, its channels not yet (R74, steps 1 and 2). -/
def replyNoted (k : Card) (status : Byte) (s : State) : State :=
  let t := s |> freeBus |> modCard k (CardRecord.replied s.hubFrame status)
  if (s.card k).state = .absent ∨ ¬ (s.card k).known then postCard k .replied t else t

/-- The state in which all channels of a card have been gone through. -/
def channelsReplied (k : Card) (d : PollData) (s : State) : State :=
  forEach (fun c => channelReplied k (s.card k).known d.status c (d.channels.get (placeOnCard c))) (channelsOf k)
    (replyNoted k d.status s)

theorem takePollReply_eq (k : Card) (d : PollData) (s : State) : takePollReply k d s =
    startQueued (modCard k (fun r => { r with known := true }) (channelsReplied k d s)) := rfl

theorem pollReplied_eq {d : PollData} {start : Nat} (h : s.bus.transaction = some (.poll k start))
    (least : start + 24 ≤ s.hubFrame) (most : s.hubFrame ≤ start + 96) : pollReplied k d s = takePollReply k d s := by
  have time : inReplyTime Config.pollReplyMin start s.hubFrame = true :=
    Bool.and_eq_true_iff.2 ⟨decide_eq_true least, decide_eq_true most⟩
  unfold pollReplied
  rw [h]
  exact if_pos ⟨rfl, time⟩

theorem replyNoted_spec (k : Card) (status : Byte) (s : State) :
    Agree [.ports, .cards, .bus] s (replyNoted k status s) ∧
      (replyNoted k status s).bus = { s.bus with transaction := none } ∧
      (replyNoted k status s).card k = (s.card k).replied s.hubFrame status ∧
      Tells (fun j => j.1 = 3) s (replyNoted k status s) ∧
      ((s.card k).state = .absent → Posted (.cardState k .present .replied 0 (some status)) (replyNoted k status s)) := by
  generalize ht : modCard k (CardRecord.replied s.hubFrame status) (freeBus s) = t
  have card : t.card k = (s.card k).replied s.hubFrame status := ht ▸ modCard_card_same k _ _
  have noted : replyNoted k status s = if (s.card k).state = .absent ∨ ¬ (s.card k).known then
      post (.cardState k .present .replied 0 (some status)) t else t := by
    unfold replyNoted postCard
    dsimp only
    rw [ht, card]
    rfl
  have agree : Agree [.ports, .cards, .bus] s t :=
    ht ▸ (agree_freeBus s).mono.andThen (agree_modCard k _ _)
  have told : Tells (fun j => j.1 = 3) s (post (.cardState k .present .replied 0 (some status)) t) :=
    (Tells.of_ports (t := t) (ht ▸ rfl)).trans (.post (K := fun j => j.1 = 3) rfl t)
  rw [noted]
  split
  · exact ⟨agree.andThen (agree_post _ _), ht ▸ rfl, card, told, fun _ => posted_post (by simp [Report.key]) t⟩
  · next unchanged => exact ⟨agree, ht ▸ rfl, card, .of_ports (ht ▸ rfl), fun absent => absurd (.inl absent) unchanged⟩

/-- Of a poll reply a channel of the card takes what it reports, and is perhaps started at the end (R74, R103). -/
theorem takePollReply_channel (d : PollData) (hc : cardOf c = k) (hx : d.channels.get (placeOnCard c) = x) :
    ∃ b, Replied k (s.card k).known d.status c x s (takePollReply k d s) b ∧
      (StartQueueLaw s → Settled x.phantomFault x.phantomOn c b (takePollReply k d s) ∨
        (b.phantomOf c).state.replied x.phantomFault x.phantomOn = .queued ∧
          ((takePollReply k d s).phantomOf c).state = .rampUp ∧ PhantomPosted c .rampUp .started (takePollReply k d s)) := by
  subst hx
  obtain ⟨noted, -, -, told, -⟩ := replyNoted_spec k d.status s
  have replied (e : Chan) (t : State) := agree_channelReplied k (s.card k).known d.status e (d.channels.get (placeOnCard e)) t
  obtain ⟨t, ⟨spared, agree⟩, after⟩ : ∃ t,
      (Spares c (replyNoted k d.status s) t ∧ Agree touchedByReply (replyNoted k d.status s) t) ∧
      Spares c (channelReplied k (s.card k).known d.status c (d.channels.get (placeOnCard c)) t) (channelsReplied k d s) :=
    forEach_then (x := c)
      (D := fun t => Spares c (replyNoted k d.status s) t ∧ Agree touchedByReply (replyNoted k d.status s) t)
      (Q := fun u => ∃ t, (Spares c (replyNoted k d.status s) t ∧ Agree touchedByReply (replyNoted k d.status s) t) ∧
        Spares c (channelReplied k (s.card k).known d.status c (d.channels.get (placeOnCard c)) t) u)
      (fun e t he ht => ⟨ht.1.trans ((respects_spares he).channelReplied k _ d.status _ t), ht.2.trans (replied e t)⟩)
      (fun t ht => ⟨t, ht, .refl _⟩)
      (fun e u he ⟨t, ht, hu⟩ => ⟨t, ht, hu.trans ((respects_spares he).channelReplied k _ d.status _ u)⟩)
      (nodup_channelsOf k) (mem_channelsOf.2 hc) ⟨.refl _, .refl _⟩
  obtain ⟨b, ⟨answered, sequenced, left⟩, settled⟩ :=
    channelReplied_spec k (s.card k).known d.status c (d.channels.get (placeOnCard c)) t
  have untouched : Untouched c s (replyNoted k d.status s) :=
    .of_eq (noted .phantom (by decide)) (noted .startQueue (by decide))
  have fromStart : Answered (s.card k).known c (reportedValue (d.channels.get (placeOnCard c)))
      (d.channels.get (placeOnCard c)).phantomOn s b :=
    answered.before (spared.channel.trans (congrArg (Bank.get · c) (noted .channels (by decide))))
      (fun p => (spared.desk p).trans (desk_of_desks (noted .desks (by decide)) p c))
      (untouched.trans spared.phantom)
      ((told.mono fun _ h _ => .inl h).trans (spared.tells.mono fun _ h e => absurd e h))
      ⟨(agree .hubFrame (by decide)).trans (noted .hubFrame (by decide)),
        (agree .settings (by decide)).trans (noted .settings (by decide))⟩
  have known : Spares c (channelsReplied k d s) (modCard k (fun r => { r with known := true }) (channelsReplied k d s)) :=
    (agree_modCard k _ _).spares rfl
  have after := after.trans known
  rw [takePollReply_eq]
  generalize modCard k (fun r => { r with known := true }) (channelsReplied k d s) = u at after ⊢
  have sequenced := sequenced.spares after
  have settled := settled.spares after
  have left := left.spares after
  refine ⟨b, ?_⟩
  obtain spares | ⟨⟨waited, -⟩, entered, waits⟩ := startQueued_cases c u
  · exact ⟨⟨fromStart, sequenced.spares spares, left.spares spares⟩, fun _ => .inl (settled.spares spares)⟩
  · refine ⟨⟨fromStart, sequenced.entered entered, fun _ => waits⟩, fun law => .inr ⟨?_, entered.state, entered.posted⟩⟩
    rw [← settled.state]
    exact (settled.queue (by rw [fromStart.queue, fromStart.state]; exact law.2 c)).1 waited

/-! #### What it comes to, from before the reply to after it -/

section
variable {b : State} (h : Replied k known status c x s t b)
include h

theorem Replied.channel : t.channel c = { s.channel c with
    phantom := (s.channel c).phantom && !x.phantomFault,
    switched := some (reportedValue x), cardPhantom := some x.phantomOn,
    applied := if known then (s.channel c).applied else some (reportedValue x),
    applications := if known then
        (s.channel c).applications ++
          (s.channel c).appended (s.hubFrame + s.settings.converterDelay) (reportedValue x) none
      else (s.channel c).applications } := by
  rw [h.sequenced.channel, h.answered.channel]

theorem Replied.first (unknown : known = false) (p : Port) :
    FirstRecord p c (((reportedValue x).gain : Int) - if (reportedValue x).pad then 20 else 0) s t :=
  (h.answered.first unknown p).between rfl rfl (h.sequenced.desk p) (by rw [h.sequenced.channel]; rfl) h.sequenced.tells
    fun hk => by simpa using hk rfl

/-- No PHANTOM FAULT is told but of a fault that was not marked. -/
theorem Replied.fault_untold (untold : x.phantomFault = false ∨ (s.phantomOf c).fault = true) {q : Port} {r : Report}
    (hr : r ∈ (t.port q).control.reports) (hk : r.key = (7, c.val)) : r ∈ (s.port q).control.reports := by
  refine h.answered.tells.mem_of_mem (fun ha => ?_) (h.sequenced.tells.mem_of_mem (fun hs => ?_) hr)
  · rw [hk] at ha
    simpa using ha rfl
  · rw [hk] at hs
    obtain four | six | ⟨-, fault, unmarked⟩ := hs rfl
    · cases four
    · cases six
    · rw [h.answered.mark] at unmarked
      rw [fault, unmarked] at untold
      simp at untold

theorem Replied.setting (fault : x.phantomFault = true) (on : (s.channel c).phantom = true) : t.retained.quiet = some 0 ∧
    Posted (.settingChanged c (s.channel c).desired false (s.channel c).desiredBy (s.channel c).authority) t := by
  have told := h.sequenced.setting fault
  rw [h.answered.channel] at told
  exact told on

end

theorem PhantomState.replied_ne_rampUp {st : PhantomState} (on : Bool) (h : st ≠ .rampUp) : st.replied false on ≠ .rampUp := by
  cases st <;> cases on <;> simp_all [PhantomState.replied]

/-- A channel that is queued after a reply without fault is one that the card does not power (R106). -/
theorem PhantomState.replied_eq_queued {st : PhantomState} {on : Bool} (h : st.replied false on = .queued) :
    on = false ∧ (st = .queued ∨ st = .settleUp ∨ st = .on) := by
  cases st <;> cases on <;> simp_all [PhantomState.replied]

/-- The phantom of a channel after a poll reply, by what the card reports: told from where it stood before (R103, R106, R107). -/
theorem phantom_after_reply {fault on : Bool} {st : PhantomState}
    (moved : ((t.phantomOf c).state = st.replied fault on ∧
        ((t.phantomOf c).state ≠ st → PhantomPosted c (t.phantomOf c).state (if fault then .fault else .cardReported) t) ∧
        (fault = true → st ≠ .off → (t.phantomOf c).timer = none)) ∨
      st.replied fault on = .queued ∧ (t.phantomOf c).state = .rampUp ∧ PhantomPosted c .rampUp .started t) :
    (fault = true → (t.phantomOf c).state = .off ∧
      (st ≠ .off → (t.phantomOf c).timer = none ∧ PhantomPosted c .off .fault t)) ∧
    (fault = false →
      (st = .off → (t.phantomOf c).state = if on then .rampDown else .off) ∧
      (st = .off → on = true → PhantomPosted c .rampDown .cardReported t) ∧
      (st = .queued → on = true → (t.phantomOf c).state = .on ∧ PhantomPosted c .on .cardReported t) ∧
      (st = .settleUp ∨ st = .on → on = false →
        (t.phantomOf c).state = .queued → PhantomPosted c .queued .cardReported t) ∧
      (st ≠ .rampUp → (t.phantomOf c).state = .rampUp → PhantomPosted c .rampUp .started t) ∧
      (st = .settleUp ∨ st = .on → on = true → (t.phantomOf c).state = st) ∧
      (st = .queued ∨ st = .settleUp ∨ st = .on → on = false →
        (t.phantomOf c).state = .queued ∨ (t.phantomOf c).state = .rampUp) ∧
      (st = .rampUp ∨ st = .rampDown → (t.phantomOf c).state = st)) := by
  generalize (t.phantomOf c).state = st' at moved ⊢
  cases fault
  · refine ⟨fun h => Bool.noConfusion h, fun _ => ?_⟩
    obtain ⟨rfl, posted, -⟩ | ⟨queued, rfl, posted⟩ := moved
    · have told {st' : PhantomState} (goes : st.replied false on = st') (moves : st' ≠ st) :
          PhantomPosted c st' .cardReported t := goes ▸ posted (goes ▸ moves)
      refine ⟨?_, ?_, ?_, ?_, fun notYet up => absurd up (PhantomState.replied_ne_rampUp on notYet), ?_, ?_, ?_⟩
      · rintro rfl; cases on <;> rfl
      · rintro rfl rfl; exact told rfl (by decide)
      · rintro rfl rfl; exact ⟨rfl, told rfl (by decide)⟩
      · rintro (rfl | rfl) rfl -
        · exact told rfl (by decide)
        · exact told rfl (by decide)
      · rintro (rfl | rfl) rfl <;> rfl
      · rintro (rfl | rfl | rfl) rfl <;> exact .inl rfl
      · rintro (rfl | rfl) <;> cases on <;> rfl
    · obtain ⟨rfl, waits⟩ := PhantomState.replied_eq_queued queued
      refine ⟨fun e => ?_, fun e h => Bool.noConfusion h, fun _ h => Bool.noConfusion h, fun _ _ h => (by cases h),
        fun _ _ => posted, fun _ h => Bool.noConfusion h, fun _ _ => .inr rfl, fun e => ?_⟩
      · obtain h | h | h := waits <;> cases e.symm.trans h
      · obtain e | e := e <;> obtain h | h | h := waits <;> cases e.symm.trans h
  · refine ⟨fun _ => ?_, fun h => Bool.noConfusion h⟩
    obtain ⟨rfl, posted, timer⟩ | ⟨queued, -⟩ := moved
    · exact ⟨rfl, fun on => ⟨timer rfl on, posted (Ne.symm on)⟩⟩
    · cases queued

/-- The bus and the card after a poll reply, with CARD STATE where the card was ABSENT. -/
theorem takePollReply_card (k : Card) (d : PollData) (s : State) :
    (takePollReply k d s).bus.transaction = none ∧
      (takePollReply k d s).card k =
        { state := .present, known := true, timeouts := 0, lastPoll := some s.hubFrame, status := some d.status } ∧
      ((s.card k).state = .absent → Posted (.cardState k .present .replied 0 (some d.status)) (takePollReply k d s)) := by
  obtain ⟨-, bus, card, -, posted⟩ := replyNoted_spec k d.status s
  have replied (e : Chan) (t : State) := agree_channelReplied k (s.card k).known d.status e (d.channels.get (placeOnCard e)) t
  have cards : (channelsReplied k d s).cards = (replyNoted k d.status s).cards :=
    Agree.forEach replied _ _ .cards (by decide)
  have writes : QueuesWrites (replyNoted k d.status s) (takePollReply k d s) :=
    ((QueuesWrites.forEach (fun e t => (respects_queuesWrites e).channelReplied k _ d.status _ t) _ _).trans
      ((agree_modCard k _ _).queuesWrites rfl)).trans (queuesWrites_startQueued _)
  have offers : Offers [4, 5, 6, 7, 9] (replyNoted k d.status s)
      (modCard k (fun r => { r with known := true }) (channelsReplied k d s)) :=
    (Offers.forEach (fun e t => offers_channelReplied k _ d.status e _ t) _ _).trans ((agree_modCard k _ _).offers rfl)
  refine ⟨by rw [writes.transaction, bus], ?_, fun absent => ?_⟩
  · rw [takePollReply_eq]
    refine (congrArg (Bank.get · k) (agree_startQueued _ .cards (by decide))).trans ((modCard_card_same k _ _).trans ?_)
    rw [State.card, cards, ← State.card, card]
    rfl
  · exact ((posted absent).offers offers (by simp [Report.key])).offers (offers_startQueued _) (by simp [Report.key])

end

/-- Settles O40, from what a poll reply makes of its card and of each channel of the card. -/
theorem pollRepliesAreTaken : Obligations.PollRepliesAreTaken := by
  intro k d start s running polling least most
  obtain ⟨free, card, posted⟩ := takePollReply_card k d s
  refine ⟨_, congrArg Host.Outcome.next ((whenRunning_eq running _).trans (pollReplied_eq polling least most)), free, card,
    posted, ?_⟩
  rintro c x v hc hx rfl
  obtain ⟨b, replied, moved⟩ := takePollReply_channel (s := s) d hc hx
  generalize takePollReply k d s = t at replied moved ⊢
  have channel := replied.channel
  refine ⟨by rw [channel]; rfl, by rw [channel], by rw [channel], by rw [channel], by rw [channel], replied.sequenced.mark,
    fun unknown => ?_, fun unknown p => ?_, fun known => ?_, fun differs => ?_, fun fault unmarked => ?_,
    fun untold q r hr hk => replied.fault_untold untold hr hk, replied.setting, fun law => ?_⟩
  · rw [unknown] at channel
    refine ⟨by rw [channel]; rfl, by rw [channel]; rfl, fun p net hn => ?_⟩
    subst hn
    exact ⟨(replied.first unknown p).anchor, (replied.first unknown p).wanted⟩
  · have record := replied.first unknown p
    exact ⟨record.told, record.trim, record.mode, record.coefficient, record.comp, record.goal⟩
  · rw [known] at channel
    exact ⟨fun p => (replied.sequenced.desk p).trans (replied.answered.later known p), by rw [channel]; rfl, by rw [channel]; rfl⟩
  · refine replied.left (differs.imp (fun h e => h ?_) fun h e => h ?_)
    · rw [channel] at e ⊢; exact (Option.some.inj e).symm
    · rw [channel] at e; exact Option.some.inj e
  · rw [← replied.answered.state]
    exact replied.sequenced.faultTold fault (replied.answered.mark.trans unmarked)
  · rw [← replied.answered.state]
    exact phantom_after_reply ((moved law).imp_left fun settled => ⟨settled.state, settled.posted, settled.timer⟩)


end Sys2Proof.Machine
end

section
/-! PROOF. The laws of the channel table and the card bus: settles O14. Most commands leave what the cards hold and have reported;
those that do not (a reply, an application, a write that starts, a power-on, an image that starts) are gone through one by one. -/

namespace Sys2Proof.Machine

/-! ### The image (R162, R163) -/

/-- Every entry of the image, and of a write of it in progress, has a property. -/
def ImageHolds (P : RetainedEntry → Prop) (r : Retained) : Prop :=
  (∀ c, P (r.entries.get c)) ∧ ∀ w, r.write = some w → ∀ c, P (w.entries.get c)

section
variable {P : RetainedEntry → Prop} {r : Retained}

theorem ImageHolds.of_eq {r' : Retained} (h : ImageHolds P r) (entries : r'.entries = r.entries) (write : r'.write = r.write) :
    ImageHolds P r' := by unfold ImageHolds; rw [entries, write]; exact h

theorem ImageHolds.cut (h : ImageHolds P r) : ImageHolds P r.cut := ⟨h.1, fun _ hw => by cases hw⟩

theorem ImageHolds.tick (h : ImageHolds P r) : ImageHolds P r.tick := by
  refine ⟨h.1, fun w hw => ?_⟩
  obtain ⟨w', hw', rfl⟩ := Option.map_eq_some_iff.1 hw
  exact h.2 w' hw'

theorem ImageHolds.finish (h : ImageHolds P r) : ImageHolds P r.finish := by
  unfold Retained.finish
  split
  · next w hw =>
    split
    · exact ⟨h.2 w hw, fun _ hn => by cases hn⟩
    · exact h
  · exact h

theorem ImageHolds.restored (h : ImageHolds P r) (hd : P .default) (c : Chan) : P ((restoredEntries r).get c) := by
  unfold restoredEntries
  split
  · exact h.1 c
  · rw [Bank.get_const]; exact hd

end

theorem gainLaw_iff {s : State} : GainLaw s ↔
    (∀ c, (s.channel c).desired.inRange ∧ (∀ v, (s.channel c).switched = some v → v.inRange) ∧
      (∀ v, (s.channel c).applied = some v → v.inRange) ∧ ∀ e ∈ (s.channel c).applications, e.value.inRange) ∧
    (∀ c v ph a f, s.bus.transaction = some (.write c v ph a f) → v.inRange) ∧
    ImageHolds (fun e => e.desired.inRange) s.retained := .rfl

theorem authorityLaw_iff {s : State} : AuthorityLaw s ↔
    (∀ c, PortSet.inhabited (s.channel c).authority) ∧ ImageHolds (fun e => PortSet.inhabited e.authority) s.retained := .rfl

theorem busLaw_congr {s t : State} (writes : t.bus.writeQueue = s.bus.writeQueue)
    (broadcasts : t.bus.broadcasts = s.bus.broadcasts) (h : BusLaw s) : BusLaw t := by
  unfold BusLaw; rw [writes, broadcasts]; exact h

theorem QueuesWrites.busLaw {s t : State} (h : QueuesWrites s t) (law : BusLaw s) : BusLaw t := by
  obtain ⟨nodup, rates, offs⟩ := law
  exact ⟨h.nodup nodup, h.broadcasts ▸ rates, h.broadcasts ▸ offs⟩

/-! ### The four laws kept -/

/-- From s to t the laws of the channel table and the card bus are kept, each by itself. -/
structure KeepsChannelLaws (s t : State) : Prop where
  gain : GainLaw s → GainLaw t
  authority : AuthorityLaw s → AuthorityLaw t
  known : KnownLaw s → KnownLaw t
  bus : BusLaw s → BusLaw t

/-- A channel's record after a change that is not of its values: they stand, and the desired gain keeps its range and the
authority set a member. -/
structure Channel.Held (h h' : Channel) : Prop where
  switched : h'.switched = h.switched
  applied : h'.applied = h.applied
  cardPhantom : h'.cardPhantom = h.cardPhantom
  applications : h'.applications = h.applications
  desired : h.desired.inRange → h'.desired.inRange
  authority : PortSet.inhabited h.authority → PortSet.inhabited h'.authority

/-- From s to t no card has answered and no value was applied: the values, the cards' knowledge and the write in progress stand,
desired gains keep their range and authority sets their members, and so do the queues and the image theirs. -/
structure KeepsValues (s t : State) : Prop where
  channel : ∀ c, (s.channel c).Held (t.channel c)
  known : ∀ k, (t.card k).known = (s.card k).known
  present : ∀ k, (t.card k).state = .present → (s.card k).state = .present
  write : ∀ {c v ph a f}, t.bus.transaction = some (.write c v ph a f) → s.bus.transaction = some (.write c v ph a f)
  bus : BusLaw s → BusLaw t
  image : ∀ {P}, ImageHolds P s.retained → ImageHolds P t.retained

section
variable {s t u : State}

theorem KeepsChannelLaws.refl (s : State) : KeepsChannelLaws s s := ⟨id, id, id, id⟩

theorem KeepsChannelLaws.trans (h : KeepsChannelLaws s t) (g : KeepsChannelLaws t u) : KeepsChannelLaws s u :=
  ⟨g.gain ∘ h.gain, g.authority ∘ h.authority, g.known ∘ h.known, g.bus ∘ h.bus⟩

theorem KeepsChannelLaws.ite {x : Prop} [Decidable x] (h : KeepsChannelLaws s t) (g : KeepsChannelLaws s u) :
    KeepsChannelLaws s (if x then t else u) := by split <;> assumption

theorem Channel.Held.refl (h : Channel) : h.Held h := ⟨rfl, rfl, rfl, rfl, id, id⟩

theorem Channel.Held.trans {h h' h'' : Channel} (a : h.Held h') (b : h'.Held h'') : h.Held h'' :=
  ⟨b.switched.trans a.switched, b.applied.trans a.applied, b.cardPhantom.trans a.cardPhantom,
    b.applications.trans a.applications, b.desired ∘ a.desired, b.authority ∘ a.authority⟩

theorem Channel.Held.of_eq {h h' : Channel} (e : h' = h) : h.Held h' := e ▸ .refl h

theorem KeepsValues.refl (s : State) : KeepsValues s s :=
  ⟨fun _ => .refl _, fun _ => rfl, fun _ => id, id, id, id⟩

theorem KeepsValues.trans (h : KeepsValues s t) (g : KeepsValues t u) : KeepsValues s u where
  channel c := (h.channel c).trans (g.channel c)
  known k := (g.known k).trans (h.known k)
  present k := h.present k ∘ g.present k
  write := h.write ∘ g.write
  bus := g.bus ∘ h.bus
  image := g.image ∘ h.image

theorem KeepsValues.ite {x : Prop} [Decidable x] (h : KeepsValues s t) (g : KeepsValues s u) :
    KeepsValues s (if x then t else u) := by split <;> assumption

theorem KeepsValues.forEach {α : Type} {f : α → State → State} (h : ∀ a t, KeepsValues t (f a t)) (l : List α) (s : State) :
    KeepsValues s (forEach f l s) :=
  forEach_keeps (P := KeepsValues s) (fun a t ht => ht.trans (h a t)) l s (.refl s)

theorem KeepsValues.laws (h : KeepsValues s t) : KeepsChannelLaws s t where
  gain law := by
    obtain ⟨channels, write, image⟩ := gainLaw_iff.1 law
    refine gainLaw_iff.2 ⟨fun c => ?_, fun c v ph a f ht => write c v ph a f (h.write ht), h.image image⟩
    have held := h.channel c
    rw [held.switched, held.applied, held.applications]
    exact ⟨held.desired (channels c).1, (channels c).2⟩
  authority law :=
    let ⟨channels, image⟩ := authorityLaw_iff.1 law
    authorityLaw_iff.2 ⟨fun c => (h.channel c).authority (channels c), h.image image⟩
  known law := by
    obtain ⟨channels, present, write⟩ := law
    refine ⟨fun c => ?_, fun k hk => ?_, fun c v ph a f ht => ?_⟩
    · have held := h.channel c
      rw [held.switched, held.applied, held.cardPhantom, held.applications, h.known]
      exact channels c
    · rw [h.known]; exact present k (h.present k hk)
    · rw [h.known]; exact write c v ph a f (h.write ht)
  bus := h.bus

/-- Where the channels and the cards stand, the bus and the image are what there is to look at. -/
theorem keepsValues_of_bus (channels : t.channels = s.channels) (cards : t.cards = s.cards)
    (write : ∀ {c v ph a f}, t.bus.transaction = some (.write c v ph a f) → s.bus.transaction = some (.write c v ph a f))
    (bus : BusLaw s → BusLaw t) (image : ∀ {P}, ImageHolds P s.retained → ImageHolds P t.retained) : KeepsValues s t := by
  have card (k : Card) : t.card k = s.card k := congrArg (Bank.get · k) cards
  exact ⟨fun c => .of_eq (congrArg (Bank.get · c) channels), fun k => by rw [card], fun k => by rw [card]; exact id, write, bus,
    image⟩

/-- An operation that reaches neither the channels nor the cards nor the image, and gives the bus writes alone. -/
theorem QueuesWrites.keepsValues {ps : List Part} (g : QueuesWrites s t) (h : Agree ps s t)
    (hp : [Part.channels, .cards, .retained].all (fun x => !ps.contains x) = true) : KeepsValues s t := by
  have out (x : Part) (hx : x ∈ [Part.channels, .cards, .retained]) : x.same s t :=
    h x (by simpa using List.all_eq_true.1 hp x hx)
  have retained : t.retained = s.retained := out .retained (by decide)
  exact keepsValues_of_bus (out .channels (by decide)) (out .cards (by decide)) (fun ht => g.transaction ▸ ht) g.busLaw
    (fun h => retained ▸ h)

theorem Agree.keepsValues {ps : List Part} (h : Agree ps s t)
    (hp : [Part.channels, .cards, .bus, .retained].all (fun x => !ps.contains x) = true := by rfl) : KeepsValues s t := by
  have out (x : Part) (hx : x ∈ [Part.channels, .cards, .bus, .retained]) : ps.contains x = false := by
    simpa using List.all_eq_true.1 hp x hx
  refine (h.queuesWrites (out .bus (by decide))).keepsValues h (List.all_eq_true.2 fun x hx => ?_)
  simp only [List.mem_cons, List.not_mem_nil, or_false] at hx
  obtain rfl | rfl | rfl := hx
  · rw [out .channels (by decide)]; rfl
  · rw [out .cards (by decide)]; rfl
  · rw [out .retained (by decide)]; rfl

/-! ### Changes of settings, and writes queued -/

theorem keepsValues_queueWrite (c : Chan) (s : State) : KeepsValues s (queueWrite c s) :=
  (queuesWrites_queueWrite c s).keepsValues (agree_queueWrite c s) rfl

/-- What changes of settings reach of the image is its quiet timer. -/
theorem changeSetting_retained (c : Chan) (f : Channel → Channel) (s : State) :
    (changeSetting c f s).retained.entries = s.retained.entries ∧ (changeSetting c f s).retained.write = s.retained.write := by
  unfold changeSetting
  dsimp only
  split <;> split <;> exact ⟨rfl, rfl⟩

/-- Changes of settings of some channels, each with its values held. -/
theorem keepsValues_changeSettings_of {f : Chan → Channel → Channel} (l : List Chan) (s : State)
    (held : ∀ c, (s.channel c).Held ((forEach (fun d => changeSetting d (f d)) l s).channel c)) :
    KeepsValues s (forEach (fun d => changeSetting d (f d)) l s) := by
  have agree := Agree.forEach (fun d t => agree_changeSetting d (f d) t) l s
  have image : (forEach (fun d => changeSetting d (f d)) l s).retained.entries = s.retained.entries ∧
      (forEach (fun d => changeSetting d (f d)) l s).retained.write = s.retained.write :=
    forEach_keeps (P := fun t => t.retained.entries = s.retained.entries ∧ t.retained.write = s.retained.write)
      (fun d t ht => ⟨(changeSetting_retained d (f d) t).1.trans ht.1, (changeSetting_retained d (f d) t).2.trans ht.2⟩)
      l s ⟨rfl, rfl⟩
  generalize forEach (fun d => changeSetting d (f d)) l s = t at agree image held ⊢
  have cards : t.cards = s.cards := agree .cards (by decide)
  have bus : t.bus = s.bus := agree .bus (by decide)
  refine ⟨held, fun k => ?_, fun k => ?_, ?_, busLaw_congr (by rw [bus]) (by rw [bus]), fun h => h.of_eq image.1 image.2⟩
  · rw [State.card, cards]; rfl
  · rw [State.card, cards]; exact id
  · rw [bus]; exact id

theorem keepsValues_changeSetting {f : Channel → Channel} (hf : ∀ h : Channel, h.Held (f h)) (c : Chan) (s : State) :
    KeepsValues s (changeSetting c f s) := by
  refine keepsValues_changeSettings_of (f := fun _ => f) [c] s fun d => ?_
  show (s.channel d).Held ((changeSetting c f s).channel d)
  rw [changeSetting_channel]
  split
  · exact hf _
  · exact .refl _

theorem inhabited_put (a : PortSet) (p : Port) : PortSet.inhabited (a.put p true) := ⟨p, by simp⟩

end

/-! ### The phantom sequencer, the hub settings and carried proposals -/

theorem queuesWrites_changePhantom (c : Chan) (st : PhantomState) (why : PhantomReason) (s : State) :
    QueuesWrites s (changePhantom c st why s) := (respects_queuesWrites c).changePhantom st why s

theorem queuesWrites_endTransition (c : Chan) (s : State) : QueuesWrites s (endTransition c s) := by
  unfold endTransition
  split
  · exact (queuesWrites_changePhantom c _ _ s).trans (queuesWrites_startQueued _)
  · exact queuesWrites_changePhantom c _ _ s
  · exact (queuesWrites_changePhantom c _ _ s).trans (queuesWrites_startQueued _)
  all_goals exact .refl s

theorem queuesWrites_endIfDue (c : Chan) (s : State) : QueuesWrites s (endIfDue c s) :=
  .ite (queuesWrites_endTransition c s) (.refl s)

theorem keepsValues_endFrom (st : PhantomState) (c : Chan) (s : State) : KeepsValues s (endFrom st c s) :=
  (QueuesWrites.ite (queuesWrites_endIfDue c s) (.refl s)).keepsValues (agree_endFrom st c s) rfl

theorem keepsValues_phantomOn (c : Chan) (s : State) : KeepsValues s (phantomOn c s) := by
  refine QueuesWrites.keepsValues ?_ (agree_phantomOn c s) rfl
  unfold phantomOn
  split
  · exact (queuesWrites_changePhantom c _ _ s).trans (queuesWrites_startQueued _)
  all_goals exact .refl s

theorem keepsValues_phantomOff (c : Chan) (s : State) : KeepsValues s (phantomOff c s) := by
  refine QueuesWrites.keepsValues ?_ (agree_phantomOff c s) rfl
  unfold phantomOff
  split
  · exact queuesWrites_changePhantom c _ _ s
  · exact (queuesWrites_changePhantom c _ _ s).trans (queuesWrites_startQueued _)
  · exact queuesWrites_changePhantom c _ _ s
  · exact queuesWrites_changePhantom c _ _ s
  all_goals exact .refl s

theorem keepsValues_changeSettings (h : Settings) (s : State) : KeepsValues s (changeSettings h s) := by
  have effect {α : Type} [DecidableEq α] (field : Settings → α) {f : State → State} (t : State) (hf : QueuesWrites t (f t)) :
      QueuesWrites t (whenChanged field s.settings f t) := .ite (.refl t) hf
  have effects (t : State) : QueuesWrites t (settingEffects s.settings t) := by
    refine .ite (.refl t) ?_
    refine QueuesWrites.trans ?_ (effect _ _ ((agree_recomputeStage _).queuesWrites rfl))
    refine QueuesWrites.trans ?_ (effect _ _ ((agree_resortTalk _).queuesWrites rfl))
    refine QueuesWrites.trans ?_ (effect _ _ ((agree_testHead _).queuesWrites rfl))
    refine QueuesWrites.trans ?_ (effect _ _ (.forEach queuesWrites_endIfDue _ _))
    refine QueuesWrites.trans ?_ (effect _ _ ((agree_sourceChanged _).queuesWrites rfl))
    refine QueuesWrites.trans ?_ (effect _ _ ((agree_expireHolds _).queuesWrites rfl))
    refine QueuesWrites.trans ?_ (effect _ _ ((agree_qualifyAll _).queuesWrites rfl))
    exact .of_bus rfl
  have set : KeepsValues s { s with settings := h } := keepsValues_of_bus rfl rfl id id id
  exact set.trans ((effects { s with settings := h }).keepsValues (agree_settingEffects_narrow _ _) rfl)

theorem busLaw_postSetRate (r : Rate) {s : State} (law : BusLaw s) : BusLaw (postSetRate r s) := by
  obtain ⟨nodup, rates, offs⟩ := law
  unfold postSetRate BusLaw
  rw [modBus_bus]
  split
  · have kind (b : Broadcast) : (if b.isSetRate then Broadcast.setRate r else b).isSetRate = b.isSetRate := by
      cases b <;> rfl
    refine ⟨nodup, ?_, ?_⟩
    · simpa [List.filter_map, Function.comp_def, kind] using rates
    · simpa [List.filter_map, Function.comp_def, kind] using offs
  · next none =>
    have rates : s.bus.broadcasts.filter Broadcast.isSetRate = [] := by simpa [List.filter_eq_nil_iff] using none
    refine ⟨nodup, ?_, ?_⟩
    · rw [List.filter_append, rates, List.nil_append]
      exact Nat.le_refl 1
    · simpa [Broadcast.isSetRate] using offs

theorem keepsValues_postSetRate (r : Rate) (s : State) : KeepsValues s (postSetRate r s) := by
  refine keepsValues_of_bus rfl rfl (fun h => ?_) (busLaw_postSetRate r) id
  unfold postSetRate at h
  rw [modBus_bus] at h
  split at h <;> exact h

theorem held_granted (p : Port) (h : Channel) : h.Held (h.granted p) :=
  ⟨rfl, rfl, rfl, rfl, id, fun _ => inhabited_put h.authority p⟩

theorem keepsValues_carry (pr : Proposal) (s : State) : KeepsValues s (carry pr s) := by
  have ended : KeepsValues s (endProposal pr .carried s) := (agree_endProposal pr .carried s).keepsValues
  have told (r : Report) (t : State) : KeepsValues t (post r t) := (agree_post r t).keepsValues
  unfold carry
  dsimp only
  split
  · next r _ =>
    have changed (t : State) : KeepsValues t (changeRate r t) := (agree_changeRate r t).keepsValues
    exact (((ended.trans (told _ _)).trans (changed _)).trans (keepsValues_postSetRate r _)).trans (told _ _)
  · exact (ended.trans (told _ _)).trans (.forEach (keepsValues_changeSetting (held_granted pr.proposer)) _ _)
  · have cleared (t : State) : KeepsValues t (clearedByReset t) := (agree_clearedByReset_full t).keepsValues
    rw [carryReset_eq]
    exact ((ended.trans (cleared _)).trans (keepsValues_changeSettings _ _)).trans (told _ _)

theorem keepsValues_testWindow (s : State) : KeepsValues s (testWindow s) := by
  unfold testWindow
  split
  · exact .ite (keepsValues_carry _ s) (.refl s)
  · exact .refl s

/-! ### Requests -/

section
variable {p : Port} {s : State}

theorem keepsValues_serve {kind : Byte} {owner : Message → State → Served} (h : ∀ m t, KeepsValues t (owner m t).state) (p : Port)
    (s : State) : KeepsValues s (serve p kind owner s) := by
  have queued (f : Control → Control) (t : State) : KeepsValues t (modControl p f t) := (agree_modControl p f t).keepsValues
  obtain e | ⟨m, rest, -, -, -, e⟩ := serve_cases p kind owner s <;> rw [e]
  · exact .refl s
  · have served : KeepsValues s (checkAndServe p owner m s).state := by
      unfold checkAndServe
      split
      · exact .refl s
      · split
        · exact .refl s
        · exact h m s
    exact (served.trans (queued _ _)).trans (queued _ _)

theorem takeChannels_keepsValues {act : Chan → State → State} {sat : Chan → State → Bool} (h : ∀ c t, KeepsValues t (act c t))
    (cs : List Chan) (x : Taken) : KeepsValues x.state (takeChannels p act sat cs x).state := by
  induction cs generalizing x with
  | nil => exact .refl _
  | cons c cs ih =>
    unfold takeChannels
    split
    · generalize hy : Taken.mk (act c x.state) _ _ _ _ = y
      have state : y.state = act c x.state := hy ▸ rfl
      exact (h c x.state).trans (state ▸ ih y)
    · exact .refl _

theorem keepsValues_takeDesired {f : GainPad → GainPad} (hf : ∀ v, v.inRange → (f v).inRange) (p : Port) (c : Chan) (s : State) :
    KeepsValues s (takeDesired p f c s) :=
  .ite (.refl s) ((keepsValues_changeSetting (f := fun h => { h with desired := f h.desired, desiredBy := some p })
    (fun h => ⟨rfl, rfl, rfl, rfl, hf h.desired, id⟩) c s).trans (keepsValues_queueWrite c _))

theorem keepsValues_serveGain (p : Port) (m : Message) (s : State) : KeepsValues s (serveGain p m s).state := by
  unfold serveGain
  split
  · exact .refl s
  · have limited : min Config.maxGain (u8 m.body 2) ≤ 63 := Nat.min_le_left _ _
    exact takeChannels_keepsValues
      (keepsValues_takeDesired (f := fun v => { v with gain := min Config.maxGain (u8 m.body 2) }) (fun _ _ => limited) p) _
      (Taken.start s)

theorem steppedGain_le (d : Int) (g : Nat) : steppedGain d g ≤ 63 := by
  unfold steppedGain clampInt Config.maxGain
  omega

theorem keepsValues_serveStep (p : Port) (m : Message) (s : State) : KeepsValues s (serveStep p m s).state := by
  unfold serveStep
  split
  · exact .refl s
  · exact takeChannels_keepsValues
      (keepsValues_takeDesired (f := fun v => { v with gain := steppedGain (clampInt (-10) 10 (s8 m.body 2)) v.gain })
        (fun v _ => steppedGain_le _ v.gain) p) _ (Taken.start s)

theorem keepsValues_servePad (p : Port) (m : Message) (s : State) : KeepsValues s (servePad p m s).state := by
  unfold servePad
  split
  · exact .refl s
  · split
    · exact .refl s
    · exact takeChannels_keepsValues
        (keepsValues_takeDesired (f := fun v => { v with pad := decide (u8 m.body 2 = 1) }) (fun _ h => h) p) _ (Taken.start s)

theorem keepsValues_takePhantom (on : Bool) (c : Chan) (s : State) : KeepsValues s (takePhantom on c s) := by
  have set := keepsValues_changeSetting (f := fun h => { h with phantom := on })
    (fun _ => ⟨rfl, rfl, rfl, rfl, id, id⟩) c s
  cases on
  · exact set.trans (keepsValues_phantomOff c _)
  · exact set.trans (keepsValues_phantomOn c _)

theorem keepsValues_servePhantom (p : Port) (m : Message) (s : State) : KeepsValues s (servePhantom p m s).state := by
  unfold servePhantom
  split
  · exact .refl s
  · split
    · exact .refl s
    · exact takeChannels_keepsValues (keepsValues_takePhantom _) _ (Taken.start s)

/-- A removal leaves each set that it changes another member, for it is refused where one would be left empty (R62). -/
theorem keepsValues_remove {cs : List Chan} (hn : cs.Nodup) (hw : wouldEmpty p .removeSelf cs s = false) :
    KeepsValues s (forEach (fun c => changeSetting c (AuthorityAction.act p .removeSelf)) (authorised p s cs) s) := by
  refine keepsValues_changeSettings_of (f := fun _ => AuthorityAction.act p .removeSelf) _ s fun c => ?_
  rw [(forEach_changeSetting (authorised_nodup hn) c s).1]
  split
  · next hc =>
    refine ⟨rfl, rfl, rfl, rfl, id, fun _ => ?_⟩
    have shared : ¬ ∀ r, r ≠ p → (s.channel c).authority.get r = false := fun alone =>
      absurd (wouldEmpty_iff.2 ⟨c, mem_of_authorised hc, holds_of_authorised hc, alone⟩) (by rw [hw]; decide)
    push Not at shared
    obtain ⟨r, other, holds⟩ := shared
    exact ⟨r, (Bank.get_put_ne _ _ (Ne.symm other)).trans (by simpa using holds)⟩
  · exact .refl _

theorem keepsValues_serveAuthority (p : Port) (m : Message) (s : State) : KeepsValues s (serveAuthority p m s).state := by
  unfold serveAuthority
  split
  · next cs a hr ha =>
    split
    · exact .refl s
    · next hw =>
      cases a with
      | add q =>
        have added := keepsValues_changeSetting (f := AuthorityAction.act p (.add q))
          fun h => ⟨rfl, rfl, rfl, rfl, id, fun _ => inhabited_put h.authority q⟩
        exact takeChannels_keepsValues added cs (Taken.start s)
      | removeSelf =>
        have taken := takeChannels_spec (p := p) (takesOne_takeAuthority (p := p) (a := .removeSelf)) (rangeOf_nodup hr)
          (Taken.start s) rfl
        dsimp only
        rw [taken.state]
        exact keepsValues_remove (rangeOf_nodup hr) (Bool.eq_false_iff.2 hw)
  · exact .refl s

theorem keepsValues_serveSetHub (m : Message) (s : State) : KeepsValues s (serveSetHub m s).state := by
  unfold serveSetHub
  split
  · exact .refl s
  · exact (keepsValues_changeSettings _ s).trans (.ite (.refl _) (keepsValues_testWindow _))

theorem keepsValues_servePropose (p : Port) (m : Message) (s : State) : KeepsValues s (servePropose p m s).state := by
  have opened (f : Consent → Consent) : KeepsValues s (modConsent f s) := (agree_modConsent f s).keepsValues
  have asked (pr : Proposal) (t : State) : KeepsValues t (askVoters pr t) :=
    (show Agree [.ports] t (askVoters pr t) from
      Agree.forEach (fun _ u => Agree.ite (agree_postTo _ _ _) (.refl u)) _ _).keepsValues
  unfold servePropose
  dsimp only
  split
  · exact .refl s
  · split
    · exact .refl s
    · split
      · exact .refl s
      · split
        · exact (opened _).trans (keepsValues_carry _ _)
        · exact (opened _).trans (asked _ _)

end

/-! ### The card bus, the cards' timeouts, the image and the power -/

section
variable {s : State}

/-- The start of a poll or of a broadcast, or the end of a transaction: no write starts. -/
theorem keepsValues_modBus {f : CardBus → CardBus}
    (transaction : ∀ {c v ph a n}, (f s.bus).transaction ≠ some (.write c v ph a n))
    (writes : (f s.bus).writeQueue = s.bus.writeQueue) (broadcasts : (f s.bus).broadcasts.Sublist s.bus.broadcasts) :
    KeepsValues s (modBus f s) := by
  refine keepsValues_of_bus rfl rfl (fun h => absurd h transaction) (fun ⟨nodup, rates, offs⟩ => ⟨?_, ?_, ?_⟩) id
  · exact writes ▸ nodup
  · exact (broadcasts.filter _).length_le.trans rates
  · exact (broadcasts.filter _).length_le.trans offs

theorem keepsValues_freeBus (s : State) : KeepsValues s (freeBus s) :=
  keepsValues_modBus (fun h => by cases h) rfl (List.Sublist.refl _)

theorem keepsValues_startPoll (s : State) : KeepsValues s (startPoll s) := by
  unfold startPoll
  split
  · exact keepsValues_modBus (fun h => by cases h) rfl (List.Sublist.refl _)
  · exact .refl s

theorem keepsValues_startBroadcast (b : Broadcast) (s : State) : KeepsValues s (startBroadcast b s) :=
  keepsValues_modBus (fun h => by cases h) rfl (List.drop_sublist 1 _)

theorem keepsValues_startPhantomOffAll (s : State) : KeepsValues s (startPhantomOffAll s) := by
  unfold startPhantomOffAll
  split
  · exact keepsValues_startBroadcast _ s
  · exact .refl s

theorem keepsValues_startSetRate (s : State) : KeepsValues s (startSetRate s) := by
  unfold startSetRate
  split
  · exact keepsValues_startBroadcast _ s
  · exact .refl s

theorem keepsValues_endBroadcast (s : State) : KeepsValues s (endBroadcast s) := by
  unfold endBroadcast
  split
  · exact .ite (keepsValues_freeBus s) (.refl s)
  · exact .refl s

/-- A card's record changed, but not what is known of it, and the card not made PRESENT. -/
theorem keepsValues_modCard {f : CardRecord → CardRecord} (known : ∀ r, (f r).known = r.known)
    (present : ∀ r, (f r).state = .present → r.state = .present) (k : Card) (s : State) : KeepsValues s (modCard k f s) := by
  have card (j : Card) : (modCard k f s).card j = if k = j then f (s.card k) else s.card j := modCard_card k j f s
  refine ⟨fun _ => .refl _, fun j => ?_, fun j => ?_, id, id, id⟩
  · rw [card]; split
    · next e => rw [known, e]
    · rfl
  · rw [card]; split
    · next e => exact fun h => e ▸ present _ h
    · exact id

theorem keepsValues_becomeAbsent (k : Card) (s : State) : KeepsValues s (becomeAbsent k s) := by
  have gone := keepsValues_modCard (f := fun r => { r with state := .absent }) (fun _ => rfl) (fun _ h => by cases h) k s
  have told : KeepsValues _ (toldAbsent k s) := gone.trans (agree_postCard k .noReply _).keepsValues
  have channels : QueuesWrites (toldAbsent k s) (startQueued (forEach phantomAbsent (channelsOf k) (toldAbsent k s))) :=
    (QueuesWrites.forEach (fun c t => (respects_queuesWrites c).phantomAbsent t) _ _).trans (queuesWrites_startQueued _)
  exact told.trans (channels.keepsValues (agree_absentChannels _) rfl)

theorem keepsValues_transactionTimedOut (s : State) : KeepsValues s (transactionTimedOut s) := by
  have timed (k : Card) (poll : Option Nat) : KeepsValues s (timeOut k poll s) := by
    have counted : KeepsValues s (countedTimeout k poll s) :=
      (keepsValues_freeBus s).trans (keepsValues_modCard (f := CardRecord.timedOut poll) (fun _ => rfl) (fun _ => id) k _)
    rw [timeOut_eq]
    exact .ite (counted.trans (keepsValues_becomeAbsent k _)) counted
  unfold transactionTimedOut
  split
  · exact .ite (timed _ _) (.refl s)
  · exact .ite (timed _ _) (.refl s)
  · exact .refl s

theorem keepsValues_modRetained {f : Retained → Retained} (h : ∀ {P}, ImageHolds P s.retained → ImageHolds P (f s.retained)) :
    KeepsValues s (modRetained f s) := keepsValues_of_bus rfl rfl id id h

theorem keepsValues_startFrame (s : State) : KeepsValues s (startFrame s) := by
  have sent (n : Nat) : KeepsValues s (sendFrames n s) := (agree_sendFrames n s).keepsValues
  have ticked (t : State) : KeepsValues t (tickFrame t) := keepsValues_of_bus rfl rfl id id ImageHolds.tick
  have flags (t : State) : KeepsValues t { t with begun := true, played := false } := keepsValues_of_bus rfl rfl id id id
  unfold startFrame
  dsimp only
  exact .ite (.refl s) ((KeepsValues.ite ((sent _).trans (ticked _)) (sent _)).trans (flags _))

/-- A power loss, and the hold by the reset input: no transaction goes on, and the image is cut. -/
theorem keepsValues_holdReset (p : Power) (s : State) : KeepsValues s { losePower s with power := p } :=
  keepsValues_of_bus rfl rfl (fun h => by cases h) id ImageHolds.cut

theorem keepsValues_takeReset (s : State) : KeepsValues s (takeReset s) := by
  have pin : KeepsValues s { s with resetInput := true } := keepsValues_of_bus rfl rfl id id id
  exact .ite pin (pin.trans (keepsValues_holdReset .held _))

theorem keepsValues_assertReset (pulse : ResetPulse) (s : State) : KeepsValues s (assertReset pulse s) := by
  have read : KeepsValues s { s with freeReads := s.freeReads + 1 } := keepsValues_of_bus rfl rfl id id id
  cases pulse
  · exact keepsValues_takeReset s
  · exact .ite (read.trans (keepsValues_takeReset _)) read

/-- What the arbiter has written is a channel of a PRESENT card (R71, case 3). -/
theorem cardPresent_of_busChoice {c : Chan} (h : busChoice s = .write c) : s.cardPresent c = true := by
  unfold busChoice at h
  split at h
  · cases h
  · split at h
    · cases h
    · next oldest =>
      cases h
      simpa using List.find?_some oldest
    · cases h

/-- A write starts with a desired value, to a PRESENT card (R69, R71). -/
theorem keepsChannelLaws_startWrite (s : State) : KeepsChannelLaws s (startWrite s) := by
  unfold startWrite
  split
  · next c free choice =>
    have present := cardPresent_of_busChoice choice
    refine ⟨fun law => ?_, id, fun law => ?_, busLaw_congr rfl rfl⟩
    · obtain ⟨channels, -, image⟩ := gainLaw_iff.1 law
      refine gainLaw_iff.2 ⟨channels, fun _ _ _ _ _ h => ?_, image⟩
      cases h
      exact (channels c).1
    · obtain ⟨channels, known, -⟩ := law
      refine ⟨channels, known, fun _ _ _ _ _ h => ?_⟩
      cases h
      exact known _ (of_decide_eq_true present)
  · exact .refl s

/-- A write of the image starts with the entries as the channels have them (R163). -/
theorem keepsChannelLaws_startWriting (s : State) : KeepsChannelLaws s (startWriting s) := by
  have written {P : RetainedEntry → Prop} (image : ImageHolds P s.retained)
      (channels : ∀ c, P { desired := (s.channel c).desired, phantom := (s.channel c).phantom,
                              authority := (s.channel c).authority }) :
      ImageHolds P { s.retained with
        valid := false, quiet := none, write := some { elapsed := 0, entries := imageEntries s } } := by
    refine ⟨image.1, fun w hw c => ?_⟩
    cases hw
    unfold imageEntries
    rw [Bank.get_each]
    exact channels c
  unfold startWriting
  split
  · refine .ite ⟨fun law => ?_, fun law => ?_, id, id⟩ (.refl s)
    · obtain ⟨channels, write, image⟩ := gainLaw_iff.1 law
      exact gainLaw_iff.2 ⟨channels, write, written image fun c => (channels c).1⟩
    · obtain ⟨channels, image⟩ := authorityLaw_iff.1 law
      exact authorityLaw_iff.2 ⟨channels, written image channels⟩
  · exact .refl s

end

/-! ### Power-on (R166) -/

theorem inRange_default : RetainedEntry.default.desired.inRange := Nat.zero_le _

theorem inhabited_default : PortSet.inhabited RetainedEntry.default.authority := ⟨0, by decide⟩

theorem keepsChannelLaws_powerOnState (s : State) : KeepsChannelLaws s (powerOnState s) := by
  have channel (c : Chan) : (powerOnState s).channel c = restoredChannel ((restoredEntries s.retained).get c) :=
    Bank.get_each _ _ c
  have image {P : RetainedEntry → Prop} (h : ImageHolds P s.retained) : ImageHolds P (powerOnState s).retained := h.cut
  have card (k : Card) : (powerOnState s).card k =
      { state := .absent, known := false, timeouts := 0, lastPoll := none, status := none } := Bank.get_const _ _
  refine ⟨fun law => ?_, fun law => ?_, fun _ => ⟨fun c => ?_, fun k hk => ?_, fun _ _ _ _ _ h => ?_⟩, fun _ => ?_⟩
  · obtain ⟨-, -, held⟩ := gainLaw_iff.1 law
    refine gainLaw_iff.2 ⟨fun c => ?_, fun _ _ _ _ _ h => (by cases h), image held⟩
    rw [channel]
    exact ⟨held.restored inRange_default c, fun _ h => (by cases h), fun _ h => (by cases h), fun _ h => (by cases h)⟩
  · obtain ⟨-, held⟩ := authorityLaw_iff.1 law
    refine authorityLaw_iff.2 ⟨fun c => ?_, image held⟩
    rw [channel]
    exact held.restored inhabited_default c
  · rw [channel, card]
    exact ⟨by simp [restoredChannel, Channel.reset], by simp [restoredChannel, Channel.reset],
      by simp [restoredChannel, Channel.reset], by simp [restoredChannel, Channel.reset]⟩
  · rw [card] at hk; cases hk
  · cases h
  · exact ⟨List.nodup_nil, Nat.zero_le _, Nat.le_refl 1⟩

theorem keepsChannelLaws_powerOn (s : State) : KeepsChannelLaws s (powerOn s) := by
  have cut : KeepsValues s { s with retained := s.retained.cut } := keepsValues_of_bus rfl rfl id id ImageHolds.cut
  have on := cut.laws.trans (keepsChannelLaws_powerOnState _)
  cases h : s.resetInput
  · rw [powerOn_released h]
    have lit (t : State) (ports : Bank 3 PortUnit) : KeepsValues t { t with ports := ports } :=
      keepsValues_of_bus rfl rfl id id id
    exact on.trans (lit _ _).laws
  · rw [show powerOn s = holdReset (powerOnState { s with retained := s.retained.cut }) from if_pos h]
    exact on.trans (keepsValues_holdReset .held _).laws

theorem keepsChannelLaws_powerOnReset (cause : ResetCause) (s : State) : KeepsChannelLaws s (powerOnReset cause s) := by
  have released : KeepsValues s { s with resetInput := false } := keepsValues_of_bus rfl rfl id id id
  cases cause with
  | supplies => exact keepsChannelLaws_powerOn s
  | release => exact .ite (.ite released.laws (released.laws.trans (keepsChannelLaws_powerOn _))) (.refl s)

/-! ### Replies of the cards and applications (R60, R72, R74) -/

section
variable {c : Chan} {s : State}

theorem takeWriteAck_cards (c : Chan) (v : GainPad) (on : Bool) (author : Option Port) (s : State) :
    (takeWriteAck c v on author s).cards = (modCard (cardOf c) (fun r => { r with timeouts := 0 }) s).cards := by
  have appended : (ackAppended c v author s).cards = (modCard (cardOf c) (fun r => { r with timeouts := 0 }) s).cards := by
    unfold ackAppended
    dsimp only
    split <;> rfl
  have settled (u : State) : (settleEntry c u).cards = u.cards := agree_settleEntry c u .cards (by decide)
  rw [takeWriteAck_eq, settled, ← appended]
  generalize ackAppended c v author s = t
  rfl

/-- What an application of a value appends is of that value. -/
theorem value_of_mem_appended {h : Channel} {e : Nat} {v : GainPad} {who : Option Port} {x : Application}
    (hx : x ∈ h.appended e v who) : x.value = v := by
  unfold Channel.appended at hx
  split at hx
  · cases hx
  · exact List.mem_singleton.1 hx ▸ rfl

/-- The values of a channel's record lie in the range of gains (R58). -/
def Channel.valuesInRange (h : Channel) : Prop :=
  (∀ v, h.switched = some v → v.inRange) ∧ (∀ v, h.applied = some v → v.inRange) ∧ ∀ e ∈ h.applications, e.value.inRange

/-- The values of a channel's record are there as its card is known or not (R58, R74). -/
def Channel.valuesKnown (h : Channel) (known : Bool) : Prop :=
  (h.switched.isSome = true ↔ known = true) ∧ (h.applied.isSome = true ↔ known = true) ∧
    (h.cardPhantom.isSome = true ↔ known = true) ∧ (h.applications ≠ [] → known = true)

/-- An operation that sets the values of some channels, in range and known as their cards are. -/
theorem keepsChannelLaws_of_values {t : State} (answers : Chan → Prop)
    (others : ∀ c, ¬ answers c → t.channel c = s.channel c ∧ (t.card (cardOf c)).known = (s.card (cardOf c)).known)
    (held : ∀ c, answers c →
      (t.channel c).desired = (s.channel c).desired ∧ (t.channel c).authority = (s.channel c).authority)
    (range : GainLaw s → ∀ c, answers c → (t.channel c).valuesInRange)
    (known : KnownLaw s → ∀ c, answers c → (t.channel c).valuesKnown (t.card (cardOf c)).known)
    (present : KnownLaw s → ∀ k, (t.card k).state = .present → (t.card k).known = true)
    (write : ∀ {c v ph a f}, t.bus.transaction = some (.write c v ph a f) →
      s.bus.transaction = some (.write c v ph a f) ∧ t.card (cardOf c) = s.card (cardOf c))
    (bus : BusLaw s → BusLaw t) (image : ∀ {P}, ImageHolds P s.retained → ImageHolds P t.retained) : KeepsChannelLaws s t := by
  refine ⟨fun law => ?_, fun law => ?_, fun law => ⟨fun c => ?_, present law, fun c v ph a f h => ?_⟩, bus⟩
  · obtain ⟨channels, writing, kept⟩ := gainLaw_iff.1 law
    refine gainLaw_iff.2 ⟨fun c => ?_, fun c v ph a f h => writing c v ph a f (write h).1, image kept⟩
    by_cases hc : answers c
    · exact ⟨(held c hc).1 ▸ (channels c).1, range law c hc⟩
    · exact (others c hc).1 ▸ channels c
  · obtain ⟨channels, kept⟩ := authorityLaw_iff.1 law
    refine authorityLaw_iff.2 ⟨fun c => ?_, image kept⟩
    by_cases hc : answers c
    · exact (held c hc).2 ▸ channels c
    · exact (others c hc).1 ▸ channels c
  · by_cases hc : answers c
    · exact known law c hc
    · rw [(others c hc).1, (others c hc).2]
      exact law.1 c
  · rw [(write h).2]
    exact law.2.2 c v ph a f (write h).1

theorem writeAcked_cases (k : Card) (c : Chan) (s : State) : writeAcked k c s = s ∨
    ∃ v on who start, s.bus.transaction = some (.write c v on who start) ∧ writeAcked k c s = takeWriteAck c v on who s := by
  unfold writeAcked
  split
  · next e v on who start writing =>
    split
    · next time => exact .inr ⟨v, on, who, start, time.1 ▸ writing, time.1 ▸ rfl⟩
    · exact .inl rfl
  · exact .inl rfl

theorem keepsChannelLaws_writeAcked (k : Card) (c : Chan) (s : State) : KeepsChannelLaws s (writeAcked k c s) := by
  have others := (records_writeAcked (c := c) (cs := fun d => decide (c = d)) (ds := fun _ _ => false)
    (decide_eq_true rfl) k s).channel
  obtain stays | ⟨v, on, who, start, writing, acked⟩ := writeAcked_cases k c s
  · rw [stays]; exact .refl s
  · rw [acked] at others ⊢
    obtain ⟨bus, -, channel, -⟩ := takeWriteAck_spec c v on who s
    have timed := keepsValues_modCard (f := fun r => { r with timeouts := 0 }) (fun _ => rfl) (fun _ => id) (cardOf c) s
    have card (j : Card) : (takeWriteAck c v on who s).card j =
        (modCard (cardOf c) (fun r => { r with timeouts := 0 }) s).card j :=
      congrArg (Bank.get · j) (takeWriteAck_cards c v on who s)
    have retained : (takeWriteAck c v on who s).retained = s.retained := agree_takeWriteAck c v on who s .retained (by decide)
    generalize takeWriteAck c v on who s = t at *
    have known (j : Card) : (t.card j).known = (s.card j).known := by rw [card]; exact timed.known j
    refine keepsChannelLaws_of_values (c = ·) (fun d hd => ⟨others d (decide_eq_false hd), known _⟩) ?_ ?_ ?_ (fun law j hj => ?_)
      (fun h => ?_) (fun law => ?_) (fun h => retained ▸ h)
    · rintro _ rfl
      rw [channel]; exact ⟨rfl, rfl⟩
    · rintro ⟨channels, written, -⟩ _ rfl
      have inRange := written c v on who start writing
      obtain ⟨-, -, applied, applications⟩ := channels c
      rw [channel]
      refine ⟨fun w hw => Option.some.inj hw ▸ inRange, applied, fun e he => ?_⟩
      exact (List.mem_append.1 he).elim (applications e) fun new => value_of_mem_appended new ▸ inRange
    · rintro ⟨channels, -, written⟩ _ rfl
      have written := written c v on who start writing
      obtain ⟨-, applied, -, -⟩ := channels c
      rw [channel, known]
      exact ⟨iff_of_true rfl written, applied, iff_of_true rfl written, fun _ => written⟩
    · rw [known]
      rw [card] at hj
      exact law.2.1 j (timed.present j hj)
    · rw [bus] at h; cases h
    · obtain ⟨nodup, rates, offs⟩ := law
      unfold BusLaw
      rw [bus]
      refine ⟨?_, rates, offs⟩
      dsimp only
      split
      · exact nodup.filter _
      · exact nodup

/-! #### Applications -/

theorem applicationDue_cases (c : Chan) (s : State) : applicationDue c s = s ∨
    ∃ x ∈ (s.channel c).applications, ∃ rest : List Application, (∀ e ∈ rest, e ∈ (s.channel c).applications) ∧
      (applicationDue c s).channel c = { s.channel c with applied := some x.value, applications := rest } := by
  unfold applicationDue
  split
  · exact .inl rfl
  · next first rest entries =>
    split
    · generalize hx : (first :: rest.filter fun e => e.due = first.due).getLast?.getD first = x
      have chosen : x ∈ first :: rest.filter fun e => e.due = first.due := by
        rw [← hx, List.getLast?_eq_some_getLast (List.cons_ne_nil _ _), Option.getD_some]
        exact List.getLast_mem _
      refine .inr ⟨x, ?_, rest.filter fun e => e.due ≠ first.due, fun e he => ?_, ?_⟩
      · rw [entries]
        exact (List.mem_cons.1 chosen).elim (fun e => e ▸ List.mem_cons_self) fun h =>
          List.mem_cons_of_mem _ (List.mem_of_mem_filter h)
      · rw [entries]
        exact List.mem_cons_of_mem _ (List.mem_of_mem_filter he)
      · dsimp only
        rw [hx, (applyEntry_spec c x _).1, modChannel_channel_same]
    · exact .inl rfl

theorem keepsChannelLaws_applicationDue (c : Chan) (s : State) : KeepsChannelLaws s (applicationDue c s) := by
  have others := (records_applicationDue (c := c) (cs := fun d => decide (c = d)) (ds := fun _ _ => true) (decide_eq_true rfl)
    (fun _ => rfl) s).channel
  have agree := agree_applicationDue c s
  obtain stays | ⟨x, hx, rest, kept, channel⟩ := applicationDue_cases c s
  · rw [stays]; exact .refl s
  · generalize applicationDue c s = t at *
    have card (k : Card) : t.card k = s.card k := congrArg (Bank.get · k) (agree .cards (by decide))
    have bus : t.bus = s.bus := agree .bus (by decide)
    have retained : t.retained = s.retained := agree .retained (by decide)
    refine keepsChannelLaws_of_values (c = ·) (fun d hd => ⟨others d (decide_eq_false hd), by rw [card]⟩) ?_ ?_ ?_
      (fun law k hk => ?_) (fun h => ⟨bus ▸ h, card _⟩) (busLaw_congr (by rw [bus]) (by rw [bus])) (fun h => retained ▸ h)
    · rintro _ rfl
      rw [channel]; exact ⟨rfl, rfl⟩
    · rintro ⟨channels, -, -⟩ _ rfl
      obtain ⟨-, switched, -, applications⟩ := channels c
      rw [channel]
      exact ⟨switched, fun v hv => Option.some.inj hv ▸ applications x hx, fun e he => applications e (kept e he)⟩
    · rintro ⟨channels, -, -⟩ _ rfl
      obtain ⟨switched, -, phantom, waiting⟩ := channels c
      have known := waiting (List.ne_nil_of_mem hx)
      rw [channel, card]
      exact ⟨switched, iff_of_true rfl known, phantom, fun _ => known⟩
    · rw [card] at hk ⊢
      exact law.2.1 k hk

/-! #### Poll replies -/

/-- From s to t the image stands, and a write of it (R163). -/
def ImageStands (s t : State) : Prop := t.retained.entries = s.retained.entries ∧ t.retained.write = s.retained.write

theorem ImageStands.of_eq {s t : State} (h : t.retained = s.retained) : ImageStands s t := by
  unfold ImageStands; rw [h]; exact ⟨rfl, rfl⟩

theorem ImageStands.trans {s t u : State} (h : ImageStands s t) (g : ImageStands t u) : ImageStands s u :=
  ⟨g.1.trans h.1, g.2.trans h.2⟩

theorem respects_imageStands (c : Chan) : Respects c ImageStands where
  refl _ := ⟨rfl, rfl⟩
  trans := .trans
  channel _ _ := ⟨rfl, rfl⟩
  desk _ _ _ := ⟨rfl, rfl⟩
  phantom _ _ := ⟨rfl, rfl⟩
  starts _ _ := ⟨rfl, rfl⟩
  write _ := ⟨rfl, rfl⟩
  quiet _ := ⟨rfl, rfl⟩
  reads _ := ⟨rfl, rfl⟩
  tell _ _ _ := ⟨rfl, rfl⟩
  tellPort p r s _ := .of_eq (agree_postTo p r s .retained (by decide))

theorem replyNoted_cards (k : Card) (status : Byte) (s : State) :
    (replyNoted k status s).cards = (modCard k (CardRecord.replied s.hubFrame status) s).cards := by
  unfold replyNoted
  dsimp only
  split <;> rfl

theorem modCard_card_ne {k j : Card} (h : k ≠ j) (f : CardRecord → CardRecord) (s : State) :
    (modCard k f s).card j = s.card j := by
  rw [modCard_card, if_neg h]

/-- What a poll reply leaves: the other cards, the image, and of the bus all but its transaction and the writes that join. -/
theorem takePollReply_leaves (k : Card) (d : PollData) (s : State) :
    (∀ j, k ≠ j → (takePollReply k d s).card j = s.card j) ∧ ImageStands s (takePollReply k d s) ∧
      (BusLaw s → BusLaw (takePollReply k d s)) := by
  obtain ⟨noted, bus, -⟩ := replyNoted_spec k d.status s
  have replied (e : Chan) (t : State) := agree_channelReplied k (s.card k).known d.status e (d.channels.get (placeOnCard e)) t
  have starts := agree_startQueued (modCard k (fun r => { r with known := true }) (channelsReplied k d s))
  rw [takePollReply_eq]
  refine ⟨fun j hj => ?_, ?_, fun law => ?_⟩
  · calc (startQueued (modCard k (fun r => { r with known := true }) (channelsReplied k d s))).card j
      _ = (modCard k (fun r => { r with known := true }) (channelsReplied k d s)).card j :=
        congrArg (Bank.get · j) (starts .cards (by decide))
      _ = (channelsReplied k d s).card j := modCard_card_ne hj _ _
      _ = (replyNoted k d.status s).card j := congrArg (Bank.get · j) (Agree.forEach replied _ _ .cards (by decide))
      _ = (modCard k (CardRecord.replied s.hubFrame d.status) s).card j := congrArg (Bank.get · j) (replyNoted_cards k d.status s)
      _ = s.card j := modCard_card_ne hj _ _
  · have through : ImageStands (replyNoted k d.status s) (channelsReplied k d s) :=
      forEach_keeps (P := ImageStands (replyNoted k d.status s))
        (fun e t ht => ht.trans ((respects_imageStands e).channelReplied k _ d.status _ t)) _ _ ⟨rfl, rfl⟩
    have marked : ImageStands (channelsReplied k d s) (modCard k (fun r => { r with known := true }) (channelsReplied k d s)) :=
      ⟨rfl, rfl⟩
    exact (((ImageStands.of_eq (noted .retained (by decide))).trans through).trans marked).trans
      (.of_eq (starts .retained (by decide)))
  · have through : QueuesWrites (replyNoted k d.status s) (channelsReplied k d s) :=
      .forEach (fun e t => (respects_queuesWrites e).channelReplied k _ d.status _ t) _ _
    have all := (through.trans ((agree_modCard k (fun r => { r with known := true }) _).queuesWrites rfl)).trans
      (queuesWrites_startQueued _)
    exact all.busLaw (busLaw_congr (by rw [bus]) (by rw [bus]) law)

theorem inRange_reportedValue (x : CardChannel) : (reportedValue x).inRange := Nat.min_le_left _ _

theorem keepsChannelLaws_pollReplied (k : Card) (d : PollData) (s : State) : KeepsChannelLaws s (pollReplied k d s) := by
  have others := (records_pollReplied (k := k) (cs := fun c => decide (cardOf c = k)) (ds := fun _ _ => true)
    (fun c hc => decide_eq_true hc) (fun _ _ _ => rfl) d s).channel
  unfold pollReplied at others ⊢
  split
  · next j start polling =>
    rw [polling] at others
    dsimp only at others
    split
    · next time =>
      rw [if_pos time] at others
      obtain ⟨free, card, -⟩ := takePollReply_card k d s
      obtain ⟨cards, image, bus⟩ := takePollReply_leaves k d s
      have channel (c : Chan) (hc : cardOf c = k) :=
        (takePollReply_channel (s := s) d hc rfl).elim fun _ h => h.1.channel
      generalize takePollReply k d s = t at *
      refine keepsChannelLaws_of_values (cardOf · = k) (fun c hc => ⟨others c (decide_eq_false hc), by rw [cards _ (Ne.symm hc)]⟩)
        (fun c hc => ?_) (fun law c hc => ?_) (fun law c hc => ?_) (fun law i hi => ?_) (fun h => ?_) bus
        (fun h => h.of_eq image.1 image.2)
      · rw [channel c hc]; exact ⟨rfl, rfl⟩
      · have reported := inRange_reportedValue (d.channels.get (placeOnCard c))
        obtain ⟨-, -, applied, applications⟩ := law.1 c
        rw [channel c hc]
        refine ⟨fun w hw => Option.some.inj hw ▸ reported, fun w hw => ?_, fun e he => ?_⟩
        · dsimp only at hw
          split at hw
          · exact applied w hw
          · exact Option.some.inj hw ▸ reported
        · dsimp only at he
          split at he
          · exact (List.mem_append.1 he).elim (applications e) fun new => value_of_mem_appended new ▸ reported
          · exact applications e he
      · obtain ⟨-, applied, -, -⟩ := law.1 c
        rw [hc] at applied ⊢
        rw [channel c hc, card]
        refine ⟨iff_of_true rfl rfl, iff_of_true ?_ rfl, iff_of_true rfl rfl, fun _ => rfl⟩
        dsimp only
        split
        · next known => exact applied.2 known
        · rfl
      · by_cases same : k = i
        · rw [← same, card]
        · rw [cards i same] at hi ⊢
          exact law.2.1 i hi
      · rw [free] at h; cases h
    · exact .refl s
  · exact .refl s

end

/-! ### Every command -/

theorem exec_keepsChannelLaws {c : Instr} {s t : State} (h : exec c s = .next t) : KeepsChannelLaws s t := by
  have ran {u : State} (e : exec c s = .next u) (hu : KeepsChannelLaws s u) : KeepsChannelLaws s t := exec_unique e h ▸ hu
  have running {f : State → State} (hf : KeepsChannelLaws s (f s)) : KeepsChannelLaws s (whenRunning f s) := .ite hf (.refl s)
  have outside (hp : [Part.channels, .cards, .bus, .retained].all (fun x => !(footprint c).contains x) = true) :
      KeepsChannelLaws s t := ((exec_outside h).keepsValues hp).laws
  cases c with
  | powerOnReset cause => exact ran rfl (keepsChannelLaws_powerOnReset cause s)
  | resetInputAssert pulse => exact ran rfl (keepsValues_assertReset pulse s).laws
  | powerLoss => exact ran rfl (keepsValues_holdReset .off s).laws
  | downstreamFrame => exact ran rfl (running (keepsValues_startFrame s).laws)
  | setHub p => exact ran rfl (running (keepsValues_serve keepsValues_serveSetHub p s).laws)
  | setGain p => exact ran rfl (running (keepsValues_serve (keepsValues_serveGain p) p s).laws)
  | stepGain p => exact ran rfl (running (keepsValues_serve (keepsValues_serveStep p) p s).laws)
  | setPad p => exact ran rfl (running (keepsValues_serve (keepsValues_servePad p) p s).laws)
  | setAuthority p => exact ran rfl (running (keepsValues_serve (keepsValues_serveAuthority p) p s).laws)
  | setPhantom p => exact ran rfl (running (keepsValues_serve (keepsValues_servePhantom p) p s).laws)
  | propose p => exact ran rfl (running (keepsValues_serve (keepsValues_servePropose p) p s).laws)
  | consentWindowExpired => exact ran rfl (running (keepsValues_testWindow s).laws)
  | poll => exact ran rfl (running (keepsValues_startPoll s).laws)
  | write => exact ran rfl (running (keepsChannelLaws_startWrite s))
  | phantomOffAll => exact ran rfl (running (keepsValues_startPhantomOffAll s).laws)
  | setRate => exact ran rfl (running (keepsValues_startSetRate s).laws)
  | broadcastEnd => exact ran rfl (running (keepsValues_endBroadcast s).laws)
  | pollReply k d => exact ran rfl (running (keepsChannelLaws_pollReplied k d s))
  | writeAck k c => exact ran rfl (running (keepsChannelLaws_writeAcked k c s))
  | transactionTimeout => exact ran rfl (running (keepsValues_transactionTimedOut s).laws)
  | applicationDue c => exact ran rfl (running (keepsChannelLaws_applicationDue c s))
  | ramped c => exact ran rfl (running (keepsValues_endFrom .rampUp c s).laws)
  | settled c => exact ran rfl (running (keepsValues_endFrom .settleUp c s).laws)
  | discharged c => exact ran rfl (running (keepsValues_endFrom .rampDown c s).laws)
  | quietTimerExpired => exact ran rfl (running (keepsChannelLaws_startWriting s))
  | retainedWriteEnd => exact ran rfl (running (keepsValues_modRetained ImageHolds.finish).laws)
  | _ => exact outside rfl

/-- Settles O14, from what each command does to the channels, the cards, the bus and the image. -/
theorem stepKeepsChannelLaws : Obligations.StepKeepsChannelLaws := fun s t h => by
  obtain rfl | ⟨c, rest, run⟩ := step_cases h
  · exact ⟨id, id, id, id⟩
  · obtain ⟨gain, authority, known, bus⟩ := exec_keepsChannelLaws run
    exact ⟨gain, authority, known, bus⟩

end Sys2Proof.Machine
end

section
/-! PROOF. SET PHANTOM as one channel feels it: its setting, the state that the request brings it to, and the starts made before
and after. -/

namespace Sys2Proof.Machine

/-! ### What the starts do to a channel (R103) -/

section
variable {c d : Chan} {s t u : State}

/-- From s to t a channel has been spared, or started. -/
def MayStart (c : Chan) (s t : State) : Prop := t.cards = s.cards ∧ (Spares c s t ∨ StartMade c s t)

theorem MayStart.refl (c : Chan) (s : State) : MayStart c s s := ⟨rfl, .inl (.refl s)⟩

theorem StartMade.not_waiting (h : StartMade c s t) : c ∉ t.startQueue := fun hc => by cases h.2.1.queue.1 hc

theorem StartMade.of_spares (g : Spares c s t) (cards : t.cards = s.cards) (h : StartMade c t u) : StartMade c s u := by
  obtain ⟨⟨waited, present⟩, entered, waits⟩ := h
  exact ⟨⟨g.phantom.2.1 waited, cardPresent_congr cards c ▸ present⟩, .of_spares g entered, waits⟩

theorem StartMade.spares (h : StartMade c s t) (g : Spares c t u) : StartMade c s u := by
  obtain ⟨waited, entered, waits⟩ := h
  exact ⟨waited, entered.spares g, g.waits.2 waits⟩

theorem MayStart.trans (h : MayStart c s t) (g : MayStart c t u) : MayStart c s u := by
  obtain ⟨cards, spared | started⟩ := h
  · exact ⟨g.1.trans cards, g.2.imp spared.trans fun started => started.of_spares spared cards⟩
  · obtain ⟨cards', spared | again⟩ := g
    · exact ⟨cards'.trans cards, .inr (started.spares spared)⟩
    · exact absurd again.1.1 started.not_waiting

theorem Spares.mayStart (h : Spares c s t) (cards : t.cards = s.cards) : MayStart c s t := ⟨cards, .inl h⟩

theorem mayStart_startQueued (c : Chan) (s : State) : MayStart c s (startQueued s) :=
  ⟨agree_startQueued s .cards (by decide), startQueued_cases c s⟩

/-- A channel that does not wait is spared by the starts. -/
theorem MayStart.spared (h : MayStart c s t) (out : c ∉ s.startQueue) : Spares c s t :=
  h.2.resolve_right fun started => out started.1.1

theorem mayStart_changePhantom (h : d ≠ c) (st : PhantomState) (why : PhantomReason) (s : State) :
    MayStart c s (changePhantom d st why s) :=
  ((respects_spares h).changePhantom st why s).mayStart (agree_changePhantom d st why s .cards (by decide))

theorem mayStart_takePhantom (h : d ≠ c) (on : Bool) (s : State) : MayStart c s (takePhantom on d s) := by
  have set := (spares_changeSetting h (fun x => { x with phantom := on }) s).mayStart
    (agree_changeSetting d (fun x => { x with phantom := on }) s .cards (by decide))
  have moved (st : PhantomState) (t : State) := mayStart_changePhantom h st .requested t
  have started (st : PhantomState) (t : State) := (moved st t).trans (mayStart_startQueued c _)
  refine set.trans ?_
  cases on
  · show MayStart c _ (phantomOff d _)
    unfold phantomOff
    split
    · exact moved _ _
    · exact started _ _
    · exact moved _ _
    · exact moved _ _
    · exact .refl c _
    · exact .refl c _
  · show MayStart c _ (phantomOn d _)
    unfold phantomOn
    split
    · exact started _ _
    all_goals exact .refl c _

theorem mayStart_forEach (on : Bool) {l : List Chan} (hc : c ∉ l) (s : State) : MayStart c s (forEach (takePhantom on) l s) := by
  induction l generalizing s with
  | nil => exact .refl c s
  | cons d l ih =>
    rw [List.mem_cons, not_or] at hc
    exact (mayStart_takePhantom (Ne.symm hc.1) on s).trans (ih hc.2 _)

theorem forEach_takePhantom_own (on : Bool) {l : List Chan} (hl : l.Nodup) (hc : c ∈ l) (s : State) :
    ∃ t, MayStart c s t ∧ MayStart c (takePhantom on c t) (forEach (takePhantom on) l s) :=
  forEach_then (x := c) (D := MayStart c s) (Q := fun u => ∃ t, MayStart c s t ∧ MayStart c (takePhantom on c t) u)
    (fun _ t hd ht => ht.trans (mayStart_takePhantom hd on t)) (fun t ht => ⟨t, ht, .refl c _⟩)
    (fun _ u hd ⟨t, ht, hu⟩ => ⟨t, ht, hu.trans (mayStart_takePhantom hd on u)⟩) hl hc (.refl c s)

end

/-! ### What the request does to a channel (R99 to R101) -/

/-- The phantom state that SET PHANTOM brings a channel to, starts aside (R100, R101). -/
def PhantomState.requested (on : Bool) : PhantomState → PhantomState
  | .off | .queued => if on then .queued else .off
  | .rampUp => if on then .rampUp else .rampDown
  | .settleUp => if on then .settleUp else .rampDown
  | .on => if on then .on else .rampDown
  | .rampDown => .rampDown

/-- From s to t the desired phantom of channel c has been set, with SETTING CHANGED and the quiet timer at 0 if it changes. -/
structure PhantomSet (on : Bool) (c : Chan) (s t : State) : Prop where
  channel : t.channel c = { s.channel c with phantom := on }
  phantom : Untouched c s t
  waits : c ∈ t.bus.writeQueue ↔ c ∈ s.bus.writeQueue
  told : (s.channel c).phantom ≠ on → t.retained.quiet = some 0 ∧
    Posted (.settingChanged c (s.channel c).desired on (s.channel c).desiredBy (s.channel c).authority) t
  tells : Tells (fun k => k = (4, c.val)) s t

theorem phantomSet_changeSetting (on : Bool) (c : Chan) (s : State) :
    PhantomSet on c s (changeSetting c (fun h => { h with phantom := on }) s) := by
  have agree := agree_changeSetting c (fun h => { h with phantom := on }) s
  refine ⟨changeSetting_channel_same, .of_eq (agree .phantom (by decide)) (agree .startQueue (by decide)), ?_, fun changes => ?_,
    tells_changeSetting c _ s⟩
  · rw [show (changeSetting c (fun h => { h with phantom := on }) s).bus = s.bus from agree .bus (by decide)]
  · exact posted_changeSetting (fun same => changes same.2.1) rfl

/-- From s to t a channel has entered the state that the request brings it to, unless it is there. -/
def RequestMade (on : Bool) (c : Chan) (s t : State) : Prop :=
  ((s.phantomOf c).state.requested on = (s.phantomOf c).state ∧ t = s) ∨
    ((s.phantomOf c).state.requested on ≠ (s.phantomOf c).state ∧
      Entered c ((s.phantomOf c).state.requested on) .requested s t)

theorem takePhantom_own (on : Bool) (c : Chan) (s : State) :
    ∃ t u, PhantomSet on c s t ∧ RequestMade on c t u ∧ MayStart c u (takePhantom on c s) := by
  have set := phantomSet_changeSetting on c s
  unfold takePhantom
  generalize changeSetting c (fun h => { h with phantom := on }) s = t at set ⊢
  refine ⟨t, ?_⟩
  have entered (st : PhantomState) := entered_changePhantom c st t .requested
  unfold RequestMade
  cases on
  · show ∃ u, _ ∧ _ ∧ MayStart c u (phantomOff c t)
    unfold phantomOff
    cases (t.phantomOf c).state
    case off => exact ⟨t, set, .inl ⟨rfl, rfl⟩, .refl c t⟩
    case rampDown => exact ⟨t, set, .inl ⟨rfl, rfl⟩, .refl c t⟩
    case queued => exact ⟨_, set, .inr ⟨by decide, entered .off⟩, .refl c _⟩
    case rampUp => exact ⟨_, set, .inr ⟨by decide, entered .rampDown⟩, mayStart_startQueued c _⟩
    case settleUp => exact ⟨_, set, .inr ⟨by decide, entered .rampDown⟩, .refl c _⟩
    case on => exact ⟨_, set, .inr ⟨by decide, entered .rampDown⟩, .refl c _⟩
  · show ∃ u, _ ∧ _ ∧ MayStart c u (phantomOn c t)
    unfold phantomOn
    cases (t.phantomOf c).state
    case off => exact ⟨_, set, .inr ⟨by decide, entered .queued⟩, mayStart_startQueued c _⟩
    all_goals exact ⟨t, set, .inl ⟨rfl, rfl⟩, .refl c t⟩

/-! ### What a channel comes to -/

/-- From s to u channel c has been brought to a phantom state, with its timer and its write, and with PHANTOM STATE for it where
`said` holds. -/
structure Brought (said : Prop) (c : Chan) (st : PhantomState) (why : PhantomReason) (s u : State) : Prop where
  state : (u.phantomOf c).state = st
  timer : (u.phantomOf c).timer = entryTimer st (s.channel c).cardPhantom
  powered : st = .rampUp → c ∈ u.bus.writeQueue
  unpowered : st = .rampDown → (s.channel c).cardPhantom ≠ some false → c ∈ u.bus.writeQueue
  posted : said → PhantomPosted c st why u

/-- What SET PHANTOM makes of a channel that it takes: it stays; it moves as asked; it starts, having been queued by the request
or before; or it has been started by the request and is discharged. -/
inductive PhantomTaken (on : Bool) (c : Chan) (s u : State) : Prop
  | stays (asked : (s.phantomOf c).state.requested on = (s.phantomOf c).state) (same : u.phantomOf c = s.phantomOf c)
  | moves (asked : (s.phantomOf c).state.requested on ≠ (s.phantomOf c).state)
      (brought : Brought True c ((s.phantomOf c).state.requested on) .requested s u)
  | starts (asked : on = true) (waited : (s.phantomOf c).state = .off ∨ (s.phantomOf c).state = .queued)
      (brought : Brought ((s.phantomOf c).state = .queued → (s.channel c).phantom = true) c .rampUp .started s u)
  | discharges (asked : on = false) (waited : (s.phantomOf c).state = .queued)
      (brought : Brought True c .rampDown .requested s u)

section
variable {c : Chan} {on : Bool} {s t u v w : State}

/-- A channel in its last phantom state, entered from b to t and spared since. -/
theorem Entered.brought {st : PhantomState} {why : PhantomReason} {b : State} (said : Prop) (h : Entered c st why b t)
    (card : (b.channel c).cardPhantom = (s.channel c).cardPhantom) (g : Spares c t u)
    (powered : st = .rampUp → c ∈ t.bus.writeQueue)
    (unpowered : st = .rampDown → (s.channel c).cardPhantom ≠ some false → c ∈ t.bus.writeQueue) :
    Brought said c st why s u where
  state := (h.spares g).state
  timer := by rw [(h.spares g).timer, card]
  powered e := g.waits.2 (powered e)
  unpowered e n := g.waits.2 (unpowered e n)
  posted _ := h.posted.spares g

theorem StartMade.brought (said : Prop) {b : State} (h : StartMade c b u)
    (card : (b.channel c).cardPhantom = (s.channel c).cardPhantom) : Brought said c .rampUp .started s u :=
  h.2.1.brought said card (.refl u) (fun _ => h.2.2) fun e => by cases e

theorem PhantomState.requested_eq_queued {on : Bool} {st : PhantomState} (h : st.requested on = .queued) :
    on = true ∧ (st = .off ∨ st = .queued) := by
  cases on <;> cases st <;> simp_all [PhantomState.requested]

theorem PhantomState.commanded_of_requested_rampDown {on : Bool} {st : PhantomState} (h : st.requested on = .rampDown)
    (changes : st.requested on ≠ st) : st.commanded = true := by
  cases on <;> cases st <;> simp_all [PhantomState.requested, PhantomState.commanded]

theorem PhantomState.requested_ne_rampUp {on : Bool} {st : PhantomState} (changes : st.requested on ≠ st) :
    st.requested on ≠ .rampUp := by
  cases on <;> cases st <;> simp_all [PhantomState.requested]

/-- What a channel comes to that no start has reached before the request does. -/
theorem phantomTaken_of_spared (law : c ∈ s.startQueue ↔ (s.phantomOf c).state = .queued) (before : Spares c s t)
    (set : PhantomSet on c t v) (made : RequestMade on c v w) (after : MayStart c w u) : PhantomTaken on c s u := by
  have record : v.phantomOf c = s.phantomOf c := set.phantom.1.trans before.phantom.1
  have queue : c ∈ v.startQueue ↔ c ∈ s.startQueue := set.phantom.2.trans before.phantom.2
  have card : (v.channel c).cardPhantom = (s.channel c).cardPhantom := by rw [set.channel, before.channel]
  unfold RequestMade at made
  rw [record] at made
  obtain ⟨asked, rfl⟩ | ⟨asked, entered⟩ := made
  · obtain ⟨-, spared | started⟩ := after
    · exact .stays asked (spared.phantom.1.trans record)
    · have waited := law.1 (queue.1 started.1.1)
      rw [waited] at asked
      exact .starts (PhantomState.requested_eq_queued asked).1 (.inr waited) (started.brought _ card)
  · obtain ⟨-, spared | started⟩ := after
    · refine .moves asked (entered.brought True card spared
        (fun e => absurd e (PhantomState.requested_ne_rampUp asked)) fun e dark => ?_)
      refine entered.commands ?_ (by rw [card, e]; exact dark)
      rw [record, e, PhantomState.commanded_of_requested_rampDown e asked]
      decide
    · obtain ⟨on, waited⟩ := PhantomState.requested_eq_queued (entered.queue.1 started.1.1)
      exact .starts on waited (started.brought _ ((congrArg Channel.cardPhantom entered.channel).trans card))

/-- What a channel comes to that has been started before the request reaches it. -/
theorem phantomTaken_of_started (law : c ∈ s.startQueue ↔ (s.phantomOf c).state = .queued) (before : StartMade c s t)
    (set : PhantomSet on c t v) (made : RequestMade on c v w) (after : MayStart c w u) : PhantomTaken on c s u := by
  have waited := law.1 before.1.1
  have state : (v.phantomOf c).state = .rampUp := by rw [set.phantom.1, before.2.1.state]
  have channel : t.channel c = s.channel c := before.2.1.channel
  have card : (v.channel c).cardPhantom = (s.channel c).cardPhantom := by rw [set.channel, channel]
  have out : c ∉ v.startQueue := fun h => before.not_waiting (set.phantom.2.1 h)
  unfold RequestMade at made
  rw [state] at made
  obtain ⟨asked, rfl⟩ | ⟨asked, entered⟩ := made
  · have on : on = true := by cases on <;> simp_all [PhantomState.requested]
    have spared := after.spared out
    refine .starts on (.inr waited) ⟨?_, ?_, fun _ => ?_, fun e => (by cases e), fun said => ?_⟩
    · rw [spared.phantom.1, state]
    · rw [spared.phantom.1, set.phantom.1, before.2.1.timer]
    · exact spared.waits.2 (set.waits.2 before.2.2)
    · have same : w.channel c = t.channel c := by
        rw [set.channel, channel, on, ← said waited]
      exact (before.2.1.posted.still same set.tells (by simp)).spares spared
  · have off : on = false := by cases on <;> simp_all [PhantomState.requested]
    subst off
    have spared := after.spared fun h => by cases entered.queue.1 h
    exact .discharges rfl waited (entered.brought True card spared (fun e => by cases e)
      fun _ _ => entered.writes (set.waits.2 before.2.2))

/-- A channel taken: its setting, and what its phantom comes to. -/
theorem forEach_takePhantom_taken {l : List Chan} (hl : l.Nodup) (hc : c ∈ l)
    (law : c ∈ s.startQueue ↔ (s.phantomOf c).state = .queued) :
    PhantomTaken on c s (forEach (takePhantom on) l s) ∧
      (forEach (takePhantom on) l s).channel c = { s.channel c with phantom := on } ∧
      ((s.channel c).phantom ≠ on → (forEach (takePhantom on) l s).retained.quiet = some 0 ∧
        Posted (.settingChanged c (s.channel c).desired on (s.channel c).desiredBy (s.channel c).authority)
          (forEach (takePhantom on) l s)) := by
  obtain ⟨t, before, after⟩ := forEach_takePhantom_own on hl hc s
  obtain ⟨v, w, set, made, own⟩ := takePhantom_own on c t
  have after := own.trans after
  generalize forEach (takePhantom on) l s = u at after ⊢
  have channel : t.channel c = s.channel c := by
    obtain ⟨-, spared | started⟩ := before
    · exact spared.channel
    · exact started.2.1.channel
  have later : w.channel c = v.channel c ∧ (v.retained.quiet = some 0 → w.retained.quiet = some 0) ∧
      Tells (fun k => k.2 = c.val → k.1 = 6) v w := by
    obtain ⟨-, rfl⟩ | ⟨-, entered⟩ := made
    · exact ⟨rfl, id, .refl _⟩
    · exact ⟨entered.channel, entered.quiet, entered.tells⟩
  have last : u.channel c = w.channel c ∧ (w.retained.quiet = some 0 → u.retained.quiet = some 0) ∧
      Tells (fun k => k.2 = c.val → k.1 = 6) w u := by
    obtain ⟨-, spared | started⟩ := after
    · exact ⟨spared.channel, spared.quiet, spared.tellsAbout⟩
    · exact ⟨started.2.1.channel, started.2.1.quiet, started.2.1.tells⟩
  refine ⟨?_, ?_, fun changes => ?_⟩
  · obtain ⟨-, spared | started⟩ := before
    · exact phantomTaken_of_spared law spared set made after
    · exact phantomTaken_of_started law started set made after
  · rw [last.1, later.1, set.channel, channel]
  · rw [← channel] at changes ⊢
    obtain ⟨quiet, posted⟩ := set.told changes
    exact ⟨last.2.1 (later.2.1 quiet), (later.2.2.trans last.2.2).posted (fun h => by cases h rfl) posted⟩

end

end Sys2Proof.Machine
end

section
/-! PROOF. SET PHANTOM as the start queue feels it: which channels start, and in which order; settles O46. -/

namespace Sys2Proof.Machine

/-! ### Lists without repeats -/

section
variable {α : Type}

/-- In a list without repeats two members stand in one order. -/
theorem not_sublist_swap {a b : α} {l : List α} (hn : l.Nodup) (h : [a, b].Sublist l) : ¬ [b, a].Sublist l := by
  induction l with
  | nil => cases h
  | cons x l ih =>
    obtain ⟨hx, hn⟩ := List.nodup_cons.1 hn
    intro g
    cases h with
    | cons _ h =>
      cases g with
      | cons _ g => exact ih hn h g
      | cons_cons _ g => exact hx (h.mem (by simp))
    | cons_cons _ h =>
      cases g with
      | cons _ g => exact hx (g.mem (by simp))
      | cons_cons _ g => exact hx (h.mem (by simp))

/-- A member that comes before another one. -/
theorem sublist_of_mem_takeWhile [DecidableEq α] {a b : α} {l : List α} (hb : b ∈ l)
    (ha : a ∈ l.takeWhile fun x => decide (x ≠ b)) :
    [a, b].Sublist l := by
  have first : [a].Sublist (l.takeWhile fun x => decide (x ≠ b)) := List.singleton_sublist.2 ha
  have rest : [b].Sublist (l.dropWhile fun x => decide (x ≠ b)) := by
    refine List.singleton_sublist.2 ?_
    rw [← List.takeWhile_append_dropWhile (p := fun x => decide (x ≠ b)) (l := l)] at hb
    refine (List.mem_append.1 hb).resolve_left fun h => ?_
    exact of_decide_eq_true (List.mem_takeWhile_imp (p := fun x => decide (x ≠ b)) h) rfl
  have both := first.append rest
  rwa [List.takeWhile_append_dropWhile] at both

/-- Part of a list without repeats, in its order, is what its members pick out. -/
theorem eq_filter_of_sublist {l l' : List α} {p : α → Bool} (h : l'.Sublist l) (hn : l.Nodup)
    (hp : ∀ x ∈ l, p x = true ↔ x ∈ l') :
    l' = l.filter p := by
  induction h with
  | slnil => rfl
  | @cons l' l x h ih =>
    obtain ⟨hx, hn⟩ := List.nodup_cons.1 hn
    have out : ¬ p x = true := fun e => hx (h.mem ((hp x List.mem_cons_self).1 e))
    rw [List.filter_cons_of_neg out]
    exact ih hn fun y hy => hp y (List.mem_cons_of_mem _ hy)
  | @cons_cons l' l x h ih =>
    obtain ⟨hx, hn⟩ := List.nodup_cons.1 hn
    rw [List.filter_cons_of_pos ((hp x List.mem_cons_self).2 List.mem_cons_self)]
    refine congrArg (x :: ·) (ih hn fun y hy => (hp y (List.mem_cons_of_mem _ hy)).trans ?_)
    have other : y ≠ x := fun e => hx (e ▸ hy)
    rw [List.mem_cons, or_iff_right other]

end

/-! ### The number of channels in RAMP_UP -/

theorem toList_eq_map {α : Type} {n : Nat} (b : Bank n α) : b.toList = (indexes n).map b.get :=
  List.ext_getElem (by simp [indexes]) fun i _ _ => by simp [indexes, Bank.get]

theorem rampingCount_eq (s : State) : rampingCount s = (Finset.univ.filter fun c => (s.phantomOf c).state = .rampUp).card := by
  have same : (Finset.univ.filter fun c => (s.phantomOf c).state = .rampUp) =
      ((indexes 64).filter fun c => (s.phantomOf c).state = .rampUp).toFinset := by
    ext c
    simp [mem_indexes]
  rw [same, List.toFinset_card_of_nodup ((nodup_indexes 64).filter _)]
  unfold rampingCount
  rw [toList_eq_map, List.filter_map, List.length_map]
  rfl

/-- The channels in RAMP_UP counted after some have joined them. -/
theorem rampingCount_add {s t : State} {l : List Chan} (hl : l.Nodup)
    (h : ∀ c, (t.phantomOf c).state = .rampUp ↔ (s.phantomOf c).state = .rampUp ∨ c ∈ l)
    (hs : ∀ c ∈ l, (s.phantomOf c).state ≠ .rampUp) : rampingCount t = rampingCount s + l.length := by
  have joined : (Finset.univ.filter fun c => (t.phantomOf c).state = .rampUp) =
      (Finset.univ.filter fun c => (s.phantomOf c).state = .rampUp) ∪ l.toFinset := by
    ext c
    simp [h]
  rw [rampingCount_eq, rampingCount_eq, joined, Finset.card_union_of_disjoint, List.toFinset_card_of_nodup hl]
  rw [Finset.disjoint_left]
  intro c hc
  simp only [Finset.mem_filter, Finset.mem_univ, true_and] at hc
  simpa using fun hm => hs c hm hc

/-! ### The start queue while a range is taken (R100 to R103) -/

section
variable {J S : List Chan} {s t u : State} {c d : Chan}

/-- From s to t channels J have been queued behind those of s, and starts have been made: the queue is as R102 has it, in the
order in which its channels came, and no channel has started before an older one on a PRESENT card. -/
structure QueueTaken (s : State) (J : List Chan) (t : State) : Prop where
  cards : t.cards = s.cards
  law : StartQueueLaw t
  nodup : (s.startQueue ++ J).Nodup
  order : t.startQueue.Sublist (s.startQueue ++ J)
  older : ∀ {c d}, [d, c].Sublist s.startQueue → (t.phantomOf c).state = .rampUp → s.cardPresent d = true →
    (t.phantomOf d).state ≠ .queued

theorem QueueTaken.refl (law : StartQueueLaw s) : QueueTaken s [] s where
  cards := rfl
  law := law
  nodup := by rw [List.append_nil]; exact law.1
  order := by rw [List.append_nil]
  older := fun {c _} pair ramping => by
    have queued := (law.2 c).1 (pair.mem (by simp))
    rw [queued] at ramping
    cases ramping

theorem StartQueueLaw.congr (h : StartQueueLaw t) (phantom : u.phantom = t.phantom) (queue : u.startQueue = t.startQueue) :
    StartQueueLaw u := by
  unfold StartQueueLaw State.phantomOf
  rw [phantom, queue]
  exact h

theorem QueueTaken.congr (h : QueueTaken s J t) (cards : u.cards = t.cards) (phantom : u.phantom = t.phantom)
    (queue : u.startQueue = t.startQueue) : QueueTaken s J u where
  cards := cards.trans h.cards
  law := h.law.congr phantom queue
  nodup := h.nodup
  order := by rw [queue]; exact h.order
  older := by unfold State.phantomOf; rw [phantom]; exact h.older

/-- The other channels' phantoms, and the queue, as a channel enters a state (R102). -/
theorem enterPhantom_phantomOf_ne (h : d ≠ c) (st : PhantomState) (s : State) :
    (enterPhantom d st s).phantomOf c = s.phantomOf c := ((respects_spares h).enterPhantom st s).phantom.1

theorem enterPhantom_startQueue (c : Chan) (st : PhantomState) (s : State) :
    (enterPhantom c st s).startQueue = queueAfter st c s.startQueue := (enterPhantom_phantom c st s).2

theorem queueAfter_nodup {q : List Chan} (h : q.Nodup) (st : PhantomState) (c : Chan) : (queueAfter st c q).Nodup := by
  unfold queueAfter
  split
  · refine List.nodup_append.2 ⟨h.filter _, List.nodup_singleton c, fun a ha b hb => ?_⟩
    rw [List.mem_singleton.1 hb]
    simpa using (List.mem_filter.1 ha).2
  · exact h.filter _

theorem StartQueueLaw.enterPhantom (h : StartQueueLaw s) (c : Chan) (st : PhantomState) :
    StartQueueLaw (enterPhantom c st s) := by
  refine ⟨?_, fun d => ?_⟩
  · rw [enterPhantom_startQueue]; exact queueAfter_nodup h.1 st c
  · by_cases e : c = d
    · subst e
      rw [(enterPhantom_same c st s).1]
      exact (enterPhantom_same c st s).2
    · have same := ((respects_spares e).enterPhantom st s).phantom
      rw [same.1, same.2]
      exact h.2 d

/-- A channel that leaves the queue, or was not in it, for a state without start. -/
theorem QueueTaken.leaves (h : QueueTaken s J t) (c : Chan) {st : PhantomState} (queued : st ≠ .queued) (ramping : st ≠ .rampUp) :
    QueueTaken s J (enterPhantom c st t) where
  cards := (agree_enterPhantom c st t .cards (by decide)).trans h.cards
  law := h.law.enterPhantom c st
  nodup := h.nodup
  order := by
    rw [enterPhantom_startQueue, queueAfter, if_neg queued]
    exact List.filter_sublist.trans h.order
  older := fun {e d} pair up present => by
    have notC : c ≠ e := fun same => ramping (by rw [← up, ← same, (enterPhantom_same c st t).1])
    rw [enterPhantom_phantomOf_ne notC] at up
    by_cases same : c = d
    · rw [← same, (enterPhantom_same c st t).1]; exact queued
    · rw [enterPhantom_phantomOf_ne same]
      exact h.older pair up present

/-- A channel that joins the queue. -/
theorem QueueTaken.joins (h : QueueTaken s J t) (out : c ∉ s.startQueue ++ J) :
    QueueTaken s (J ++ [c]) (enterPhantom c .queued t) where
  cards := (agree_enterPhantom c .queued t .cards (by decide)).trans h.cards
  law := h.law.enterPhantom c .queued
  nodup := by
    rw [← List.append_assoc]
    exact List.nodup_append.2 ⟨h.nodup, List.nodup_singleton c, fun a ha b hb e => out (List.mem_singleton.1 hb ▸ e ▸ ha)⟩
  order := by
    rw [enterPhantom_startQueue, queueAfter, if_pos rfl, ← List.append_assoc]
    exact (List.filter_sublist.trans h.order).append (List.Sublist.refl [c])
  older := fun {e d} pair up present => by
    have inQueue {x : Chan} (hx : x ∈ s.startQueue) : c ≠ x := fun same => out (List.mem_append_left _ (same ▸ hx))
    rw [enterPhantom_phantomOf_ne (inQueue (pair.mem (by simp)))] at up ⊢
    exact h.older pair up present

/-- A start that the test calls for. -/
theorem QueueTaken.starts (h : QueueTaken s J t) (next : nextStart t = some c) : QueueTaken s J (enterPhantom c .rampUp t) where
  cards := (agree_enterPhantom c .rampUp t .cards (by decide)).trans h.cards
  law := h.law.enterPhantom c .rampUp
  nodup := h.nodup
  order := by
    rw [enterPhantom_startQueue, queueAfter, if_neg (by decide)]
    exact List.filter_sublist.trans h.order
  older := fun {e d} pair up present => by
    by_cases same : c = d
    · rw [← same, (enterPhantom_same c .rampUp t).1]; decide
    · rw [enterPhantom_phantomOf_ne same]
      by_cases first : c = e
      · subst first
        intro queued
        obtain ⟨-, found⟩ := nextStart_eq_some.1 next
        obtain ⟨-, before, after, split, absent⟩ := List.find?_eq_some_iff_append.1 found
        have later : d ∈ after := by
          have member : d ∈ before ++ c :: after := split ▸ (h.law.2 d).2 queued
          refine ((List.mem_append.1 member).resolve_left fun hd => ?_) |> List.mem_cons.1 |>.resolve_left (Ne.symm same)
          have := absent d hd
          rw [cardPresent_congr h.cards, present] at this
          cases this
        have swapped : [c, d].Sublist t.startQueue := by
          rw [split]
          exact List.sublist_append_of_sublist_right ((List.singleton_sublist.2 later).cons_cons c)
        exact not_sublist_swap h.nodup (pair.trans (List.sublist_append_left _ _)) (swapped.trans h.order)
      · rw [enterPhantom_phantomOf_ne first] at up
        exact h.older pair up present

/-- What every start that the test calls for keeps, the test for starts keeps. -/
theorem startUpTo_keeps_next {P : State → Prop} (h : ∀ {c t}, nextStart t = some c → P t → P (startPhantom c t)) (n : Nat)
    (hs : P s) : P (startUpTo n s) := by
  induction n generalizing s with
  | zero => exact hs
  | succ n ih =>
    unfold startUpTo
    split
    · exact hs
    · next c next => exact ih (h next hs)

/-- A start is an entry to RAMP_UP as far as the phantom records and the queue are concerned (R103). -/
theorem startPhantom_parts (c : Chan) (t : State) :
    (startPhantom c t).cards = (enterPhantom c .rampUp t).cards ∧
      (startPhantom c t).phantom = (enterPhantom c .rampUp t).phantom ∧
      (startPhantom c t).startQueue = (enterPhantom c .rampUp t).startQueue := ⟨rfl, rfl, rfl⟩

theorem QueueTaken.startQueued (h : QueueTaken s J t) : QueueTaken s J (startQueued t) :=
  startUpTo_keeps_next (fun {c u} next hu =>
    let ⟨cards, phantom, queue⟩ := startPhantom_parts c u
    (hu.starts next).congr cards phantom queue) _ h

/-- Setting a channel's desired phantom leaves the phantom records, the queue and the cards. -/
theorem changeSetting_parts (c : Chan) (f : Channel → Channel) (t : State) : (changeSetting c f t).cards = t.cards ∧
    (changeSetting c f t).phantom = t.phantom ∧ (changeSetting c f t).startQueue = t.startQueue := by
  have agree := agree_changeSetting c f t
  exact ⟨agree .cards (by decide), agree .phantom (by decide), agree .startQueue (by decide)⟩

/-- After OFF no channel has joined the queue. -/
theorem QueueTaken.takeOff (h : QueueTaken s J t) (c : Chan) : QueueTaken s J (takePhantom false c t) := by
  obtain ⟨cards, phantom, queue⟩ := changeSetting_parts c (fun x => { x with phantom := false }) t
  have set := h.congr cards phantom queue
  have leaves (st : PhantomState) (queued : st ≠ .queued) (ramping : st ≠ .rampUp) (u : State) (hu : QueueTaken s J u) :
      QueueTaken s J (changePhantom c st .requested u) := (hu.leaves c queued ramping).congr rfl rfl rfl
  show QueueTaken s J (phantomOff c _)
  unfold phantomOff
  split
  · exact leaves .off (by decide) (by decide) _ set
  · exact (leaves .rampDown (by decide) (by decide) _ set).startQueued
  · exact leaves .rampDown (by decide) (by decide) _ set
  · exact leaves .rampDown (by decide) (by decide) _ set
  · exact set
  · exact set

/-! ### Which channels have started (R103) -/

/-- From s to t channels J have been queued and channels S have been started: those of the queue on PRESENT cards, from the head
on. -/
structure Starting (s : State) (J S : List Chan) (t : State) : Prop where
  taken : QueueTaken s J t
  split : (s.startQueue ++ J).filter s.cardPresent = S ++ t.startQueue.filter s.cardPresent
  ramping : ∀ c, (t.phantomOf c).state = .rampUp ↔ (s.phantomOf c).state = .rampUp ∨ c ∈ S
  bound : S.length ≤ 4 - rampingCount s

theorem Starting.congr (h : Starting s J S t) (cards : u.cards = t.cards) (phantom : u.phantom = t.phantom)
    (queue : u.startQueue = t.startQueue) : Starting s J S u where
  taken := h.taken.congr cards phantom queue
  split := by rw [queue]; exact h.split
  ramping := by unfold State.phantomOf; rw [phantom]; exact h.ramping
  bound := h.bound

/-- The channels on PRESENT cards of those that were in the queue or have joined it. -/
theorem Starting.nodup (h : Starting s J S t) : (S ++ t.startQueue.filter s.cardPresent).Nodup := h.split ▸ h.taken.nodup.filter _

/-- A started channel was not in RAMP_UP. -/
theorem Starting.started_ne_rampUp (h : Starting s J S t) (law : StartQueueLaw s) (fresh : ∀ c ∈ J, (s.phantomOf c).state = .off)
    (hc : c ∈ S) : (s.phantomOf c).state ≠ .rampUp := by
  have member : c ∈ (s.startQueue ++ J).filter s.cardPresent := h.split ▸ List.mem_append_left _ hc
  obtain waited | joined := List.mem_append.1 (List.mem_of_mem_filter member)
  · rw [(law.2 c).1 waited]; decide
  · rw [fresh c joined]; decide

theorem Starting.count (h : Starting s J S t) (law : StartQueueLaw s) (fresh : ∀ c ∈ J, (s.phantomOf c).state = .off) :
    rampingCount t = rampingCount s + S.length :=
  rampingCount_add (List.nodup_append.1 h.nodup).1 h.ramping fun _ hc => h.started_ne_rampUp law fresh hc

theorem Starting.starts (h : Starting s J S t) (law : StartQueueLaw s) (fresh : ∀ c ∈ J, (s.phantomOf c).state = .off)
    (next : nextStart t = some c) : Starting s J (S ++ [c]) (startPhantom c t) := by
  obtain ⟨few, found⟩ := nextStart_eq_some.1 next
  have count := h.count law fresh
  obtain ⟨present, before, after, queue, absent⟩ := List.find?_eq_some_iff_append.1 found
  have cards (d : Chan) : t.cardPresent d = s.cardPresent d := cardPresent_congr h.taken.cards d
  simp only [cards] at present absent
  have waiting : t.startQueue.filter s.cardPresent = c :: after.filter s.cardPresent := by
    rw [queue, List.filter_append, List.filter_cons_of_pos present,
      List.filter_eq_nil_iff.2 fun d hd => by simpa using absent d hd]
    rfl
  have nodup := h.nodup
  rw [waiting] at nodup
  have out : c ∉ after.filter s.cardPresent := (List.nodup_cons.1 (List.nodup_append.1 nodup).2.1).1
  have left : (startPhantom c t).startQueue.filter s.cardPresent = after.filter s.cardPresent := by
    have filtered : (startPhantom c t).startQueue = t.startQueue.filter fun d => decide (d ≠ c) := by
      rw [(startPhantom_parts c t).2.2, enterPhantom_startQueue, queueAfter, if_neg (by decide)]
    rw [filtered, List.filter_comm, waiting, List.filter_cons_of_neg (by simp), List.filter_eq_self.2]
    exact fun d hd => decide_eq_true fun e => out (e ▸ hd)
  obtain ⟨cards', phantom', queue'⟩ := startPhantom_parts c t
  refine ⟨(h.taken.starts next).congr cards' phantom' queue', ?_, fun d => ?_, ?_⟩
  · rw [left, h.split, waiting, List.append_assoc, List.singleton_append]
  · rw [List.mem_append, List.mem_singleton, ← or_assoc, ← h.ramping d]
    by_cases e : c = d
    · subst e
      exact iff_of_true (enterPhantom_same c .rampUp t).1 (.inr rfl)
    · rw [or_iff_left (Ne.symm e), (spares_startPhantom e t).phantom.1]
  · rw [List.length_append, List.length_singleton]
    omega

/-- The starts that the test calls for, until it fails; four are the most there can be. -/
theorem Starting.startUpTo {n : Nat} (h : Starting s J S t) (law : StartQueueLaw s)
    (fresh : ∀ c ∈ J, (s.phantomOf c).state = .off)
    (hn : 4 ≤ rampingCount t + n) : ∃ S', Starting s J S' (startUpTo n t) ∧ nextStart (startUpTo n t) = none := by
  induction n generalizing S t with
  | zero =>
    refine ⟨S, h, ?_⟩
    show nextStart t = none
    unfold nextStart Config.maxRamping
    exact if_neg (by omega)
  | succ n ih =>
    unfold Machine.startUpTo
    split
    · next none => exact ⟨S, h, none⟩
    · next c next =>
      have started := h.starts law fresh next
      refine ih started ?_
      rw [started.count law fresh, List.length_append, List.length_singleton]
      rw [h.count law fresh] at hn
      omega

/-- Once no start is left to make, the channels started are the first of the queue, as many as could be (R103). -/
theorem Starting.eq_take (h : Starting s J S t) (law : StartQueueLaw s) (fresh : ∀ c ∈ J, (s.phantomOf c).state = .off)
    (none : nextStart t = none) : S = ((s.startQueue ++ J).filter s.cardPresent).take (4 - rampingCount s) := by
  rw [h.split]
  have count := h.count law fresh
  have bound := h.bound
  by_cases few : rampingCount t < 4
  · have idle : t.startQueue.filter s.cardPresent = [] := by
      refine List.filter_eq_nil_iff.2 fun d hd present => ?_
      have found : t.startQueue.find? (fun x => t.cardPresent x) = .none := by
        unfold nextStart Config.maxRamping at none
        rwa [if_pos few] at none
      exact List.find?_eq_none.1 found d hd ((cardPresent_congr h.taken.cards d).trans present)
    rw [idle, List.append_nil, List.take_of_length_le h.bound]
  · rw [List.take_append_of_le_length (by omega), List.take_of_length_le h.bound]

/-- A channel that joins the queue, before the test for starts. -/
theorem Starting.joins (h : Starting s J S t) (out : c ∉ s.startQueue ++ J) (off : (t.phantomOf c).state = .off) :
    Starting s (J ++ [c]) S (changePhantom c .queued .requested t) := by
  have waiting : (changePhantom c .queued .requested t).startQueue = t.startQueue ++ [c] := by
    have notIn : c ∉ t.startQueue := fun hc => by cases ((h.taken.law.2 c).1 hc).symm.trans off
    show (enterPhantom c .queued t).startQueue = _
    rw [enterPhantom_startQueue, queueAfter, if_pos rfl, List.filter_eq_self.2]
    exact fun d hd => decide_eq_true fun e => notIn (e ▸ hd)
  refine ⟨(h.taken.joins out).congr rfl rfl rfl, ?_, fun d => ?_, h.bound⟩
  · rw [waiting, ← List.append_assoc, List.filter_append, h.split, List.filter_append, List.append_assoc]
  · rw [← h.ramping d]
    show ((enterPhantom c .queued t).phantomOf d).state = _ ↔ _
    by_cases e : c = d
    · subst e
      rw [(enterPhantom_same c .queued t).1, off]
      exact iff_of_false (by decide) (by decide)
    · rw [enterPhantom_phantomOf_ne e]

/-- While ON takes its range: what has started; and once a channel has been queued, no start is left to make. -/
def Launching (s : State) (J : List Chan) (t : State) : Prop :=
  ∃ S, Starting s J S t ∧ (if J = [] then S = [] else nextStart t = none)

theorem nextStart_congr (cards : u.cards = t.cards) (phantom : u.phantom = t.phantom) (queue : u.startQueue = t.startQueue) :
    nextStart u = nextStart t := by
  have present : u.cardPresent = t.cardPresent := funext fun c => cardPresent_congr cards c
  unfold nextStart rampingCount
  rw [present, phantom, queue]

theorem launching_refl (law : StartQueueLaw s) : Launching s [] s :=
  ⟨[], ⟨.refl law, by rw [List.append_nil, List.nil_append], fun c => by simp, Nat.zero_le _⟩, by rw [if_pos rfl]⟩

/-- One channel taken by ON. -/
theorem Launching.takeOn (h : Launching s J t) (law : StartQueueLaw s) (fresh : ∀ c ∈ J, (s.phantomOf c).state = .off)
    (hc : c ∉ J) (reached : MayStart c s t) :
    Launching s (J ++ if (s.phantomOf c).state = .off then [c] else []) (takePhantom true c t) := by
  obtain ⟨S, starting, done⟩ := h
  obtain ⟨cards, phantom, queue⟩ := changeSetting_parts c (fun x => { x with phantom := true }) t
  have set := starting.congr cards phantom queue
  have next := nextStart_congr cards phantom queue
  have record : (changeSetting c (fun x => { x with phantom := true }) t).phantomOf c = t.phantomOf c :=
    congrArg (Bank.get · c) phantom
  show Launching s _ (phantomOn c _)
  generalize changeSetting c (fun x => { x with phantom := true }) t = u at set next record ⊢
  have stillOff : (t.phantomOf c).state = .off ↔ (s.phantomOf c).state = .off := by
    obtain ⟨-, spared | started⟩ := reached
    · rw [spared.phantom.1]
    · rw [started.2.1.state, (law.2 c).1 started.1.1]
      exact iff_of_false (by decide) (by decide)
  by_cases off : (s.phantomOf c).state = .off
  · have out : c ∉ s.startQueue ++ J := fun hm =>
      (List.mem_append.1 hm).elim (fun hq => by cases ((law.2 c).1 hq).symm.trans off) hc
    have offU : (u.phantomOf c).state = .off := by rw [record]; exact stillOff.2 off
    have on : phantomOn c u = startQueued (changePhantom c .queued .requested u) := by unfold phantomOn; rw [offU]
    rw [if_pos off, on]
    obtain ⟨S', started, none⟩ := (set.joins out offU).startUpTo (n := Config.maxRamping) law
      (fun d hd => (List.mem_append.1 hd).elim (fresh d) fun e => List.mem_singleton.1 e ▸ off) (Nat.le_add_left _ _)
    exact ⟨S', started, by rw [if_neg (by simp)]; exact none⟩
  · have on : phantomOn c u = u := by
      unfold phantomOn
      rw [record]
      split
      · next e => exact absurd (stillOff.1 e) off
      all_goals rfl
    rw [if_neg off, on, List.append_nil]
    refine ⟨S, set, ?_⟩
    rw [next]
    exact done

/-- The channels of a range taken by ON. -/
theorem Launching.takeAll {l : List Chan} (h : Launching s J t) (law : StartQueueLaw s)
    (fresh : ∀ c ∈ J, (s.phantomOf c).state = .off) (hl : l.Nodup) (apart : ∀ c ∈ l, c ∉ J) (reached : ∀ c ∈ l, MayStart c s t) :
    Launching s (J ++ l.filter fun c => decide ((s.phantomOf c).state = .off)) (forEach (takePhantom true) l t) := by
  induction l generalizing J t with
  | nil => rw [List.filter_nil, List.append_nil]; exact h
  | cons c l ih =>
    obtain ⟨hc, hl⟩ := List.nodup_cons.1 hl
    have one := h.takeOn law fresh (apart c List.mem_cons_self) (reached c List.mem_cons_self)
    have joins : (c :: l).filter (fun c => decide ((s.phantomOf c).state = .off)) =
        (if (s.phantomOf c).state = .off then [c] else []) ++ l.filter fun c => decide ((s.phantomOf c).state = .off) := by
      rw [List.filter_cons]
      by_cases off : (s.phantomOf c).state = .off
      · rw [if_pos (decide_eq_true off), if_pos off]; rfl
      · rw [if_neg (by simpa using off), if_neg off]; rfl
    have joined {d : Chan} (hd : d ∈ if (s.phantomOf c).state = .off then [c] else []) :
        d = c ∧ (s.phantomOf d).state = .off := by
      split at hd
      · next off =>
        obtain rfl := List.mem_singleton.1 hd
        exact ⟨rfl, off⟩
      · cases hd
    rw [joins, ← List.append_assoc]
    refine ih one (fun d hd => (List.mem_append.1 hd).elim (fresh d) fun h => (joined h).2) hl (fun d hd hm => ?_) fun d hd => ?_
    · obtain inJ | here := List.mem_append.1 hm
      · exact apart d (List.mem_cons_of_mem _ hd) inJ
      · exact hc ((joined here).1 ▸ hd)
    · exact (reached d (List.mem_cons_of_mem _ hd)).trans (mayStart_takePhantom (fun e : c = d => hc (e ▸ hd)) true t)

end

/-! ### The request (R99) -/

section
variable {p : Port} {m : Message} {s u : State} {cs l : List Chan} {c : Chan} {on : Bool}

theorem MayStart.channel (h : MayStart c s u) : u.channel c = s.channel c := by
  obtain ⟨-, spared | started⟩ := h
  · exact spared.channel
  · exact started.2.1.channel

theorem takesOne_takePhantom (on : Bool) : TakesOne (takePhantom on) fun _ _ => false where
  channel hd s := (mayStart_takePhantom hd on s).channel
  cards c s := agree_takePhantom on c s .cards (by decide)
  sat _ := rfl

/-- A good range and code: the reply, and the state with the range taken channel by channel. -/
theorem exec_setPhantom_taken (h : Accepted p kindSetPhantom m s) (hr : rangeOf 64 (u8 m.body 0) (u8 m.body 1) = some cs)
    (code : u8 m.body 2 ≤ 1) (hl : l = authorised p s cs)
    (hu : u = forEach (takePhantom (decide (u8 m.body 2 = 1))) (authorised p s cs) s) :
    exec (.setPhantom p) s = .next (answered p m
      (if l.length < cs.length then .noAuthority else if l.all s.cardPresent then .done else .deferred) l.length
      (setByte (Bank.tabulate fun k => l.any fun c => !s.cardPresent c && decide (cardOf c = k)) ++ [byte u.startQueue.length])
      u) := by
  have taken := takeChannels_spec (p := p) (takesOne_takePhantom (decide (u8 m.body 2 = 1))) (rangeOf_nodup hr)
    (Taken.start s) rfl
  rw [show (Taken.start s).state = s from rfl, ← hl] at taken
  have served : servePhantom p m s =
      let t := takeChannels p (takePhantom (u8 m.body 2 = 1)) (fun _ _ => false) cs (Taken.start s)
      { state := t.state, status := if t.stopped then .noAuthority else if t.waits then .deferred else .done,
        steps := t.count, result := setByte t.waiting ++ [byte t.state.startQueue.length] } := by
    unfold servePhantom
    rw [hr]
    exact if_neg (by omega)
  have state : forEach (takePhantom (decide (u8 m.body 2 = 1))) l (Taken.start s).state = u := by rw [hl, hu]; rfl
  have waits : (takeChannels p (takePhantom (decide (u8 m.body 2 = 1))) (fun _ _ => false) cs (Taken.start s)).waits = true ↔
      ¬ l.all s.cardPresent = true := by
    rw [taken.waits_iff]
    simp
  rw [exec_served h rfl, served]
  dsimp only
  rw [taken.state, taken.count_eq, taken.stopped, taken.waiting_eq, state]
  simp only [decide_eq_true_eq, waits, ite_not]

/-- A bad range or code is refused whole. -/
theorem servePhantom_refused (h : rangeOf 64 (u8 m.body 0) (u8 m.body 1) = none ∨ 1 < u8 m.body 2) :
    servePhantom p m s = refuse .range s := by
  unfold servePhantom
  obtain h | h := h
  · rw [h]
  · split
    · rfl
    · exact if_pos h

/-- The queue after the request (R102), with the channels that have been queued by it. -/
theorem queueTaken_forEach (law : StartQueueLaw s) (hl : l.Nodup) (on : Bool) :
    QueueTaken s (l.filter fun c => on && decide ((s.phantomOf c).state = .off)) (forEach (takePhantom on) l s) := by
  cases on
  · rw [List.filter_eq_nil_iff.2 fun _ _ => by simp]
    exact forEach_keeps (P := QueueTaken s []) (fun c t ht => ht.takeOff c) l s (.refl law)
  · obtain ⟨S, starting, -⟩ := (launching_refl law).takeAll law (fun _ h => by cases h) hl (fun _ _ h => by cases h)
      fun c _ => .refl c s
    simpa using starting.taken

/-- After ON, the channels that have been started: none where none was queued, or the first of the queue (R103). -/
theorem started_forEach (law : StartQueueLaw s) (hl : l.Nodup) (c : Chan) :
    ((s.phantomOf c).state ≠ .rampUp ∧ ((forEach (takePhantom true) l s).phantomOf c).state = .rampUp) ↔
      (l.filter fun c => decide ((s.phantomOf c).state = .off)) ≠ [] ∧
        c ∈ ((s.startQueue ++ l.filter fun c => decide ((s.phantomOf c).state = .off)).filter s.cardPresent).take
          (4 - rampingCount s) := by
  obtain ⟨S, starting, done⟩ := (launching_refl law).takeAll law (fun _ h => by cases h) hl (fun _ _ h => by cases h)
    fun c _ => .refl c s
  rw [List.nil_append] at starting done
  have fresh (d : Chan) (hd : d ∈ l.filter fun c => decide ((s.phantomOf c).state = .off)) : (s.phantomOf d).state = .off :=
    of_decide_eq_true (List.mem_filter.1 hd).2
  have members : ((s.phantomOf c).state ≠ .rampUp ∧ ((forEach (takePhantom true) l s).phantomOf c).state = .rampUp) ↔ c ∈ S := by
    rw [starting.ramping]
    exact ⟨fun ⟨notYet, up⟩ => up.resolve_left notYet, fun h => ⟨starting.started_ne_rampUp law fresh h, .inr h⟩⟩
  rw [members]
  by_cases joined : (l.filter fun c => decide ((s.phantomOf c).state = .off)) = []
  · rw [if_pos joined] at done
    rw [done]
    exact iff_of_false (by simp) fun h => h.1 joined
  · rw [if_neg joined] at done
    rw [and_iff_right joined, ← starting.eq_take law fresh done]

/-- No channel that waited is started by ON where no start was left to make (R103). -/
theorem not_started_of_waiting (law : StartQueueLaw s) (hl : l.Nodup) (running : s.power = .running) (idle : StartsLaw s)
    (queued : (s.phantomOf c).state = .queued) : ((forEach (takePhantom true) l s).phantomOf c).state ≠ .rampUp := by
  intro up
  obtain ⟨-, member⟩ := (started_forEach law hl c).1 ⟨by rw [queued]; decide, up⟩
  have few : rampingCount s < 4 := by
    by_contra many
    rw [Nat.sub_eq_zero_of_le (Nat.not_lt.1 many)] at member
    cases member
  have present := (List.mem_filter.1 (List.mem_of_mem_take member)).2
  rw [idle running few c queued] at present
  cases present

end

/-! #### The channels one by one -/

section
variable {c : Chan} {on : Bool} {s u : State}

/-- A channel that the request does not take moves only by starting. -/
theorem MayStart.cases (h : MayStart c s u) (law : c ∈ s.startQueue ↔ (s.phantomOf c).state = .queued) :
    u.phantomOf c = s.phantomOf c ∨ (s.phantomOf c).state = .queued ∧ Brought True c .rampUp .started s u :=
  h.2.imp (fun spared => spared.phantom.1) fun started => ⟨law.1 started.1.1, started.brought True rfl⟩

/-- A channel, taken or not: how it can have moved from each state. -/
theorem moved_of_taken (h : PhantomTaken on c s u ∨
      (u.phantomOf c = s.phantomOf c ∨ (s.phantomOf c).state = .queued ∧ Brought True c .rampUp .started s u)) :
    ((s.phantomOf c).state ≠ .rampUp → (u.phantomOf c).state = .rampUp →
      ∃ said : Prop, Brought said c .rampUp .started s u ∧
        ((on = true → (s.phantomOf c).state = .queued → (s.channel c).phantom = true) → said)) ∧
    ((s.phantomOf c).state ≠ .rampDown → (u.phantomOf c).state = .rampDown → Brought True c .rampDown .requested s u) ∧
    ((s.phantomOf c).state = .off → (u.phantomOf c).state = .queued → Brought True c .queued .requested s u) ∧
    ((s.phantomOf c).state = .queued → (u.phantomOf c).state = .off → Brought True c .off .requested s u) := by
  obtain (⟨-, same⟩ | ⟨asked, brought⟩ | ⟨isOn, waited, brought⟩ | ⟨-, waited, brought⟩) | same | ⟨waited, brought⟩ := h
  · rw [same]
    exact ⟨fun n e => absurd e n, fun n e => absurd e n, fun e e' => (by cases e.symm.trans e'),
      fun e e' => (by cases e.symm.trans e')⟩
  · rw [brought.state]
    exact ⟨fun _ e => absurd e (PhantomState.requested_ne_rampUp asked), fun _ e => e ▸ brought, fun _ e => e ▸ brought,
      fun _ e => e ▸ brought⟩
  · rw [brought.state]
    exact ⟨fun _ _ => ⟨_, brought, fun wanted => wanted isOn⟩, fun _ e => (by cases e), fun _ e => (by cases e),
      fun _ e => (by cases e)⟩
  · rw [brought.state]
    exact ⟨fun _ e => (by cases e), fun _ _ => brought, fun _ e => (by cases e), fun _ e => (by cases e)⟩
  · rw [same]
    exact ⟨fun n e => absurd e n, fun n e => absurd e n, fun e e' => (by cases e.symm.trans e'),
      fun e e' => (by cases e.symm.trans e')⟩
  · rw [brought.state]
    exact ⟨fun _ _ => ⟨_, brought, fun _ => trivial⟩, fun _ e => (by cases e), fun _ e => (by cases e), fun _ e => (by cases e)⟩

/-- What ON makes of a channel that it takes (R100). -/
theorem PhantomTaken.of_on (h : PhantomTaken true c s u) :
    ((s.phantomOf c).state = .queued → (u.phantomOf c).state = .queued ∨ (u.phantomOf c).state = .rampUp) ∧
      ((s.phantomOf c).state = .off → (u.phantomOf c).state = .queued ∨ (u.phantomOf c).state = .rampUp) ∧
      ((s.phantomOf c).state ≠ .off → (s.phantomOf c).state ≠ .queued → u.phantomOf c = s.phantomOf c) := by
  obtain ⟨asked, same⟩ | ⟨asked, brought⟩ | ⟨-, waited, brought⟩ | ⟨off, -, -⟩ := h
  · rw [same]
    refine ⟨.inl, fun e => ?_, fun _ _ => rfl⟩
    rw [e] at asked; cases asked
  · have off : (s.phantomOf c).state = .off := by
      cases e : (s.phantomOf c).state
      case off => rfl
      all_goals exact absurd (by rw [e]; rfl) asked
    refine ⟨fun e => (by cases e.symm.trans off), fun e => .inl ?_, fun n => absurd off n⟩
    rw [brought.state, e]; rfl
  · exact ⟨fun _ => .inr brought.state, fun _ => .inr brought.state, fun off queued => (waited.elim off queued).elim⟩
  · cases off

/-- What OFF makes of a channel that it takes (R101). -/
theorem PhantomTaken.of_off (h : PhantomTaken false c s u) :
    ((s.phantomOf c).state = .off ∨ (s.phantomOf c).state = .rampDown → u.phantomOf c = s.phantomOf c) ∧
      ((s.phantomOf c).state = .queued → (u.phantomOf c).state = .off ∨ (u.phantomOf c).state = .rampDown) ∧
      ((s.phantomOf c).state = .rampUp ∨ (s.phantomOf c).state = .settleUp ∨ (s.phantomOf c).state = .on →
        (u.phantomOf c).state = .rampDown) := by
  obtain ⟨asked, same⟩ | ⟨asked, brought⟩ | ⟨on, -, -⟩ | ⟨-, waited, brought⟩ := h
  · refine ⟨fun _ => same, fun e => ?_, fun e => ?_⟩
    · rw [e] at asked; cases asked
    · obtain e | e | e := e <;> · rw [e] at asked; cases asked
  · rw [brought.state]
    refine ⟨fun e => absurd ?_ asked, fun e => .inl (by rw [e]; rfl), fun e => ?_⟩
    · obtain e | e := e <;> · rw [e]; rfl
    · obtain e | e | e := e <;> · rw [e]; rfl
  · cases on
  · refine ⟨fun e => ?_, fun _ => .inr brought.state, fun _ => brought.state⟩
    rw [waited] at e
    exact (e.elim (fun e => by cases e) fun e => by cases e)

end

section
variable {l : List Chan} {s u : State} {c : Chan} {on : Bool}

/-- What the request makes of a channel's setting, with SETTING CHANGED where it changes (R99). -/
theorem setting_forEach (law : StartQueueLaw s) (hl : l.Nodup) (hu : u = forEach (takePhantom on) l s) :
    (u.channel c = if c ∈ l then { s.channel c with phantom := on } else s.channel c) ∧
      (c ∈ l → (s.channel c).phantom ≠ on → u.retained.quiet = some 0 ∧
        Posted (.settingChanged c (s.channel c).desired on (s.channel c).desiredBy (s.channel c).authority) u) := by
  subst hu
  by_cases hc : c ∈ l
  · obtain ⟨-, channel, told⟩ := forEach_takePhantom_taken (on := on) hl hc (law.2 c)
    rw [if_pos hc]
    exact ⟨channel, fun _ => told⟩
  · rw [if_neg hc]
    exact ⟨(mayStart_forEach on hc s).channel, fun h => absurd h hc⟩

/-- A channel, taken by the request or not. -/
theorem taken_or_left (law : StartQueueLaw s) (hl : l.Nodup) (hu : u = forEach (takePhantom on) l s) :
    (c ∈ l → PhantomTaken on c s u) ∧
      (c ∉ l → u.phantomOf c = s.phantomOf c ∨ (s.phantomOf c).state = .queued ∧ Brought True c .rampUp .started s u) := by
  subst hu
  exact ⟨fun hc => (forEach_takePhantom_taken hl hc (law.2 c)).1, fun hc => (mayStart_forEach on hc s).cases (law.2 c)⟩

end

/-- Settles O46, from what each channel comes to and which channels of the queue have started. -/
theorem setPhantomTakesTheRange : Obligations.SetPhantomTakesTheRange := by
  intro p m s h
  refine ⟨fun bad => exec_refused h rfl (servePhantom_refused bad), fun cs hr code law => ?_⟩
  obtain ⟨⟨running, -⟩, -⟩ := id h
  have hl := authorised_nodup (p := p) (s := s) (rangeOf_nodup hr)
  have ran := exec_setPhantom_taken h hr code rfl rfl
  generalize authorised p s cs = l at ran hl ⊢
  have off (h0 : u8 m.body 2 = 0) : decide (u8 m.body 2 = 1) = false := decide_eq_false (by omega)
  generalize hon : decide (u8 m.body 2 = 1) = on at ran off ⊢
  have on_iff : u8 m.body 2 = 1 ↔ on = true := by rw [← hon, decide_eq_true_iff]
  generalize hu : forEach (takePhantom on) l s = u at ran
  have queue := queueTaken_forEach law hl on
  rw [hu] at queue
  refine ⟨u, ran, fun joined hj => ?_, fun c hc up d hd present => ?_, fun c => ?_⟩
  · subst hj
    refine ⟨eq_filter_of_sublist queue.order queue.nodup fun c _ => decide_eq_true_iff.trans (queue.law.2 c).symm, fun h1 c => ?_⟩
    obtain rfl := on_iff.1 h1
    rw [← hu]
    simpa using started_forEach law hl c
  · exact queue.older (sublist_of_mem_takeWhile hc hd) up present
  · obtain ⟨channel, told⟩ := setting_forEach (c := c) law hl hu.symm
    obtain ⟨taken, left⟩ := taken_or_left (c := c) law hl hu.symm
    obtain ⟨started, discharged, queued, dropped⟩ := moved_of_taken (c := c) (on := on) (s := s) (u := u)
      ((em (c ∈ l)).imp taken left)
    have byOn (h1 : u8 m.body 2 = 1) (hc : c ∈ l) := (on_iff.1 h1 ▸ taken hc : PhantomTaken true c s u).of_on
    have byOff (h0 : u8 m.body 2 = 0) (hc : c ∈ l) := (off h0 ▸ taken hc : PhantomTaken false c s u).of_off
    refine ⟨told, fun notYet up => ?_, fun notYet down => ?_, fun wasOff waits => ?_, fun waited isOff => ?_, channel,
      fun waited asked => ?_, fun hc notWaiting => (left hc).resolve_right fun h => notWaiting h.1,
      fun hc h1 => (byOn h1 hc).2.1, fun hc h1 => (byOn h1 hc).2.2, fun hc h0 => (byOff h0 hc).1, fun hc h0 => (byOff h0 hc).2.1,
      fun hc h0 => (byOff h0 hc).2.2⟩
    · obtain ⟨said, brought, saying⟩ := started notYet up
      refine ⟨brought.timer, brought.powered rfl, fun sure => brought.posted (saying fun isOn waited => ?_)⟩
      refine sure.elim (fun idle => absurd up ?_) fun wanted => wanted waited
      subst isOn hu
      exact not_started_of_waiting law hl running idle waited
    · have brought := discharged notYet down
      exact ⟨brought.timer, brought.unpowered rfl, brought.posted trivial⟩
    · have brought := queued wasOff waits
      exact ⟨brought.timer, brought.posted trivial⟩
    · have brought := dropped waited isOff
      exact ⟨brought.timer, brought.posted trivial⟩
    · by_cases hc : c ∈ l
      · exact (byOn (asked.resolve_left fun h => h hc) hc).1 waited
      · exact (left hc).imp (fun same => by rw [same]; exact waited) fun h => h.2.state

end Sys2Proof.Machine
end
